-- ==== Sys2Proof/Word.lean ====
section
/-! DEFINITION. The plain data every other file builds on: bytes and bus words, tables keyed by a number, the sparse byte
memories (DDR5, the flash devices), and the shape of a register field. -/
namespace Sys2Proof

/-- One byte of a packet, a payload or a memory. -/
abbrev Byte := BitVec 8

/-- One register access on BAR0 (registers are 32 bits wide, R205). -/
abbrev Word := BitVec 32

/-- A table with numeric keys, kept in rising order of the keys. -/
abbrev KMap (α : Type) := List (Nat × α)

namespace KMap

/-- The entry under key `k`. -/
def get? {α : Type} : KMap α → Nat → Option α
  | [], _ => none
  | (k', a) :: m, k => if k' = k then some a else KMap.get? m k

/-- Put `a` under key `k`, keeping the order. -/
def set {α : Type} : KMap α → Nat → α → KMap α
  | [], k, a => [(k, a)]
  | (k', b) :: m, k, a =>
    if k' < k then (k', b) :: KMap.set m k a else if k' = k then (k, a) :: m else (k, a) :: (k', b) :: m

/-- Drop the entry under key `k`. -/
def erase {α : Type} (m : KMap α) (k : Nat) : KMap α := m.filter fun p => p.1 != k

/-- The entry under `k`, or `d` where there is none. -/
def getD {α : Type} (m : KMap α) (k : Nat) (d : α) : α := (m.get? k).getD d

/-- Whether `k` has an entry. -/
def has {α : Type} (m : KMap α) (k : Nat) : Bool := (m.get? k).isSome

/-- The keys, in order. -/
def keys {α : Type} (m : KMap α) : List Nat := m.map Prod.fst

/-- The values, in key order. -/
def vals {α : Type} (m : KMap α) : List α := m.map Prod.snd

/-- Change the entry under `k`, which must exist; nothing changes otherwise. -/
def modify {α : Type} (m : KMap α) (k : Nat) (f : α → α) : KMap α :=
  match m.get? k with
  | some a => m.set k (f a)
  | none => m

end KMap

/-- A sparse byte memory: (address, byte) pairs with strictly rising addresses; every other address reads as the
memory's own fill byte, and no entry holds that byte. -/
abbrev Mem := List (Nat × BitVec 8)

namespace Mem

/-- The byte at address `a` of a memory whose unlisted bytes read as `fill`. -/
def read (fill : Byte) : Mem → Nat → Byte
  | [], _ => fill
  | (a', b) :: m, a => if a' < a then Mem.read fill m a else if a' = a then b else fill

/-- Write byte `b` at address `a`, keeping the canonical form: a byte equal to the fill byte is not listed. -/
def write (fill : Byte) : Mem → Nat → Byte → Mem
  | [], a, b => if b = fill then [] else [(a, b)]
  | (a', b') :: m, a, b =>
    if a' < a then (a', b') :: Mem.write fill m a b
    else if a' = a then (if b = fill then m else (a, b) :: m)
    else if b = fill then (a', b') :: m else (a, b) :: (a', b') :: m

/-- `m` lists addresses in strictly rising order from `lo` on, and no fill byte. -/
def wfFrom (fill : Byte) : Nat → Mem → Bool
  | _, [] => true
  | lo, (a, b) :: m => decide (lo ≤ a) && decide (b ≠ fill) && wfFrom fill (a + 1) m

/-- The canonical form of a memory. -/
def wf (fill : Byte) (m : Mem) : Bool := wfFrom fill 0 m

/-- Write the bytes `bs` from address `a` on. -/
def writeList (fill : Byte) : Mem → Nat → List Byte → Mem
  | m, _, [] => m
  | m, a, b :: bs => writeList fill (write fill m a b) (a + 1) bs

/-- Read `n` bytes from address `a` on. -/
def readList (fill : Byte) (m : Mem) (a : Nat) : Nat → List Byte
  | 0 => []
  | n + 1 => read fill m a :: readList fill m (a + 1) n

/-- Give every byte of [a, a + n) the fill byte (an erase). -/
def clear (a n : Nat) (m : Mem) : Mem := m.filter fun c => !(decide (a ≤ c.1) && decide (c.1 < a + n))

end Mem

namespace Machine

/-- The access types of Table HOST-3 (the ‑S suffix is `Keep.warm`). -/
inductive Acc where
  | ro | rw | wo | w1c | w1s | rc | sc | rwh
  deriving DecidableEq, Repr

/-- What a register field outlives: nothing, a warm restart (the ‑S suffix), or a loss of supply (held in MRAM). -/
inductive Keep where
  | none | warm | mram
  deriving DecidableEq, Repr

/-- A register field: the byte offset of its register in BAR0, its lowest bit, its width. -/
structure Fld where
  off : Nat
  lo : Nat
  w : Nat
  deriving DecidableEq, Repr

/-- The key under which the register file holds a field. -/
def Fld.key (f : Fld) : Nat := f.off * 32 + f.lo

/-- A field as the register tables give it. -/
structure RegFld where
  fld : Fld
  acc : Acc
  keep : Keep
  src : Bool
  rst : Nat
  deriving DecidableEq, Repr

/-- A register that stands `count` times at steps of `stride` bytes, with the fields of its first instance. -/
structure RegRow where
  stride : Nat
  count : Nat
  flds : List RegFld
  deriving DecidableEq, Repr

/-- The register file: the value of each field, under its key; a field that is not listed holds 0. -/
abbrev Regs := KMap Nat

/-- The value of a field. -/
def Regs.rd (r : Regs) (f : Fld) : Nat := KMap.getD r f.key 0

/-- Store a value in a field, cut to the field's width. -/
def Regs.wr (r : Regs) (f : Fld) (v : Nat) : Regs := KMap.set r f.key (v % 2 ^ f.w)

end Machine
end Sys2Proof
end

