-- ==== Sys2Proof/Types.lean ====
section
/-! DEFINITION. The data the commands and the state share: stamps and event records, mailbox entries, transmit requests,
and the contents of the configuration sections, of a billet and of a configuration device as the module reads them. -/
namespace Sys2Proof

/-! ### Records (14_records_archive.md) -/

/-- The stamp of a record: TAI nanoseconds with the quality, or operating seconds with the power-cycle count (R814). -/
inductive Stamp where
  | cal (tai qual : Nat)
  | op (opsec pcyc qual : Nat)
  deriving DecidableEq, Repr

/-- One event record (Table REC-1); its CRC is computed when it is read. -/
structure Rec where
  code : Nat
  source : Nat
  seq : Nat
  stamp : Stamp
  par0 : Nat
  par1 : Nat
  par2 : Nat
  rep : Nat
  coal : Bool
  hw : Bool
  restored : Bool
  deriving DecidableEq, Repr

/-- A record on its way to a log: the log, the record, the spindle time of its event and whether the producer may still be
answered (LOG_APPEND, R969). -/
structure Posted where
  log : Nat
  rcd : Rec
  time : Nat
  tag : Option Nat
  deriving DecidableEq, Repr

/-- One tally record (Table ARCH-8). -/
structure TallyRec where
  kind : Nat
  cls : Nat
  failed : Nat
  spare : Nat
  margin : Nat
  opsec : Nat
  pcyc : Nat
  reason : Nat
  stamp : Nat
  detail : Nat
  tseq : Nat
  deriving DecidableEq, Repr

/-- A disturbance window of the archive (R868). -/
structure DistWin where
  did : Nat
  trig : Nat
  start : Nat
  stop : Nat
  cause : Nat
  closed : Bool
  deriving DecidableEq, Repr

/-! ### Mailbox (04_host_registers.md) -/

/-- A response entry (Table HOST-7). -/
structure Resp where
  code : Nat
  tag : Nat
  status : Nat
  done : Nat
  payload : List Byte
  deriving DecidableEq, Repr

/-- A report entry (R223) with its class (Table NET-9); LEN is the length of `body`. -/
structure Report where
  kind : Nat
  cls : Nat
  rseq : Nat
  body : List Byte
  deriving DecidableEq, Repr

/-- A command slot as the host wrote it (Table HOST-6). -/
structure CmdSlot where
  code : Nat
  tag : Nat
  plen : Nat
  flags : Nat
  ever : Nat
  payload : List Byte
  deriving DecidableEq, Repr

/-- A record of a tunnel datagram (Table HOST-11). -/
structure TunRec where
  op : Nat
  space : Nat
  len : Nat
  addr : Nat
  data : List Byte
  deriving DecidableEq, Repr

/-- A tunnel request as received (Table HOST-10), with its source address (IPv6, or an IPv4 address below 2^32) and port, and its MAC as 32 bytes; whether the lengths agree and
whether it is a fragment are facts of the datagram. -/
structure TunReq where
  src : Nat
  port : Nat
  ver : Nat
  tslot : Nat
  tseq : Nat
  recs : List TunRec
  lensOk : Bool
  fragment : Bool
  mac : List Byte
  deriving DecidableEq, Repr

/-- One record of a tunnel reply: RSTAT and the data read. -/
structure TunReply where
  op : Nat
  rstat : Nat
  len : Nat
  addr : Nat
  data : List Byte
  deriving DecidableEq, Repr

/-- A tunnel reply datagram (Table HOST-10): where it goes, the key slot of its MAC, its contents before the MAC, and the
MAC. -/
structure TunMsg where
  dst : Nat
  port : Nat
  kslot : Nat
  tslot : Nat
  tseq : Nat
  recs : List TunReply
  bytes : List Byte
  mac : List Byte
  deriving DecidableEq, Repr

/-! ### Configuration sections -/

/-- A BAR4 window of section 0x0E. -/
structure WinCfg where
  size : Nat
  base : Nat
  en : Bool
  rd : Bool
  wr : Bool
  lock : Bool
  lane : Nat
  path : Nat
  deriving DecidableEq, Repr

/-- Section 0x0E: windows 0–6, the write policy of each path, the tunnel slots (chuck slot of each enabled one). -/
structure Sec0E where
  wins : KMap WinCfg
  blkpol : KMap Nat
  tuns : KMap Nat
  deriving DecidableEq, Repr

/-- Section 0x02, time. Offsets are minutes, ASYM nanoseconds. -/
structure Sec02 where
  src : Nat
  slewPpm : Nat
  holdLim : Nat
  utcOff : Option Int
  std : Int
  trans : List (Int × Int)
  validUntil : Nat
  leaps : List (Nat × Bool)
  ppsOutEn : Bool
  ppsOutQ : Bool
  ppsInDly : Nat
  asym : List Int
  tchEn : Bool
  rsel : Nat
  dsel : Nat
  vmax : Nat
  masterCapable : Bool
  boundary : Bool
  prio1 : Nat
  prio2 : Nat
  domain : Nat
  deriving DecidableEq, Repr

/-- A budget band of section 0x03: channels, budget in seconds an hour, acknowledgement share in percent. -/
structure Band where
  first : Nat
  last : Nat
  b : Nat
  ackres : Nat
  deriving DecidableEq, Repr

/-- Section 0x03, radio: region 1 = A, 2 = E, 0 = none named; powers in 0.1 dB above −10 dBm; the transmit mask as a
512-bit number; TIMETOL in ms, RHODEF in ppm; the slot of the segment master key, and the slot of each group KEYID in use. -/
structure Sec03 where
  region : Nat
  mask : Nat
  pcar : Nat
  ccap : Nat
  rsvAck : Nat
  trainMax : Nat
  calPer : Nat
  ccaLis : Nat
  ccaThr : Int
  modEui : Nat
  timeTol : Nat
  rhoDef : Nat
  trainTry : Nat
  bands : List Band
  mkslot : Nat
  gkeys : List (Nat × Nat)
  deriving DecidableEq, Repr

/-- A log of L9–L15 as section 0x0B defines it. -/
structure LogCfg where
  log : Nat
  cal : Bool
  auth : Bool
  firsts : Nat
  ring : Nat
  coalw : Nat
  deriving DecidableEq, Repr

/-- Section 0x0C, archive policy (Table REC-6); times in units of 0.1 s, FULLYRS in half years, ARCBW in MB/s. -/
structure Sec0C where
  nsids : List Nat
  arkSlot : Nat
  arcBw : Nat
  svMask : Nat
  fullYrs : Nat
  decRate : Nat
  pre : Nat
  post : Nat
  trigTrip : Bool
  trigBk : Bool
  trigMark : Bool
  trigBi : Nat
  reserve : Nat
  deriving DecidableEq, Repr

/-- A binary input of section 0x0F. -/
structure BiCfg where
  inv : Bool
  dbnc : Nat
  deriving DecidableEq, Repr

/-- A current loop of section 0x0F: `src` 0 HOST, 1 MAP. -/
structure LoopCfg where
  en : Bool
  faultLow : Bool
  src : Nat
  holdt : Nat
  fail21 : Bool
  deriving DecidableEq, Repr

/-- Section 0x0F, field I/O. The output part (R985) is `pulse` (maximum pulse of each PULSE output, ms), `spares` (spare
line → output), `rbset` (ms), `rated` and `bkmap` (backup element → primary lines); `outCrc` is the CRC-32 of its bytes, which
`Machine.withCrcs` computes from the section body. -/
structure Sec0F where
  pulse : KMap Nat
  spares : KMap Nat
  rbset : KMap Nat
  rated : KMap Nat
  bkmap : KMap (List Nat)
  outCrc : Nat
  bi : KMap BiCfg
  loops : KMap LoopCfg
  freq : Nat
  spt : Nat
  warn : Nat
  vset : Nat
  cap : Nat
  deriving DecidableEq, Repr

/-! ### Radio (06_radio.md) -/

/-- The classes of a transmit request, in falling priority (R346). -/
inductive TxCls where
  | ack | sync | howl | train
  deriving DecidableEq, Repr

/-- The priority of a class, 0 first. -/
def TxCls.rank : TxCls → Nat
  | .ack => 0 | .sync => 1 | .howl => 2 | .train => 3

/-- A transmit request: identity, channel, class, earliest and latest start, duration (spindle ns), the busy CCAs of its channel access so
far, and the frames to send in order, each with its preamble bytes and its PSDU. -/
structure TxReq where
  id : Nat
  chan : Nat
  cls : TxCls
  earliest : Nat
  latest : Nat
  dur : Nat
  nb : Nat := 0
  frames : List (Nat × List Byte) := []
  deriving DecidableEq, Repr

/-- A carrier on air or reserved: the request, its end, its level in 0.1 dB above −10 dBm, and when the module launches it so that its first
preamble bit leaves ANT0 at its start (R288). -/
structure Carrier where
  req : TxReq
  stop : Nat
  level : Int
  launch : Nat := 0
  deriving DecidableEq, Repr

/-- How a transmit request ended. -/
inductive TxResult where
  | late | budget | done | busy | cut
  deriving DecidableEq, Repr


/-! ### Air and lantern network (07_air_protocol.md, 08_lantern_network.md) -/

/-- A frame as a link engine receives it: what the PHR and the FCS check say, frame control, header and route fields
(Tables AIR-2, AIR-4, AIR-5, AIR-7), whether its sender is the EUI-64 of the record of its LN (R4, R448; its nonce shows
another one), the verdict of the MIC under that EUI, the channel, the strength (dBm + 150) and the replica's time at the first instruction of
the sync-detect handler (R287). -/
structure RxFrame where
  chan : Nat
  rssi : Nat
  t : Nat
  phrResv : Bool
  len : Nat
  fcsOk : Bool
  typ : Nat
  pver : Nat
  sec : Bool
  ar : Bool
  rt : Bool
  up : Bool
  resv : Bool
  seq : Nat
  dst : Nat
  src : Nat
  fcnt : Nat
  keyid : Nat
  hops : Nat
  idx : Nat
  relays : List Nat
  /-- ORIG of a howl header; 0xFFFFFE in another frame. -/
  orig : Nat
  euiOk : Bool
  micOk : Bool
  deriving DecidableEq, Repr

/-- A node ACK as received (Table AIR-9), with the replica's time at the first instruction of the sync-detect handler. -/
structure AckFrame where
  chan : Nat
  rssi : Nat
  t : Nat
  phrResv : Bool
  len : Nat
  fcsOk : Bool
  pver : Nat
  up : Bool
  resv : Bool
  fp : Bool
  seq : Nat
  ntime : Nat
  deriving DecidableEq, Repr

/-- The payload of a bark (Table AIR-12). -/
structure Bark where
  ntime48 : Nat
  rho : Nat
  pvmax : Nat
  tsc : Nat
  tunk : Bool
  slost : Bool
  mains : Bool
  relay : Bool
  rekey : Bool
  supply : Nat
  boots : Nat
  nbver : Nat
  upsec : Nat
  lq : Nat
  deriving DecidableEq, Repr

/-- A roster record (Table NET-1). -/
structure RosterRec where
  eui : Nat
  ln : Nat
  sensor : Bool
  mains : Bool
  relay : Bool
  tsc : Nat
  howlix : Nat
  home : Nat
  alt : Nat
  feeder : Nat
  hops : Nat
  relays : List Nat
  rchs : List Nat
  deriving DecidableEq, Repr

/-- Section 0x04: the roster and the network parameters of Table NET-2. -/
structure Sec04 where
  recs : List RosterRec
  hchan : List Nat
  hper : Nat
  hwin : Nat
  ksup : Nat
  hkey : Nat
  dldepth : Nat
  deriving DecidableEq, Repr

/-! ### Lighting (09_lighting.md) -/

/-- One step of a day-profile: anchor, offset in minutes, level, ramp. -/
structure Step where
  anchor : Nat
  offset : Int
  level : Nat
  ramp : Nat
  deriving DecidableEq, Repr

/-- A group: week plan (seven PIDs, or none) and exceptions (day, PID). -/
structure Group where
  week : List Nat
  exc : List (Nat × Nat)
  deriving DecidableEq, Repr

/-- A node lighting record; LAT and LON in 10^−6 degree, PRATED in 0.1 W. -/
structure LuxNode where
  lat : Int
  lon : Int
  grp : List Nat
  drv : Option Nat
  rprio : Nat
  prated : Nat
  deriving DecidableEq, Repr

/-- A driver type: inrush in 0.01 A, duration in ms. -/
structure Driver where
  iInr : Nat
  tInr : Nat
  deriving DecidableEq, Repr

/-- A feeder: headroom in 0.1 A, START and STEPGAP in ms, INFCNT. -/
structure FeederCfg where
  iAllow : Nat
  start : Nat
  stepgap : Nat
  infcnt : Nat
  deriving DecidableEq, Repr

/-- A path: lanterns and sensors with positions in m. -/
structure PathCfg where
  lanterns : List (Nat × Nat)
  sensors : List (Nat × Nat)
  lwave : Nat
  ramp : Nat
  lead : Nat
  trail : Nat
  vdef : Nat
  kinds : Nat
  acc0 : Bool
  deriving DecidableEq, Repr

/-- Section 0x05 (Table LUX-1); ELEV in 0.001°. -/
structure Sec05 where
  elev : Int
  supGrace : Nat
  luxRate : Nat
  statPer : Nat
  engPer : Nat
  uvThr : Nat
  faultEn : Nat
  profiles : KMap (List Step)
  groups : KMap Group
  nodes : KMap LuxNode
  drivers : KMap Driver
  feeders : KMap FeederCfg
  paths : KMap PathCfg
  deriving DecidableEq, Repr

/-- The UVOLT payload of Table NET-5, T as the node states it in µs. -/
structure Uvolt where
  t : Nat
  vres : Nat
  dur : Nat
  lost : Bool
  deriving DecidableEq, Repr

/-! ### Switching and subscriptions (10_process_bus.md) -/

/-- A switch port as section 0x06 sets it. -/
structure PortCfg where
  en : Bool
  speed : Nat
  learn : Bool
  defpri : Nat
  pvid : Nat
  deriving DecidableEq, Repr

/-- A VLAN: member and untagged masks over port codes 0–6, and whether an unknown group is dropped (MCMISS). -/
structure Vlan where
  member : Nat
  untagged : Nat
  mcDrop : Bool
  deriving DecidableEq, Repr

/-- A redundancy box: mode 0 OFF, 1 PRP, 2 HSR; DDLIFE in ms. -/
structure BoxCfg where
  mode : Nat
  ddlife : Nat
  deriving DecidableEq, Repr

/-- An entry of table 0. `gen` is the port's flush generation at the learning; `at_` the spindle time of the last refresh;
`hit` orders the learned entries of a bucket by age. -/
structure MacE where
  vid : Nat
  mac : Nat
  port : Nat
  fixed : Bool
  gen : Nat
  at_ : Nat
  deriving DecidableEq, Repr

/-- An entry of table 1. -/
structure McE where
  vid : Nat
  mac : Nat
  pmask : Nat
  deriving DecidableEq, Repr

/-- An entry of table 2; `pre` is the 128-bit prefix with bits beyond `len` zero. -/
structure PfxE where
  pre : Nat
  len : Nat
  nh : Nat
  deriving DecidableEq, Repr

/-- An entry of table 3. -/
structure NhE where
  vid : Nat
  port : Nat
  mac : Nat
  deriving DecidableEq, Repr

/-- An entry or a key as a table command names it (Table PBUS-4). -/
inductive FwdEnt where
  | mac (vid mac port : Nat)
  | mc (vid mac pmask : Nat)
  | pfx (pre len nh : Nat)
  | nh (idx vid port mac : Nat)
  | eui (eui : Nat)
  deriving DecidableEq, Repr

/-- Section 0x06. -/
structure Sec06 where
  ports : KMap PortCfg
  vlans : KMap Vlan
  boxes : KMap BoxCfg
  age : Nat
  statics : List FwdEnt
  routed : List Nat
  rmac : Nat
  deriving DecidableEq, Repr

/-- A frame at a switch port. `tag` is VID and PCP when tagged; `seq` the sequence number of its redundancy trailer or
tag; `toUs` and `fromUs` say whether it is addressed to the module alone and whether the module originated it (HSR);
`dip` and `hop` are the IPv6 destination and hop limit. -/
structure SwFrame where
  port : Nat
  fcsOk : Bool
  tag : Option (Nat × Nat)
  src : Nat
  dst : Nat
  etype : Nat
  seq : Option Nat
  toUs : Bool
  fromUs : Bool
  dip : Nat
  hop : Nat
  deriving DecidableEq, Repr

/-- An SV subscription (Table PBUS-5); AUTH with KSLOT and CONTINUE when `auth` holds. -/
structure SvSub where
  dmac : Nat
  appid : Nat
  vid : Nat
  svid : List Byte
  confrev : Nat
  rate : Nat
  nch : Nat
  ports : Nat
  auth : Option (Nat × Bool)
  deriving DecidableEq, Repr

/-- A GOOSE subscription. -/
structure GoSub where
  dmac : Nat
  appid : Nat
  vid : Nat
  gocb : List Byte
  confrev : Nat
  ports : Nat
  auth : Option (Nat × Bool)
  test : Bool
  deriving DecidableEq, Repr

/-- Section 0x07, with its body CRC-32. -/
structure Sec07 where
  sv : KMap SvSub
  goose : KMap GoSub
  crc : Nat
  deriving DecidableEq, Repr

/-- An ASDU of a sampled-value frame: the frame (a number of the sender), its port, header fields, index, counters,
synchronisation, arrival stamp, length, authentication trailer, and channels (value, quality). -/
structure SvAsdu where
  frame : Nat
  port : Nat
  dmac : Nat
  appid : Nat
  vid : Nat
  svid : List Byte
  confrev : Nat
  idx : Nat
  smp : Nat
  synch : Nat
  stamp : Nat
  len : Nat
  trailer : Bool
  chans : List (Nat × Nat)
  deriving DecidableEq, Repr

/-- A GOOSE message at the subscription stage; `seen` is the verdict of the duplicate discard of R574, `ttl` its
timeAllowedToLive in ms, `macOk` the verdict of the halves' HMAC check of its tag, `vals` the booleans of its data set. -/
structure GoMsg where
  port : Nat
  fcsOk : Bool
  seen : Bool
  dmac : Nat
  appid : Nat
  vid : Nat
  gocb : List Byte
  confrev : Nat
  stnum : Nat
  sqnum : Nat
  sim : Bool
  ttl : Nat
  len : Nat
  trailer : Bool
  macOk : Bool
  stamp : Nat
  vals : List Bool
  frame : List Byte
  deriving DecidableEq, Repr

/-! ### Protection and brace (11_protection.md, 12_brace.md) -/

/-- The pickup of an element: an overfunction or an underfunction, of a current or of another quantity, and its setting, in
0.0001 of the rated current or voltage (Table PROT-3). -/
structure Pickup where
  above : Bool
  current : Bool
  thr : Nat
  deriving DecidableEq, Repr

/-- The settings of an element of a function: its pickup, and the delay of its definite timer in ms. Without a pickup the
element's start, and without a delay its operate, come from the function's own measurement (log entry 70). -/
structure Elem where
  pick : Option Pickup
  delay : Option Nat
  deriving DecidableEq, Repr

/-- A function instance: FUNC (R979), bay, inputs (an SV subscription s, or meter point p as 128 + p, with a channel
mask), core, N_CONF, the windings or bays of TDIF and BDIF, the settings of its elements in the order of Table PROT-3, and the dead times of the
shots of REC in ms. -/
structure Inst where
  func : Nat
  bay : Nat
  ins : List (Nat × Nat)
  core : Nat
  nconf : Nat
  n : Nat
  en : Bool
  elems : List Elem
  deads : List Nat
  deriving DecidableEq, Repr

/-- A gate record (Table PROT-5). -/
structure Gate where
  op : Nat
  inv : Nat
  time : Nat
  ins : List Nat
  deriving DecidableEq, Repr

/-- A logical output record (Table PROT-6): MODE 0 FOLLOW, 1 LATCH, 2 PULSE. -/
structure OutRec where
  src : Nat
  trip : Bool
  leadAlone : Bool
  mode : Nat
  minOn : Nat
  deriving DecidableEq, Repr

/-- A FLOC feeder: sections (parent, length in m), the sections of its lanterns, VMARGIN and VNOM in 0.1 V. -/
structure FlocCfg where
  secs : List (Option Nat × Nat)
  lns : List (Nat × Nat)
  vmargin : Nat
  vnom : Nat
  deriving DecidableEq, Repr

/-- A feeder of section 0x08. -/
structure FeedP where
  trip : Nat
  close : Nat
  posbi : Option Nat
  recI : Option Nat
  floc : Option FlocCfg
  bay : Nat
  deriving DecidableEq, Repr

/-- A GOOSE publication; MAXT in ms, members (signal, TRIPCLASS). -/
structure PubCfg where
  dmac : Nat
  appid : Nat
  vid : Nat
  gocb : List Byte
  datset : List Byte
  confrev : Nat
  maxt : Nat
  auth : Option (Nat × Bool)
  members : List (Nat × Bool)
  deriving DecidableEq, Repr

/-- A backup element as OUT_BKCFG and OUT_BKTIM hold it. -/
structure BkCfg where
  en : Bool
  nolead : Bool
  count : Nat
  chmask : Nat
  thr : Nat
  dly : Nat
  hold : Nat
  deriving DecidableEq, Repr

/-- Section 0x08; PALIGN in 0.1 ms. `gomap` gives each GOOSE input boolean its subscription, member and substitute
(0, 1, or 2 for the last value). -/
structure Sec08 where
  prate : Nat
  fnom : Nat
  palign : Nat
  synmax : Nat
  insts : KMap Inst
  gates : List Gate
  outs : KMap OutRec
  feeders : KMap FeedP
  pubs : KMap PubCfg
  bks : KMap BkCfg
  gomap : KMap (Nat × Nat × Nat)
  crc : Nat
  deriving DecidableEq, Repr

/-- A crossing window of section 0x09. -/
structure XWin where
  size : Nat
  base : Nat
  en : Bool
  rd : Bool
  wr : Bool
  lock : Bool
  deriving DecidableEq, Repr

/-- Section 0x09 (Table BRC-10); HOWARM and HOWAIT in ms. -/
structure Sec09 where
  partner : Bool
  puid : Nat
  role : Nat
  pkslot : Nat
  mispol : Bool
  disn : Nat
  hmiss : Nat
  recur : Nat
  howarm : Nat
  howait : Nat
  pol : KMap Nat
  xwins : KMap XWin
  deriving DecidableEq, Repr

/-- A VEC packet (Table BRC-2). -/
structure VecPkt where
  lead : Bool
  smp : Nat
  sec : Nat
  val : Nat
  prov : Nat
  gcrc : Nat
  nseq : Nat
  dig : Nat
  deriving DecidableEq, Repr

/-- The series values of a STATE packet: notice sequence, and of each publication stNum, sqNum, next retransmission and
interval; latched outputs and MINON ends. -/
structure StatePkt where
  nseq : Nat
  pubs : KMap (Nat × Nat × Nat × Nat)
  latched : Nat
  minOn : KMap Nat
  deriving DecidableEq, Repr

/-- A partner frame (Table BRC-5), its MAC as 16 bytes. -/
structure PartnerFrame where
  pfver : Nat
  pfmax : Nat
  uid : Nat
  role : Nat
  st : Nat
  cfgseq : Nat
  setdig : Nat
  bilver : Nat
  smp : Nat
  vec : Nat
  vecp : Nat
  sentNs : Nat
  txseq : Nat
  mac : List Byte
  deriving DecidableEq, Repr

/-- A feeder notice (Table ARCH-4): feeder, state, sequence number, inception time, reclose time and shot. -/
structure FeederNotice where
  feeder : Nat
  state : Nat
  seq : Nat
  t : Nat
  close : Nat
  shot : Nat
  deriving DecidableEq, Repr

/-- What a function instance measures on a pass: the instance, the quantity of each element that has a pickup (in 0.0001 of
the rated value), the element bits of those that have none or whose timer is not a definite one, and for REC the shot of a dead time it
starts. -/
structure InstOut where
  inst : Nat
  meas : List Nat
  bits : Nat
  dead : Option Nat
  deriving DecidableEq, Repr

/-! ### Metering (13_metering.md) -/

/-- A channel of section 0x0A; FSCALE in 0.001 A or V, OFS and DELAY signed. -/
structure ChanCal where
  fscale : Nat
  ofs : Int
  gain : Nat
  delay : Int
  deriving DecidableEq, Repr

/-- Section 0x0A (Table MTR-2): kinds 0 OFF, 1 CURRENT, 2 VOLTAGE. -/
structure Sec0A where
  kind : KMap Nat
  vref : KMap Nat
  chans : KMap ChanCal
  kp : KMap Nat
  kq : KMap Nat
  saveper : Nat
  fsrc : Nat
  protmp : List Nat
  deriving DecidableEq, Repr

/-- The modulator bits of a channel over an interval, oldest first: `pre` raw samples stand before those of the interval, `n`
samples belong to it, its start lies `ns` after raw sample `pre`, and `full` says that they passed the checks of the front end and
arrived complete in their kennel (R801). -/
structure ModSpan where
  ch : Nat
  bits : List Bool
  pre : Nat
  n : Nat
  ns : Nat
  full : Bool
  deriving DecidableEq, Repr

/-- A circuit's window of `dur` ns: whether every sample passed R801, and per phase A, B, C the active and reactive energy of
the window (mWh, mvarh, before KP and KQ) and the apparent energy (mVAh). -/
structure CircWin where
  circ : Nat
  dur : Nat
  ok : Bool
  p : List Int
  q : List Int
  s : List Nat
  deriving DecidableEq, Repr

/-- The values of a meter point over a window: RMS of its channels, active and reactive power of phases A, B, C, and per
channel the THD and orders 0–63. -/
structure PointWin where
  mp : Nat
  flags : Nat
  freq : Nat
  rms : List Nat
  p : List Int
  q : List Int
  thd : List Nat
  harm : List (List Nat)
  deriving DecidableEq, Repr

/-- A measurement's window: mean of raw − OFS, RMS, angle, frequency, and whether the window passes R801. -/
structure MeasWin where
  ok : Bool
  mean : Int
  rms : Nat
  angle : Int
  freq : Nat
  deriving DecidableEq, Repr

/-- A harmonic window: whether it is locked, its mean frequency in mHz, its circuits, its points, and the measurement's part. -/
structure Win where
  locked : Bool
  freq : Nat
  circs : List CircWin
  pts : List PointWin
  meas : Option MeasWin
  deriving DecidableEq, Repr

/-! ### Keys (15_security.md) -/

/-- The operation of an entry of a key update message. -/
inductive KeyOp where
  | write | attr | clear | reserved
  deriving DecidableEq, Repr

/-- An entry of a key update message (Table KEY-5): `key` is the value WRAP holds and `wrapOk` says that it unwraps. -/
structure KeyEnt where
  slot : Nat
  op : KeyOp
  usage : Nat
  alg : Nat
  dmask : Nat
  exprst : Bool
  ver : Nat
  uses : Nat
  key : Nat
  wrapOk : Bool
  resvOk : Bool
  deriving DecidableEq, Repr

/-- A key update message (Table KEY-4): `formOk` for MAGIC, FMT, length and reserved bits; `signers` the SHA-256 values
of the candidate public keys its SIG admits (R894). -/
structure KeyMsg where
  formOk : Bool
  claim : Bool
  clearLatch : Bool
  unit : Nat
  ucnt : Nat
  ents : List KeyEnt
  signers : List Nat
  deriving DecidableEq, Repr

/-- The operations a requester may ask of the chuck, by their bit in USAGE. -/
inductive KeyUse where
  | encrypt | decrypt | mac | verify | wrap | derive
  deriving DecidableEq, Repr

/-- The bit of USAGE for an operation (Table KEY-3). -/
def KeyUse.bit : KeyUse → Nat
  | .encrypt => 0 | .decrypt => 1 | .mac => 2 | .verify => 3 | .wrap => 4 | .derive => 5

/-! ### Billets and node billets (16_updates.md) -/

/-- A directory entry of a module billet (Table UPD-1), with the bytes of its component. -/
structure BilComp where
  id : Nat
  off : Nat
  sha : List Byte
  body : List Byte
  deriving DecidableEq, Repr

/-- A module billet as the module reads it (Table UPD-1): header fields, with `resv` the reserved fields of header and directory taken
together, the SHA-256 values of the candidate public keys its SIG admits (R894, R924), the directory, and the verdict of the flash
reads. -/
structure Billet where
  magic : Nat
  bver : Nat
  ncomp : Nat
  resv : Nat
  ver : Nat
  typ : Nat
  hwmin : Nat
  hwmax : Nat
  unit : Nat
  svn : Nat
  total : Nat
  fmttab : List Nat
  pfmax : Nat
  airmax : Nat
  keyidx : Nat
  signers : List Nat
  dir : List BilComp
  flashOk : Bool
  deriving DecidableEq, Repr

/-- An NB_NACK (Table UPD-9): STATE and the ranges (first, count) of missing chunks. -/
structure NbNack where
  camp : Nat
  st : Nat
  ranges : List (Nat × Nat)
  deriving DecidableEq, Repr

/-- A node billet that NB_LOAD has taken (Table UPD-8): MODEL, NBVER, SIZE, the SHA-256 of its bytes, and the bytes. -/
structure NodeBillet where
  model : Nat
  ver : Nat
  size : Nat
  hash : List Byte
  data : List Byte
  deriving DecidableEq, Repr

/-- What the burl regeneration of a cold start finds: which attempt succeeds (0: none of three), the copies of the helper
data that fail their CRC (0 MRAM, 10 CFG_A, 11 CFG_B), and the slots neither of whose stored copies unwraps (R891). -/
structure BurlRun where
  tries : Nat
  bad : List Nat
  lost : List Nat
  deriving DecidableEq, Repr

/-- A sample as a half takes it from its kennel. -/
structure HalfSample where
  stream : Nat
  smp : Nat
  deliv : Nat
  synch : Nat
  stamp : Nat
  chans : List (Nat × Nat)
  deriving DecidableEq, Repr


/-! ### Images and starts (03_startup_configuration.md, 16_updates.md) -/

/-- One directory entry of an image (Table BOOT-5), with the bytes of the section body that stand at its OFFSET; LENGTH is their
number. -/
structure DirEnt where
  id : Nat
  fmt : Nat
  off : Nat
  crc : Nat
  body : List Byte
  deriving DecidableEq, Repr

/-- The contents of the sections of an image; a section the image lacks is `none`. Section 0x01 has no contents that a
rule reads but its identity; section 0x0D is the list of its key update messages. -/
structure Secs where
  s02 : Option Sec02 := none
  s03 : Option Sec03 := none
  s04 : Option Sec04 := none
  s05 : Option Sec05 := none
  s06 : Option Sec06 := none
  s07 : Option Sec07 := none
  s08 : Option Sec08 := none
  s09 : Option Sec09 := none
  s0a : Option Sec0A := none
  s0b : Option (List LogCfg) := none
  s0c : Option Sec0C := none
  s0d : List KeyMsg := []
  s0e : Option Sec0E := none
  s0f : Option Sec0F := none
  deriving DecidableEq, Repr

/-- A configuration image as the module reads it (Table BOOT-5): header fields, directory, what the section bodies spell, the
SHA-256 values of the candidate public keys its SIG admits (R894), and the verdict of the flash reads. -/
structure Image where
  magic : Nat
  ver : Nat
  typ : Nat
  unit : Nat
  total : Nat
  imgid : Nat
  signers : List Nat
  flashOk : Bool
  dir : List DirEnt
  secs : Secs
  deriving DecidableEq, Repr

/-- How the write of a device ends (R161, R187): every byte has read back; a byte of a slot has not; a byte of faceplate copy 1, or of
copy 0, has not. -/
inductive WriteEnd where
  | ok | slot | copy1 | copy0
  deriving DecidableEq, Repr

/-- The kinds of epoch of Table BOOT-8. -/
inductive EpochKind where
  | sample | fabric | roster
  deriving DecidableEq, Repr

/-- The rings whose CI the host writes (Table HOST-5). -/
inductive Ring where
  | rsp | rpt | ev
  deriving DecidableEq, Repr

/-- The parts of an Announce message that the default BMCA and the module use. -/
structure Announce where
  prio1 : Nat
  clockClass : Nat
  accuracy : Nat
  variance : Nat
  prio2 : Nat
  gmid : Nat
  steps : Nat
  utcOff : Int
  utcValid : Bool
  leap : Nat
  deriving DecidableEq, Repr

/-- What the archive keeps of one sample time or record: its class (Table REC-7), its stream, for DIST the subscription too, its time,
for samples the channels' values and qualities, for records their bytes. -/
structure ArcItem where
  cls : Nat
  stream : Nat
  sub : Nat
  t : Nat
  chans : List (Nat × Nat)
  body : List Byte
  deriving DecidableEq, Repr

/-- The parameters of ARC_FETCH (Table REC-10). -/
structure FetchReq where
  cls : Nat
  stream : Nat
  chmask : Nat
  tfrom : Nat
  tto : Nat
  tier : Nat
  win : Nat
  wofs : Nat
  maxb : Nat
  deriving DecidableEq, Repr

end Sys2Proof
end

