-- ==== Sys2Proof/Syntax.lean ====
section
/-! DEFINITION. The commands of the block: one constructor for each row of spec/opcode_table.json, in the table's order.
Operands that name a path are 0 for PCIe and 1 to 4 for tunnel slots 0 to 3; `side` is the near side of a bridge, 0 the host's, 1 and 2 half
A's and B's of the crossing, and `space` the BAR (0, 2, 4); `tag` is a mailbox command's TAG; an operand
whose value the chapters leave to the surroundings (a measured value, a verdict of a check made on bytes the block
receives, the time of an event) is given with the command. Times are spindle nanoseconds unless a comment says otherwise. -/
namespace Sys2Proof

inductive Instr where
  /-- COLD_START (R144). At VIN valid after the bus was below 5.0 V, the always-on domain leaves reset and runs the start sequence of Table BOOT-2. -/
  | coldStart (b : BurlRun) (recoverLow : Bool) (ms : List Nat)
  /-- WARM_RESTART (R145). The supervisor records the cause and resets domains 1 to 6 while the always-on domain keeps running. -/
  | warmRestart (cause : Nat) (ms : List Nat)
  /-- BOOT_OK (R170). When the checks pass and the required domains and milestones are reached, the module declares BOOT_OK and clears the failure count. -/
  | bootOk
  /-- BOOT_ATTEMPT_TIMEOUT (R171). When BOOT_OK is not declared within 40 s, the boot attempt fails and is counted. -/
  | bootAttemptTimeout (ms : List Nat)
  /-- OCXO_LOST (R28). With no OCXO edge for 1 µs, the supervisor engages the hold, releases LEASH, holds domains 1 to 5 in reset and logs OCXO_LOST. -/
  | ocxoLost
  /-- OCXO_RESTORED (R29). After 100 ms of unbroken OCXO edges, domains 1 to 5 leave reset, the modulator clocks return to the PLL, and a restart runs from billet verification. -/
  | ocxoRestored (ms : List Nat)
  /-- DOMAIN_WATCHDOG_EXPIRY (R33). When a domain watchdog expires, the domain is marked WEDGED, the hold engages for a half, the domain is reset and DOMAIN_RESET is logged. -/
  | domainWatchdogExpiry (d : Nat) (ms : List Nat)
  /-- STOPPED_DOMAIN_ACCESS (R32). The status responder answers a read to a block whose domain is not in RUN with 0xFFFF_FFFF, and discards writes. -/
  | stoppedDomainAccess (space : Nat) (write : Bool) (off : Nat)
  /-- KENNEL_WRITE (R41). A producer writes the last word of a packet, the packet becomes visible, PKTCNT increments and the notice bit is set. -/
  | kennelWrite (n : Nat) (words : List Nat)
  /-- KENNEL_READ (R42). A consumer reads a packet, PKTCNT is decremented on its last word, or the read stalls when the kennel holds no complete packet. -/
  | kennelRead (n : Nat) (w : Nat)
  /-- KENNEL_STALL_RESUME (R44). A stalled read ends when a complete packet arrives and returns that packet's first word. -/
  | kennelStallResume (n : Nat)
  /-- KENNEL_ABANDON (R46). The reader's watchdog abandons a stalled read, which returns the abandon word and logs KENNEL_ABANDON. -/
  | kennelAbandon (n : Nat)
  /-- KENNEL_WRITE_STALL_RESUME (R49). Under BLOCK, a stalled producer continues once space frees. -/
  | kennelWriteStallResume (n : Nat)
  /-- KENNEL_WRITE_ABANDON (R49). The producer's watchdog abandons a blocked write, and the partial packet is discarded. -/
  | kennelWriteAbandon (n : Nat)
  /-- KENNEL_FAULT (R52). When a pointer pair mismatches, the kennel is reset, its packets are discarded and KENNEL_FAULT is logged. -/
  | kennelFault (n : Nat)
  /-- ARB_REQUEST (R55). A port presents a request to the memory arbiter. -/
  | arbRequest (p : Nat) (cycle : Nat)
  /-- ARB_REQUEST_WITHDRAW (R65). A requester withdraws its request when its own watchdog abandons it. -/
  | arbRequestWithdraw (p : Nat) (cycle : Nat)
  /-- ARB_GRANT (R58). The arbiter grants a waiting request by credit, or by age on every Nth grant. -/
  | arbGrant (cycle : Nat)
  /-- ARB_WINDOW_START (R56). At each window of 1,024 cycles, the arbiter refills the credits and applies new weights. -/
  | arbWindowStart
  /-- ARB_REFRESH (R64). A DDR5 refresh suspends grants for up to 180 cycles. -/
  | arbRefresh (cycle : Nat) (len : Nat)
  /-- ARB_CTL_WRITE (R60). A write of NTH is clamped to the range 4 to 64. -/
  | arbCtlWrite (path : Nat) (val : Word)
  /-- ARB_WGT_WRITE (R61). A written weight takes effect at the next window, and the port's credit is clipped. -/
  | arbWgtWrite (path : Nat) (n : Nat) (val : Word)
  /-- ARB_MAXW_READ (R67). A read returns the longest wait since the last read and clears the register. -/
  | arbMaxwRead (n : Nat) (wait : Option Nat)
  /-- ARB_EMPTY_READ (R67). A read returns the empty-grant count and clears the register. -/
  | arbEmptyRead (n : Nat) (empty : Bool)
  /-- APP_CORE_FAILURE (R71). When an application core fails, a spare is substituted and the APP domain restarts. -/
  | appCoreFailure (core : Nat) (reason : Nat) (ms : List Nat)
  /-- MEMORY_BLOCK_FAILURE (R72). A failed DRAM row or MRAM block is mapped to a spare at once. -/
  | memoryBlockFailure (cls : Nat) (idx : Nat) (reason : Nat)
  /-- TALLY_READ (R74). Command 0x0110 returns up to 7 tally records from a given TSEQ. -/
  | tallyRead (tag : Nat) (first : Nat) (count : Nat)
  /-- HOST_PERST (R78). PERST_N resets only the endpoint link and transaction layers. -/
  | hostPerst (low : Bool)
  /-- JTAG_INSTRUCTION (R80). A JTAG instruction executes, and pin-driving instructions run only in recovery mode. -/
  | jtagInstruction (ir : Nat)
  /-- HOLD_SWITCH_CLOSE (R96). When VIN_INT has stayed below WARN for 10 µs, the hold switch closes and PWR_STAT.WARN is set. -/
  | holdSwitchClose (vin : Nat) (vhold : Nat)
  /-- QUIESCE_COMMIT (R98). When VIN_INT and VHOLD are both below VQ, the module runs the quiesce sequence of Table IF-5. -/
  | quiesceCommit (vin : Nat) (vhold : Nat)
  /-- PWR_RIDE_THROUGH (R99). When VIN_INT recovers to WARN + 0.5 V for 10 ms before a commit, the hold switch opens and the dip is logged. -/
  | pwrRideThrough
  /-- QUIESCE_RESTART (R103). After a completed quiesce and 100 ms of VIN_INT at WARN + 0.5 V, the hold switch opens and the domains restart. -/
  | quiesceRestart (ms : List Nat)
  /-- BUS_COLLAPSE (R104). When the bus falls below 5.0 V, every domain is reset and the RTC runs on VBAK. -/
  | busCollapse
  /-- VIN_INPUT_LOST (R974). When one input falls below WARN while the other stays up, the loss is logged. -/
  | vinInputLost (b : Bool) (level : Nat)
  /-- OUTPUT_VECTOR_PRESENT (R109). The half holding LEASH presents an output vector: a confirmed vector releases the hold and drives the pins, a provisional change pre-arms. -/
  | outputVectorPresent (h : Nat) (vec : Nat) (prearm : Nat) (confirmed : Bool)
  /-- PULSE_LIMIT_EXPIRY (R110). A PULSE output line that has been high for its maximum pulse is driven low. -/
  | pulseLimitExpiry (line : Nat)
  /-- READBACK_MISMATCH (R115). When OUT_RBn has differed from the expected level for longer than RBSET, the line is flagged and OUT_RB_MISMATCH is logged. -/
  | readbackMismatch (line : Nat) (high : Bool)
  /-- OUT_RBMIS_CLEAR (R977). A host clear of OUT_RBMIS lets a persisting mismatch be flagged again after RBSET. -/
  | outRbmisClear (path : Nat) (k : Nat) (val : Word) (hw : Nat)
  /-- HEALTHY_TIMEOUT (R123). When the supervisor has not re-armed the HEALTHY generator within 100 ms, the drive stops. -/
  | healthyTimeout
  /-- BINARY_INPUT_CHANGE (R125). A change on an input is accepted and stamped once the new level has held for DBNC. -/
  | binaryInputChange (n : Nat) (high : Bool) (t : Nat)
  /-- LOOP_COMPLIANCE_LOSS (R129). On a compliance loss the module sets COMPLIANCE, applies the mode, and logs LOOP_COMPLIANCE. -/
  | loopComplianceLoss (n : Nat) (delivered : Nat)
  /-- LOOP_COMPLIANCE_CLEAR (R133). A host clear of COMPLIANCE restores the set point in FAULT_LOW, and COMPLIANCE is set again if the loss persists. -/
  | loopComplianceClear (path : Nat) (n : Nat) (val : Word) (lost : Bool)
  /-- LOOP_SETPOINT_WRITE (R133). A write to OUT_LPSET is clamped to 24,000, ignored under SRC MAP, and releases FAULT_LOW. -/
  | loopSetpointWrite (path : Nat) (n : Nat) (val : Word)
  /-- LOOP_OPEN (R135). OPEN is set when the terminal voltage has stayed below 1 V for 10 ms. -/
  | loopOpen (n : Nat)
  /-- LOOP_HOLD_EXPIRY (R136). After the APP domain leaves RUN and HOLDT runs out, the loop drives its fail value. -/
  | loopHoldExpiry (n : Nat)
  /-- THERMAL_THROTTLE_ENTRY (R143). With the baseplate above 98 °C for 1 s, THROTTLE is set, the transmit cap falls to +24 dBm and archive writes pause. -/
  | thermalThrottleEntry
  /-- THERMAL_THROTTLE_EXIT (R143). With the baseplate below 93 °C for 10 s, THROTTLE is cleared. -/
  | thermalThrottleExit
  /-- THERMAL_SHUTDOWN_ENTRY (R143). With the baseplate above 105 °C for 10 s, the module quiesces and holds domains 1 to 6 in reset. -/
  | thermalShutdownEntry
  /-- THERMAL_SHUTDOWN_EXIT (R143). With the baseplate below 90 °C, the domains restart with cause THERMAL. -/
  | thermalShutdownExit (ms : List Nat)
  /-- RESTART (R146). Command 0x0101 answers OK and makes a warm restart 100 ms later. -/
  | restart (tag : Nat)
  /-- BOOT_CLEAR (R173). Command 0x0207 clears the failure count of the named device. -/
  | bootClear (tag : Nat) (dev : Nat)
  /-- EPOCH_DRAIN_LIMIT (R177). Items of the old epoch still in flight at the drain limit are abandoned and counted. -/
  | epochDrainLimit (kind : EpochKind)
  /-- EPOCH_PENDING_CHANGE (R177). A waiting epoch change opens once every item of the older epoch has completed or been abandoned. -/
  | epochPendingChange (kind : EpochKind)
  /-- CFG_STAGE_OPEN (R180). Maps a 32 MiB staging buffer through BAR4 window 7 and enters STAGING. -/
  | cfgStageOpen (tag : Nat)
  /-- CFG_STAGE_COMMIT (R182). Unmaps window 7, checks the staged image, and writes it to the other device. -/
  | cfgStageCommit (tag : Nat) (len : Nat) (mode : Nat) (prob : Nat) (img : Image)
  /-- CFG_WRITE_COMPLETE (R191). After the flash write, mode LIVE applies the changed sections by Table BOOT-9, and mode AT_RESTART restarts. -/
  | cfgWriteComplete (e : WriteEnd)
  /-- CFG_APPLY_COMPLETE (R192). When steps 1 to 9 of the apply end, the module enters PROBATION or confirms at once. -/
  | cfgApplyComplete
  /-- CFG_APPLY_FAILED (R194). A failed apply step reapplies the running sections in reverse order and withdraws the new image. -/
  | cfgApplyFailed (sec : Nat)
  /-- CFG_CONFIRM (R197). Command 0x0203 during PROBATION confirms the image. -/
  | cfgConfirm (tag : Nat)
  /-- CFG_PROBATION_EXPIRY (R198). When probation runs out without confirmation, the previous image is reapplied and the new one is withdrawn. -/
  | cfgProbationExpiry
  /-- CFG_ROLLBACK (R198). Command 0x0204 rolls back an image on probation. -/
  | cfgRollback (tag : Nat)
  /-- CFG_STATUS (R201). Command 0x0205 returns the configuration state payload. -/
  | cfgStatus (tag : Nat)
  /-- BAR0_BAD_SIZE_ACCESS (R205). A BAR0 access that is not a 32-bit aligned access reads 0xFFFF_FFFF or is discarded, and is counted. -/
  | bar0BadSizeAccess (write : Bool)
  /-- REGISTER_WRITE (R207). A host write to a register with no row of its own takes effect by its access type, subject to block write policy and same-cycle rules. -/
  | registerWrite (path : Nat) (off : Nat) (val : Word) (hw : Option Nat)
  /-- HEARTBEAT_TICK (R212). The supervisor increments SUP_HEARTBEAT every 1 ms. -/
  | heartbeatTick (vinA : Nat) (vinB : Nat) (vhold : Nat) (vbak : Nat) (temp : Int) (volt : List (Nat × Nat))
  /-- MBX_CMDPI_DOORBELL (R217). A doorbell write to MBX_CMDPI announces new commands, or is ignored and DBBAD set when out of range. -/
  | mbxCmdpiDoorbell (path : Nat) (pi : Nat) (slots : List CmdSlot)
  /-- COMMAND_CONSUME (R218). The module consumes the next command once a response slot is reserved, and answers envelope errors and unknown codes. -/
  | commandConsume
  /-- MBX_CI_WRITE (R216). A write to a ring CI releases slots, or is ignored and CIBAD set. -/
  | mbxCiWrite (path : Nat) (ring : Ring) (ci : Nat)
  /-- MBX_OWNER_WRITE (R228). A write to MBX_OWNER transfers ring ownership to the named path. -/
  | mbxOwnerWrite (path : Nat) (val : Word)
  /-- MBX_DROP_READ (R207). A read returns the dropped report and event copy counts and clears them. -/
  | mbxDropRead (ev : Nat) (rpt : Nat)
  /-- TUNNEL_DATAGRAM (R229). A tunnel datagram is checked, its records are executed in order, and one reply is sent. -/
  | tunnelDatagram (req : TunReq)
  /-- BULK_READ (R235). A bulk-class read is issued as a split transaction with a tag. -/
  | bulkRead (side : Nat) (path : Nat) (win : Nat) (off : Nat) (len : Nat)
  /-- POSTED_WRITE_FALLBACK (R236). After a read has been blocked at the far queue head for 2 µs, posted writes pass it. -/
  | postedWriteFallback (side : Nat)
  /-- READ_DATA_ORPHAN (R238). Read data not collected within 64 µs is discarded and counted. -/
  | readDataOrphan (side : Nat) (tag : Option Nat)
  /-- REGISTER_READ_TIMEOUT (R239). A register-class read with no data after 50 µs completes with 0xFFFF_FFFF and is counted in RDTO. -/
  | registerReadTimeout (space : Nat) (off : Nat)
  /-- LOCK_ACQUIRE (R242). A write of HBR_LKCTL.ACQ starts a locked sequence on one line, or counts DENY. -/
  | lockAcquire (side : Nat) (path : Nat) (win : Nat) (line : Nat) (tie : Bool)
  /-- LOCK_RELEASE (R243). A write of HBR_LKCTL.REL applies the held writes in one cycle. -/
  | lockRelease (side : Nat) (path : Nat)
  /-- LOCK_ABORT (R244). When REL has not come 2 µs after ACQ, the lock breaks and the held writes are discarded. -/
  | lockAbort (side : Nat)
  /-- BAR4_WINDOW_ACCESS (R247). An access through a BAR4 window is mapped to DDR5 with lane handling, or refused and counted. -/
  | bar4WindowAccess (side : Nat) (path : Nat) (win : Nat) (off : Nat) (write : Bool) (len : Nat) (data : List Byte)
  /-- HBR_CNT_READ (R207). A read of HBR_CNT0 to HBR_CNT3 returns the counts and clears them. -/
  | hbrCntRead (k : Nat) (upd : List Nat)
  /-- TB_INC_NS_WRITE (R255). A write to TB_INC_NS applies the increment pair from the next tick, clamped. -/
  | tbIncNsWrite (path : Nat) (val : Word)
  /-- TB_NOW_LO_READ (R257). A read returns the low nanoseconds and loads the host shadow. -/
  | tbNowLoRead
  /-- TB_ADJ_WRITE (R261). A write adds a signed value to TB_ADJREM with saturation. -/
  | tbAdjWrite (path : Nat) (val : Word) (dec : Bool)
  /-- PTP_SYNC_RECEIVED (R266). The servo processes a Sync: it computes the offset, sets the slew and corrects the rate. -/
  | ptpSyncReceived (port rx origin : Nat) (corr : Int) (mpd : Nat)
  /-- SYNC_TIMEOUT (R272). With no Sync for 3 announce intervals, the quality moves to HOLDOVER and the increment is frozen. -/
  | syncTimeout
  /-- HOLDOVER_LIMIT_EXPIRY (R271). After HOLDLIM seconds in HOLDOVER, the quality becomes FREERUN. -/
  | holdoverLimitExpiry
  /-- NET_DOMAIN_RETURN (R275). When NET returns to RUN, the spindle is loaded from a replica or the RTC and the servo restarts. -/
  | netDomainReturn
  /-- COMPARE_FIRE (R277). An armed compare unit fires when the signed difference reaches 0: it sets FIRED, clears ARM and informs its owner. -/
  | compareFire (n : Nat)
  /-- COMPARE_TARGET_WRITE (R281). A write to a compare target disarms the unit. -/
  | compareTargetWrite (path : Nat) (n : Nat) (hi : Bool) (val : Word) (firing : Bool)
  /-- COMPARE_ARM (R282). Setting ARM arms a compare unit, and it fires at once if the target is already reached. -/
  | compareArm (path : Nat) (n : Nat) (firing : Bool)
  /-- PPS_IN_EDGE (R291). An accepted PPS_IN rising edge is stamped and feeds the servo in PPS mode. -/
  | ppsInEdge (t : Nat) (lowNs : Nat)
  /-- PPS_TIMEOUT (R292). With no accepted edge within 1.5 s, the loss of pulses counts as loss of Sync. -/
  | ppsTimeout
  /-- PPS_OUT_SECOND (R290). At each whole spindle second, PPS_OUT rises when it is enabled and the quality allows. -/
  | ppsOutSecond
  /-- RTC_TICK_LO_READ (R295). A read returns the low count and freezes the high shadow. -/
  | rtcTickLoRead (sup : Bool)
  /-- RTC_TICK_HI_READ (R295). A read returns the frozen shadow and unfreezes it. -/
  | rtcTickHiRead (sup : Bool)
  /-- RTC_HALT (R298). A write of HALT 1 stops the RTC count. -/
  | rtcHalt (path : Nat) (releasing : Bool)
  /-- RTC_RELEASE (R299). A write of HALT 0 releases the count with the load value. -/
  | rtcRelease (path : Nat)
  /-- RTC_ARM (R300). A write of ARM 1 while halted arms a release on a compare unit or a PPS edge. -/
  | rtcArm (path : Nat)
  /-- RTC_OSF (R305). An oscillator stop or VBAK loss sets OSF, invalidates the epoch and logs RTC_OSF. -/
  | rtcOsf
  /-- RTC_EPOCH_REANCHOR (R308). Every 3,600 s while LOCKED, the supervisor re-anchors the RTC epoch. -/
  | rtcEpochReanchor
  /-- OPSEC_TICK (R310). RTC_OPSEC increments every 32,768 ticks. -/
  | opsecTick
  /-- OPSEC_SAVE (R311). RTC_OPSEC is saved to MRAM every 10 s. -/
  | opsecSave
  /-- LEAP_SECOND (R314). A pending leap second changes UTCOFF at the start of the next UTC day. -/
  | leapSecond
  /-- TZ_WARN (R316). TZWARN is set within 60 days of VALID_UNTIL. -/
  | tzWarn
  /-- TIME_STATUS (R317). Command 0x0301 returns the time status payload. -/
  | timeStatus (tag : Nat)
  /-- TIME_SET (R318). Command 0x0302 steps the spindle now or at the next PPS edge, sets FREERUN and re-anchors the epoch. -/
  | timeSet (tag : Nat) (tai : Nat) (mode : Nat)
  /-- TIME_SET_PPS_TIMEOUT (R321). A TIME_SET AT_PPS with no edge within 2 s answers LATE. -/
  | timeSetPpsTimeout
  /-- RX_CHAIN_FAIL (R330). A chain failure sets CHAINFAIL, logs it, and reception continues on the other chain. -/
  | rxChainFail (chain : Nat)
  /-- ENGINE_FAILURE (R334). A failed bound engine is replaced by a spare within 5 ms, or its channel is marked dark. -/
  | engineFailure (e : Nat) (reason : Nat)
  /-- SPARE_ENGINE_FAILURE (R335). An idle spare that fails self-test is recorded in the tally and lowers the margin. -/
  | spareEngineFailure (e : Nat) (reason : Nat)
  /-- CCM_SELF_TEST (R341). Every 60 s each cluster CCM engine is tested against a known answer. -/
  | ccmSelfTest (k : Nat) (ok : Bool)
  /-- TRANSMIT_REQUEST (R344). A link engine hands a transmit request to the scheduler. -/
  | transmitRequest (chan : Nat) (cls : TxCls) (earliest : Nat) (latest : Nat) (frames : List (Nat × List Byte))
  /-- TX_SCHEDULER_STEP (R350). Each 1 µs, the scheduler admits, holds or completes pending requests under the admission rule. -/
  | txSchedulerStep (now : Nat)
  /-- TRANSMIT_END (R350). A frame ends on air and its carrier is released. -/
  | transmitEnd (id : Nat)
  /-- LO_UNLOCK (R352). On loss of LO lock, every carrier is removed, the chains are blanked and the event is logged. -/
  | loUnlock
  /-- LO_SETTLED (R356). The LO relocks and settles, ending the blackout. -/
  | loSettled (now : Nat)
  /-- CALIBRATION_DUE (R353). When a calibration falls due, the scheduler enters the drain with a horizon. -/
  | calibrationDue (now : Nat)
  /-- CAL_NOW (R367). Command 0x0403 starts a drain for calibration, or answers BUSY. -/
  | calNow (tag : Nat)
  /-- CALIBRATION_START (R355). At the horizon, the calibration starts and the drain ends. -/
  | calibrationStart (now : Nat)
  /-- CALIBRATION_END (R355). The calibration ends, the coefficients apply, and the next period starts. -/
  | calibrationEnd (now : Nat) (ok0 : Bool) (ok1 : Bool)
  /-- RAD_STATUS (R365). Command 0x0401 returns the radio status. -/
  | radStatus (tag : Nat)
  /-- CHAN_STATE (R366). Command 0x0402 returns the state of each channel in a range. -/
  | chanState (tag : Nat) (first : Nat) (count : Nat)
  /-- RAD_CNT_READ (R207). A read of RAD_CNT0 or RAD_CNT1 returns the counts and clears them. -/
  | radCntRead (k : Nat) (upd : List Nat)
  /-- PACK_AIR_READ (R207). A read of PACK_AIR0 to PACK_AIR4 returns the counts and clears them. -/
  | packAirRead (k : Nat) (upd : List Nat)
  /-- BARK_RECEIVED (R414). A bark passing the checks of R436 is acknowledged, taken as a contact, and may trigger TIME, NODE_SEEN or version changes. -/
  | barkReceived (f : RxFrame) (b : Bark)
  /-- ACK_RECEIVED (R437). A node ACK matched to a sent frame ends its exchange and counts as a contact. -/
  | ackReceived (a : AckFrame)
  /-- ACK_TIMEOUT (R383). An exchange whose ACK does not come in time fails, and the frame is repeated, sent by train, or ends NO_ACK. -/
  | ackTimeout (ln : Nat) (t : Nat)
  /-- CCA_END (R390). A CCA ends clear, so the preamble starts, or busy, so the sender backs off or fails. -/
  | ccaEnd (id : Nat) (clear : Bool) (t : Nat)
  /-- REPLAY_COUNTER_SAVE (R428). The last accepted counters are saved to MRAM every 10 s. -/
  | replayCounterSave
  /-- HOWL_COPY_HEARD (R470). A howl copy heard is checked against the seen cache and counted. -/
  | howlCopyHeard (f : RxFrame) (msgid : Nat)
  /-- UPLINK_STATUS (R534). A STATUS payload reconciles the node's active fault classes. -/
  | uplinkStatus (f : RxFrame) (level : Nat) (lamp : Nat) (faults : Nat)
  /-- UPLINK_ENERGY (R557). An ENERGY payload advances the lantern's daily energy from its baseline. -/
  | uplinkEnergy (f : RxFrame) (ewh : Nat) (power : Nat) (burn : Nat)
  /-- UPLINK_FAULT (R533). A FAULT payload raises or clears a class, is logged and reported unless suppressed. -/
  | uplinkFault (f : RxFrame) (cls : Nat) (raised : Bool) (detail : Nat) (tn : Nat)
  /-- UPLINK_UVOLT (R555). A UVOLT payload is posted to both halves and may infer a loss or a restoration. -/
  | uplinkUvolt (f : RxFrame) (u : Uvolt)
  /-- UPLINK_TRAFFIC (R524). A TRAFFIC payload from a path sensor starts a traffic wave. -/
  | uplinkTraffic (f : RxFrame) (tn : Nat) (kind : Nat) (dir : Nat) (speed : Nat)
  /-- UPLINK_RESP (R457). A RESP payload confirms an end-to-end delivery, and is reported for host commands. -/
  | uplinkResp (f : RxFrame) (htag : Nat) (op : Nat) (status : Nat)
  /-- UPLINK_LAMPBUS_ANS (R493). A LAMPBUS_ANS payload is reported in NODE_DATA entries. -/
  | uplinkLampbusAns (f : RxFrame) (htag : Nat) (body : List Byte)
  /-- UPLINK_MAKER_DATA (R493). A maker-defined payload is passed to the host in NODE_DATA entries. -/
  | uplinkMakerData (f : RxFrame) (op : Nat) (body : List Byte)
  /-- UPLINK_ROUTE_ERR (R465). A ROUTE_ERR from a relay sets RTERR and is reported. -/
  | uplinkRouteErr (f : RxFrame) (body : List Byte)
  /-- UPLINK_NB_NACK (R948). An NB_NACK is passed to the campaign. -/
  | uplinkNbNack (f : RxFrame) (nack : NbNack)
  /-- ROSTER_PUT (R442). Command 0x0501 writes records and opens a roster epoch. -/
  | rosterPut (tag : Nat) (recs : List RosterRec)
  /-- ROSTER_DEL (R447). Command 0x0502 deletes records unless one is named as a relay. -/
  | rosterDel (tag : Nat) (lns : List Nat)
  /-- ROSTER_GET (R439). Command 0x0503 returns a roster record. -/
  | rosterGet (tag : Nat) (ln : Nat)
  /-- NODE_STATE (R450). Command 0x0504 returns the node state payload. -/
  | nodeState (tag : Nat) (ln : Nat)
  /-- NODE_SEND (R486). Command 0x0505 queues a frame to a node and reports the result later. -/
  | nodeSend (tag : Nat) (ln : Nat) (deadline : Nat) (op : Nat) (body : List Byte)
  /-- HOWL_SEND (R466). Command 0x0506 queues a howl with a new MSGID. -/
  | howlSend (tag : Nat) (scope : Nat) (group : Nat) (ttl : Nat) (deadline : Nat) (op : Nat) (body : List Byte)
  /-- NODE_FLUSH (R490). Command 0x0507 cancels the frames queued for a node. -/
  | nodeFlush (tag : Nat) (ln : Nat)
  /-- HOWL_WINDOW (R467). At each howl window, the module sends pending howl copies on the howl channels. -/
  | howlWindow (w : Nat)
  /-- HOWL_DONE (R493). 600 s after a howl's last copy, HOWL_DONE is reported. -/
  | howlDone (msgid : Nat)
  /-- E2E_TIMEOUT (R458). With no RESP in time, a routed frame is repeated once, then ends NO_E2E. -/
  | e2eTimeout (ln : Nat) (t : Nat)
  /-- DEADLINE_EXPIRY (R490). A frame whose deadline passes before it is on air ends LATE. -/
  | deadlineExpiry (ln : Nat) (t : Nat)
  /-- RETRY_TIMER_EXPIRY (R491). A frame refused for budget or busy is retried after 60 s or 1 s. -/
  | retryTimerExpiry (ln : Nat) (t : Nat)
  /-- LNT_CNT_READ (R207). A read of LNT_CNT0 to LNT_CNT2 or LNT_LUXCNT0 to LNT_LUXCNT1 returns the counts and clears them. -/
  | lntCntRead (k : Nat) (upd : List Nat)
  /-- LIGHTING_DAY_END (R559). At the end of a lighting day, energy history goes to the archive and tables are refreshed. -/
  | lightingDayEnd (day : Nat)
  /-- LUX_OVERRIDE (R519). Command 0x0601 starts an override and sends its LEVEL frames. -/
  | luxOverride (tag : Nat) (kind : Nat) (id : Nat) (level : Nat) (ramp : Nat) (dur : Nat)
  /-- LUX_RELEASE (R523). Command 0x0602 ends overrides and restores each lantern's next applicable level. -/
  | luxRelease (tag : Nat) (ovid : Nat)
  /-- LUX_STATE (R519). Command 0x0603 returns a lantern's lighting state. -/
  | luxState (tag : Nat) (ln : Nat)
  /-- FEEDER_STATE (R536). Command 0x0604 returns a feeder's supply state. -/
  | feederState (tag : Nat) (feeder : Nat)
  /-- FAULT_LIST (R533). Command 0x0605 lists lanterns with active faults. -/
  | faultList (tag : Nat) (first : Nat) (count : Nat)
  /-- ENERGY_GET (R557). Command 0x0606 returns a lantern's energy data. -/
  | energyGet (tag : Nat) (ln : Nat)
  /-- OVERRIDE_RENEWAL (R520). A renewal LEVEL is sent no later than 300 s before each HOLD ends. -/
  | overrideRenewal (ovid : Nat)
  /-- OVERRIDE_EXPIRY (R523). An override whose duration ends is released as by LUX_RELEASE. -/
  | overrideExpiry (ovid : Nat)
  /-- COMMS_LOST (R535). With no contact for 3 × BI + 600 s, COMMS_LOST is raised. -/
  | commsLost (ln : Nat)
  /-- FEEDER_NOTICE_RECEIVED (R537). A feeder supply state notice with a higher sequence number changes the feeder state. -/
  | feederNoticeReceived (n : FeederNotice)
  /-- RECLOSE_FORECAST_RECEIVED (R38). A reclose forecast with a higher sequence number moves a LOST feeder to RECLOSE_PENDING. -/
  | recloseForecastReceived (n : FeederNotice)
  /-- KENNEL_DROP_DETECTED (R39). A changed DROPCNT on kennel 64 or 65 makes the lighting engine request the complete feeder state. -/
  | kennelDropDetected (k : Nat)
  /-- GRACE_EXPIRY (R538). At the end of GRACE, the feeder enters SUPPLIED and suppressed lanterns are queried. -/
  | graceExpiry (feeder : Nat)
  /-- BATCH_RELEASE (R547). The next release batch of a pickup starts after START or T_STEP. -/
  | batchRelease (feeder : Nat) (t : Nat)
  /-- APP_DOMAIN_RETURN (R552). When the APP domain returns to RUN, the lighting engine rebuilds feeder states. -/
  | appDomainReturn
  /-- UV_SUMMARY (R556). 30 s after the first UVOLT of a dip, a UV_SUMMARY is reported. -/
  | uvSummary (feeder : Nat)
  /-- LINK_UP (R562). After 10 ms of PCS lock with RX_LOS low, a port's link is declared up and logged. -/
  | linkUp (port : Nat)
  /-- LINK_DOWN (R562, R564). After 1 ms without block lock or synchronisation (`pcs` false) or with RX_LOS high (`los`), the link goes down,
  its learned entries are flushed, and the event is logged. -/
  | linkDown (port : Nat) (pcs los : Bool)
  /-- SWITCH_FRAME_RECEIVED (R567). A received frame is filtered by VLAN, learned, deduplicated, routed or forwarded. -/
  | switchFrameReceived (f : SwFrame) (bad : List (Nat × Nat))
  /-- PARITY_RESTORE (R604). An invalidated entry with a shadow copy is restored within 1 ms. -/
  | parityRestore (table : Nat) (idx : Nat)
  /-- MAC_ENTRY_AGE_OUT (R580). A learned entry not refreshed for AGE seconds is removed. -/
  | macEntryAgeOut (cursor : Nat)
  /-- FWD_SEARCH (R592). Command 0x0701 returns what a hardware lookup of the key would return. -/
  | fwdSearch (tag : Nat) (table : Nat) (key : FwdEnt)
  /-- FWD_NEXT (R593). Command 0x0702 walks a table from a cursor. -/
  | fwdNext (tag : Nat) (table : Nat) (cursor : Nat) (mx : Nat)
  /-- FWD_ADD (R595). Command 0x0703 writes a static entry. -/
  | fwdAdd (tag : Nat) (table : Nat) (ent : FwdEnt)
  /-- FWD_DEL (R595). Command 0x0704 removes one entry. -/
  | fwdDel (tag : Nat) (table : Nat) (key : FwdEnt)
  /-- FWD_FLUSH (R598). Command 0x0705 flushes a port's learned entries by generation or by sweep. -/
  | fwdFlush (tag : Nat) (port : Nat) (vid : Nat)
  /-- FLUSH_SWEEP_DONE (R598). The background sweep ends and the flush responds with COUNT. -/
  | flushSweepDone (port : Nat)
  /-- SUB_STATUS (R621). Command 0x0706 returns a subscription's status. -/
  | subStatus (tag : Nat) (kind : Nat) (idx : Nat)
  /-- FWD_CNT_READ (R207). A read of FWD_PARCNT, FWD_CNT0 or FWD_CNT1 returns the counts and clears them. -/
  | fwdCntRead (k : Nat) (upd : List Nat)
  /-- SV_ASDU_RECEIVED (R611). When an ASDU's last channel byte arrives and it matches, a SAMPLE is cut through to both halves, or it is held or discarded. -/
  | svAsduReceived (a : SvAsdu) (badCopies : Nat)
  /-- SV_FRAME_END (R613). At the end or abort of an SV frame, a VERDICT is posted for each delivered sample. -/
  | svFrameEnd (frame : Nat) (result : Nat) (bytes : List Byte)
  /-- SV_STREAM_LOST (R621). With no CHECKED verdict for 10 ms, the stream is declared lost. -/
  | svStreamLost (sub : Nat)
  /-- GOOSE_FRAME_RECEIVED (R622). A good, subscribed GOOSE message passing sequence and simulation checks is delivered to both halves. -/
  | gooseFrameReceived (m : GoMsg) (badCopies : Nat)
  /-- GOOSE_LOST (R625). With no message within timeAllowedToLive, GSTATE lost is posted and logged. -/
  | gooseLost (sub : Nat)
  /-- HALF_SAMPLE_DELIVERED (R634). A half takes a SAMPLE into its alignment buffer, synthesising skipped samples or discarding late ones. -/
  | halfSampleDelivered (h : Nat) (x : HalfSample)
  /-- HALF_VERDICT (R656). A half receives a VERDICT and confirms or fails the sample's results. -/
  | halfVerdict (h : Nat) (stream : Nat) (smp : Nat) (deliv : Nat) (result : Nat)
  /-- HALF_HMAC_DONE (R617). A half's HMAC check of a FRAME packet completes, passing or failing the sample. -/
  | halfHmacDone (h : Nat) (sub : Nat) (deliv : Nat) (ok : Bool)
  /-- PASS_DUE (R632). Pass k becomes due when every expected sample is present or at t_k + PALIGN, and missing samples are synthesised. -/
  | passDue (h : Nat)
  /-- PASS_END (R670). At the end of a pass, the half forms its output vector, commits records, posts notices, and updates publications. -/
  | passEnd (h : Nat) (outs : List InstOut) (durUs : Nat) (imp : List (Nat × Option Nat))
  /-- PROVISIONAL_EXPIRY (R659). Provisional results expire 2 sample periods after their pass start, and pre-arms are disarmed. -/
  | provisionalExpiry (h : Nat) (k : Nat)
  /-- REEVALUATION (R660). A half re-evaluates a pass on the real or held sample and confirms or replaces its results. -/
  | reevaluation (h : Nat) (k : Nat) (outs : List (Nat × List InstOut)) (fits : Bool)
  /-- GOOSE_RETRANSMIT (R686). A publication is resent at the doubling interval up to MAXT. -/
  | gooseRetransmit (h : Nat) (pub : Nat)
  /-- BACKUP_OC_PICKUP (R679). A backup element picks up after COUNT samples at or above THR. -/
  | backupOcPickup (e : Nat) (ch : Nat) (bits : List Bool)
  /-- BACKUP_OC_TRIP (R681). After DLY picked up, the element requests a trip through the hold stage and logs BACKUP_OC_TRIP. -/
  | backupOcTrip (e : Nat) (ch : Nat)
  /-- BACKUP_OC_DROPOUT (R680). The element drops out after 12 ms without a sample at threshold. -/
  | backupOcDropout (e : Nat)
  /-- BACKUP_OC_HOLD_EXPIRY (R681). The trip request ends BKHOLD after dropout. -/
  | backupOcHoldExpiry (e : Nat)
  /-- HALF_UVOLT_RECEIVED (R692). A half takes a lantern undervoltage report for FLOC. -/
  | halfUvoltReceived (h : Nat) (ln : Nat) (t : Nat) (vres : Nat) (lost : Bool)
  /-- FLOC_LOCATE (R694). 35 s after a trip, FLOC locates the faulted section and issues stage 2. -/
  | flocLocate (h : Nat) (feeder : Nat)
  /-- OUTPUT_WEAR_REMAP (R698). At a quiescent moment, an output at 90 % wear moves to its spare line. -/
  | outputWearRemap (line : Nat)
  /-- PROT_STATUS (R642). Command 0x0801 returns a half's pass status. -/
  | protStatus (tag : Nat) (h : Nat)
  /-- INST_STATUS (R979). Command 0x0802 returns an instance's status. -/
  | instStatus (tag : Nat) (h : Nat) (inst : Nat)
  /-- PROT_RESET (R701). Command 0x0803 sets signal 0x1800 for the next pass and releases LATCH outputs. -/
  | protReset (tag : Nat)
  /-- INST_BLOCK (R702). Command 0x0804 blocks or unblocks an instance in both halves. -/
  | instBlock (tag : Nat) (inst : Nat) (on : Nat)
  /-- FLOC_GET (R695). Command 0x0805 returns the last FLOC result of a feeder. -/
  | flocGet (tag : Nat) (feeder : Nat)
  /-- PRX_CNT_READ (R207). A read of PRx_PASS, PRx_CNT0 or PRx_CNT1 returns the counts and clears them. -/
  | prxCntRead (h : Nat) (k : Nat) (upd : List Nat)
  /-- VEC_RECEIVED (R710). A VEC packet is compared with the own vector for agreement, disagreement counting and lateness. -/
  | vecReceived (h : Nat) (v : VecPkt)
  /-- STATE_PACKET_RECEIVED (R709). The heel replaces its series values from a STATE packet. -/
  | statePacketReceived (h : Nat)
  /-- AGWAIT_EXPIRY (R714). With no heel VEC at AGWAIT and a TRIP awaiting agreement, the heel is declared failed. -/
  | agwaitExpiry (k : Nat)
  /-- LIVEWIN_EXPIRY (R727). With no lead VEC 20 µs after the heel's, the lead is declared failed and LEASH transfers. -/
  | livewinExpiry (k : Nat)
  /-- BRC_TRANSFER (R733). Command 0x0902 makes a planned LEASH transfer at a quiet pass. -/
  | brcTransfer (tag : Nat)
  /-- TRANSFER_TIMEOUT (R735). With no quiet pass within 10 s, the request ends QUIET_TIMEOUT. -/
  | transferTimeout
  /-- BRC_RESYNC (R723). Command 0x0903 declares a half failed so that it rejoins. -/
  | brcResync (tag : Nat) (h : Nat)
  /-- BRC_STATUS (R704). Command 0x0901 returns the brace status. -/
  | brcStatus (tag : Nat)
  /-- PARTNER_YIELD (R744). Command 0x0904 lowers LSH_OUT at a matching quiet pass. -/
  | partnerYield (tag : Nat)
  /-- HALF_REJOIN_START (R736). A half reaching RUN enters REJOINING and receives state from the lead. -/
  | halfRejoinStart (h : Nat)
  /-- REJOIN_COMPLETE (R737). The rejoining half runs its first own pass at k_j and is IN_STEP. -/
  | rejoinComplete (h : Nat) (k : Nat)
  /-- PROTECTION_CORE_FAILURE (R764). A failed protection core fails its half, and the half restarts with a spare. -/
  | protectionCoreFailure (h : Nat) (core : Nat) (reason : Nat) (ms : List Nat)
  /-- LSH_IN_LOW_DEBOUNCE (R742). A READY module raises LSH_OUT after LSH_IN has been low for LSHDEB. -/
  | lshInLowDebounce
  /-- LSH_TIE_SAMPLE (R745). 5 µs after raising LSH_OUT, a SECONDARY finding LSH_IN high lowers it. -/
  | lshTieSample (high : Bool)
  /-- PARTNER_FRAME_SEND (R748). Every 1 ms and at each STATE change, a partner frame is sent on P5. -/
  | partnerFrameSend
  /-- PARTNER_FRAME_RECEIVED (R749). A valid partner frame updates the partner state, roles and mismatches. -/
  | partnerFrameReceived (f : PartnerFrame)
  /-- PARTNER_LOST (R751). With no frame for 30 ms, the partner is declared lost. -/
  | partnerLost
  /-- PARTNER_SEQ_SAVE (R750). The last accepted partner TXSEQ is saved to MRAM every 10 s. -/
  | partnerSeqSave
  /-- HANDOVER_LOAD_DONE (R756). The heel has loaded the new settings and runs them from k_w in SUSPENDED. -/
  | handoverLoadDone (k : Nat)
  /-- HANDOVER_WARM_EXPIRY (R756). After HOWARM, the handover waits for a quiet pass to transfer LEASH to the heel. -/
  | handoverWarmExpiry
  /-- HANDOVER_WAIT_TIMEOUT (R761). With no quiet pass within HOWAIT, the handover fails. -/
  | handoverWaitTimeout
  /-- LUX_RESULT_COMPARE (R765). In suite L, both halves' lighting results are compared before distribution. -/
  | luxResultCompare (task : Nat) (id : Nat) (again : Bool) (a : List Nat) (b : List Nat)
  /-- BRC_CNT_READ (R207). A read of BRC_CNT0, BRC_CNT1, BRC_XCNT0 or BRC_XCNT1 returns the counts and clears them. -/
  | brcCntRead (k : Nat) (upd : List Nat)
  /-- MOD_RUN_START (R782). 64 clocks at one level set the channel's MTR_RUN bit, and the next transition clears it. -/
  | modRunStart (ch : Nat) (run : Bool)
  /-- MTR_CHANNEL_STUCK (R783). A run lasting 20 ms declares the channel STUCK and is logged. -/
  | mtrChannelStuck (ch : Nat)
  /-- METER_WINDOW_END (R801). At each harmonic window end, the accumulators advance on valid data or a gap is counted. -/
  | meterWindowEnd (dur : Nat) (freq : Nat) (spans : List ModSpan)
  /-- METER_SAVE (R803). Every SAVEPER the accumulators are written to the alternate MRAM slot. -/
  | meterSave
  /-- METER_INTERVAL_END (R793). At a 10 min or 2 h boundary, the aggregated values are formed and reported. -/
  | meterIntervalEnd
  /-- SUPRA_WINDOW_END (R796). Every 200 ms the supraharmonic bands are computed. -/
  | supraWindowEnd (spans : List ModSpan)
  /-- METER_PROT_SAMPLE (R809). At PRATE, the MFE posts aligned metering samples to both halves. -/
  | meterProtSample (k : Nat) (spans : List ModSpan)
  /-- MTR_READ (R800). Command 0x0A01 returns a circuit's accumulators. -/
  | mtrRead (tag : Nat) (circ : Nat)
  /-- MTR_VALUES (R793). Command 0x0A02 returns the RMS, power and frequency values. -/
  | mtrValues (tag : Nat) (mp : Nat) (intv : Nat)
  /-- MTR_HARM (R794). Command 0x0A03 returns the harmonic subgroups. -/
  | mtrHarm (tag : Nat) (mp : Nat) (ch : Nat) (intv : Nat)
  /-- MTR_SUPRA (R796). Command 0x0A04 returns the supraharmonic bands. -/
  | mtrSupra (tag : Nat) (mp : Nat) (ch : Nat) (intv : Nat) (first : Nat) (count : Nat)
  /-- MTR_CAL_MEASURE (R811). Command 0x0A05 averages a measurement over WINDOWS windows. -/
  | mtrCalMeasure (tag : Nat) (ch : Nat) (mode : Nat) (refch : Nat) (windows : Nat)
  /-- MTR_CAL_TRIAL (R811). Command 0x0A06 loads trial calibration constants. -/
  | mtrCalTrial (tag : Nat) (ch : Nat) (ofs : Int) (gain : Nat) (delay : Int)
  /-- MTR_SAVE_NOW (R805). Command 0x0A07 saves the accumulators at the next window end. -/
  | mtrSaveNow (tag : Nat)
  /-- MTR_CNT_READ (R207). A read of MTR_CNT returns the counts and clears them. -/
  | mtrCntRead (upd : List Nat)
  /-- RECORD_POST (R838). A producer posts a record into the ingress buffer, or it is refused and counted. -/
  | recordPost (dom : Nat) (log : Nat) (code : Nat) (inst : Nat) (par : List Nat)
  /-- LANE_EVENT (R837). A hardware-lane event takes a slot, merges into one, or is counted lost. -/
  | laneEvent (code : Nat) (source : Nat) (par : List Nat)
  /-- RECORD_COMMIT (R835). The recorder commits the next lane or ingress record to its log, with coalescing. -/
  | recordCommit
  /-- COALESCE_WINDOW_END (R844). At a window end, a summary is committed or the entry is released. -/
  | coalesceWindowEnd (log : Nat) (code : Nat) (source : Nat) (par0 : Nat)
  /-- LOG_AREA_SUBST (R825). A failed MRAM area is replaced by a spare area and logged. -/
  | logAreaSubst (log : Nat) (firsts : Bool) (area : Nat) (unreadable : List Nat)
  /-- LOG_INFO (R818). Command 0x0B01 returns the state of a log. -/
  | logInfo (tag : Nat) (log : Nat)
  /-- LOG_READ (R848). Command 0x0B02 returns records from a SEQ. -/
  | logRead (tag : Nat) (log : Nat) (frm : Nat) (count : Nat)
  /-- LOG_CLEAR (R831). Command 0x0B03 clears a log up to UPTO after its checks. -/
  | logClear (tag : Nat) (log : Nat) (upto : Nat) (ccnt : Nat) (sigOk : Bool)
  /-- LOG_APPEND (R969). Command 0x0B04 appends a host record to L9–L15. -/
  | logAppend (tag : Nat) (log : Nat) (code : Nat) (par : List Nat)
  /-- EVR_CNT_READ (R207). A read of EVR_CNT returns the counts and clears them. -/
  | evrCntRead (upd : List Nat)
  /-- ARCHIVE_SAMPLE_POST (R853). The lead posts checked samples to archive staging, subject to shedding. -/
  | archiveSamplePost (h : Nat) (sub : Nat) (k : Nat)
  /-- ARCHIVE_CHUNK_WRITE (R859). A 1 MiB chunk is encrypted and written once with FUA within the budget. -/
  | archiveChunkWrite
  /-- EXTENT_SEAL (R862). A full extent is sealed with its index and catalogue descriptor. -/
  | extentSeal (no : Nat)
  /-- ARC_ONLINE (R851). When every namespace answers and the catalogues are read, the archive is online. -/
  | arcOnline (ms : Nat) (free : Nat)
  /-- ARC_NS_FAIL (R852). A namespace that fails or does not answer for 5 s is marked failed. -/
  | arcNsFail (nsid : Nat)
  /-- DIST_TRIGGER (R868). A trigger opens or extends a disturbance window. -/
  | distTrigger (t : Nat) (cause : Nat)
  /-- DIST_WINDOW (R868). At the window close, the samples are copied into DIST extents and logged. -/
  | distWindow (did : Nat)
  /-- TIER_DOWNSAMPLE (R869). A tier 0 extent older than FULLYRS is resampled to tier 1. -/
  | tierDownsample (no : Nat)
  /-- ARC_STATUS (R851). Command 0x0C01 returns the archive status. -/
  | arcStatus (tag : Nat)
  /-- ARC_FETCH (R874). Command 0x0C02 writes archived samples or records into a window. -/
  | arcFetch (tag : Nat) (req : FetchReq) (work : Nat)
  /-- ARC_MARK (R868). Command 0x0C03 triggers a disturbance window. -/
  | arcMark (tag : Nat) (cause : Nat)
  /-- ARC_DIST_LIST (R868). Command 0x0C04 lists disturbance windows. -/
  | arcDistList (tag : Nat) (frm : Nat) (count : Nat)
  /-- ARC_COMTRADE (R876). Command 0x0C05 writes COMTRADE files of a window. -/
  | arcComtrade (tag : Nat) (did : Nat) (stream : Nat) (win : Nat) (wofs : Nat) (maxb : Nat)
  /-- KEY_REQUEST (R887). The chuck serves or refuses a slot request and decrements counted uses. -/
  | keyRequest (dom : Nat) (engine : Nat) (slot : Nat) (alg : Nat) (use : KeyUse)
  /-- KEY_UPDATE (R897). Command 0x0D02 checks and applies a key update message. -/
  | keyUpdate (tag : Nat) (win : Nat) (wofs : Nat) (len : Nat) (signers : List Nat) (zer : Option Nat)
  /-- TAMPER_INPUT (R907). TAMPER_N or ZEROISE_N low for 1 µs starts the zeroise sequence. -/
  | tamperInput (zeroise : Bool) (low : Bool)
  /-- KEY_ZEROISE (R923). Command 0x0D04 with the confirm value starts a zeroise. -/
  | keyZeroise (tag : Nat) (confirm : Nat)
  /-- KEY_STATUS (R893). Command 0x0D01 returns a slot's attributes. -/
  | keyStatus (tag : Nat) (slot : Nat)
  /-- KEY_INFO (R886). Command 0x0D03 returns the unit ID, UCNT and key status. -/
  | keyInfo (tag : Nat)
  /-- CRYPTO_JOB_SUBMIT (R917). A crypto message is assigned to the least loaded engine of its class. -/
  | cryptoJobSubmit (rt : Bool) (pieces : Nat) (slot : Option Nat)
  /-- CRYPTO_PIECE_END (R919). At a piece boundary, the engine picks the next piece by class and order, or abandons a stale-epoch job. -/
  | cryptoPieceEnd (engine : Nat)
  /-- KEY_CNT_READ (R207). A read of KEY_CNT returns the counts and clears them. -/
  | keyCntRead (upd : List Nat)
  /-- BIL_STAGE_OPEN (R931). Command 0x0210 maps a billet staging page through window 7. -/
  | bilStageOpen (tag : Nat) (page : Nat)
  /-- BIL_STAGE_CHECK (R933). Command 0x0211 checks the staged billet. -/
  | bilStageCheck (tag : Nat) (len : Nat) (bil : Billet)
  /-- UPD_COMMIT (R936). Command 0x0212 writes the billet and image to the other device and restarts. -/
  | updCommit (tag : Nat) (cfg : Nat) (trial : Nat) (img : Image) (e : WriteEnd)
  /-- UPD_CONFIRM (R939). Command 0x0213 confirms the billet on trial. -/
  | updConfirm (tag : Nat)
  /-- UPD_ROLLBACK (R940). Command 0x0214 rolls back the billet on trial. -/
  | updRollback (tag : Nat)
  /-- UPD_STATUS (R942). Command 0x0215 returns the update status. -/
  | updStatus (tag : Nat)
  /-- TRIAL_EXPIRY (R941). When the trial runs out, the billet is withdrawn and the module restarts. -/
  | trialExpiry
  /-- RECOVERY_READ (R944). Recovery operation 1 reads device bytes into UPD_RBUF. -/
  | recoveryRead
  /-- RECOVERY_ERASE (R945). Recovery operation 2 erases a 64 KiB sector after withdrawing the device. -/
  | recoveryErase
  /-- RECOVERY_PROGRAM (R944). Recovery operation 3 programs bytes from UPD_RBUF and reads them back. -/
  | recoveryProgram
  /-- RECOVERY_VERIFY (R946). Recovery operation 4 checks the billet and image and writes the faceplates. -/
  | recoveryVerify (bil : Billet) (img : Image) (e : WriteEnd)
  /-- RECOVERY_EXIT (R944). Recovery operation 5 makes a warm restart with cause RECOVERY. -/
  | recoveryExit (ms : List Nat)
  /-- NB_LOAD (R955). Command 0x0220 loads and checks a node billet. -/
  | nbLoad (tag : Nat) (win : Nat) (wofs : Nat) (len : Nat)
  /-- NB_START (R956). Command 0x0221 starts a node billet campaign. -/
  | nbStart (tag : Nat) (mode : Nat) (group : Nat) (ttl : Nat) (chgap : Nat) (rehowl : Nat) (rounds : Nat) (nackwin : Nat)
  /-- NB_ADDNODES (R956). Command 0x0222 adds nodes to the campaign list. -/
  | nbAddnodes (tag : Nat) (lns : List Nat)
  /-- NB_ACTIVATE (R960). Command 0x0223 sets the activation time in READY. -/
  | nbActivate (tag : Nat) (act : Nat)
  /-- NB_ABORT (R961). Command 0x0224 aborts the campaign. -/
  | nbAbort (tag : Nat)
  /-- NB_STATUS (R962). Command 0x0225 returns the campaign progress. -/
  | nbStatus (tag : Nat)
  /-- CAMPAIGN_SLOT (R957). At each campaign slot, the next campaign howl is sent unless displaced. -/
  | campaignSlot (w : Nat)
  /-- CAMPAIGN_QUERY_END (R957). NACKWIN + 60 s after a query, the phase ends and silent members are queried by unicast. -/
  | campaignQueryEnd
  /-- CAMPAIGN_ACT_QUERY (R957). At ACT + 960 s, the module queries once more and counts active and reverted members. -/
  | campaignActQuery
  /-- PTP_ANNOUNCE_RECEIVED (R286). An Announce message is received on a PTP port and the default BMCA selects the master and slave port, and takes currentUtcOffset and leap flags. -/
  | ptpAnnounceReceived (port : Nat) (ann : Announce)
  /-- MOD_ABS_CHANGE (R565). A change of a cage's MOD_ABS input makes the module drive TX_DIS of that cage low or release it. -/
  | modAbsChange (port : Nat) (absent : Bool)
  /-- STUCK_CLEAR (R783). After 20 ms with at least one transition in every 64 clocks, the module clears the channel's STUCK flag and resumes passing its samples. -/
  | stuckClear (ch : Nat)
  /-- TB_PPSIN_LO_READ (R291). A read of TB_PPSIN_LO returns the low stamp bits and freezes TB_PPSIN_HI until it is read. -/
  | tbPpsinLoRead
  /-- TB_PPSIN_HI_READ (R291). A read of TB_PPSIN_HI returns the frozen high stamp bits and unfreezes them. -/
  | tbPpsinHiRead
  /-- LEADERSHIP_START_WAIT_EXPIRY (R742). A READY module with effective role SECONDARY whose LSH_IN is already low raises LSH_OUT once 10 s have passed since its VIN valid and its last start. -/
  | leadershipStartWaitExpiry
  deriving DecidableEq, Repr

end Sys2Proof
end

