-- ==== Sys2Proof/Decode.lean ====
section
/-! DEFINITION. The block has no instruction words: its commands are register accesses, mailbox entries, frames and events, and
spec/opcode_table.json gives no row any bits. So no word spells a command. -/
namespace Sys2Proof

/-- The command that a word spells by the table's bits: none, since the table gives none of its rows bits. -/
def decodeTableWord (_nbits _w : Nat) : Option Instr := none

end Sys2Proof
end

