-- ==== Sys2Proof/Machine/Bits.lean ====
section
/-! DEFINITION. Bits, bytes, signed numbers and check codes: the helpers every family uses. -/
namespace Sys2Proof.Machine

/-- Bit `i` of `n`. -/
def bit (n i : Nat) : Bool := n.testBit i

/-- A mask of the one bit `i`. -/
def one (i : Nat) : Nat := 2 ^ i

/-- `n` with bit `i` made `b`. -/
def putBit (n i : Nat) (b : Bool) : Nat :=
  if bit n i = b then n else if b then n + one i else n - one i

/-- The bits of `a` that are not in `b` (both below 2 ^ `w`). -/
def andNot (w a b : Nat) : Nat := a &&& (2 ^ w - 1 - b % 2 ^ w)

/-- The number of ones in the low `w` bits. -/
def popcount : Nat → Nat → Nat
  | 0, _ => 0
  | w + 1, n => (if bit n w then 1 else 0) + popcount w n

/-- The positions of the ones in the low `w` bits, rising. -/
def ones (w n : Nat) : List Nat := (List.range w).filter fun i => bit n i

/-- 1 for true. -/
def b2n (b : Bool) : Nat := if b then 1 else 0

/-- `n` lies between `lo` and `hi`. -/
def within (lo hi n : Nat) : Bool := decide (lo ≤ n) && decide (n ≤ hi)
@[inherit_doc within] def withinI (lo hi i : Int) : Bool := decide (lo ≤ i) && decide (i ≤ hi)

/-- The two's complement reading of the low `w` bits (s32, s48, …). -/
def toS (w n : Nat) : Int := let m := n % 2 ^ w; if m < 2 ^ (w - 1) then (m : Int) else (m : Int) - 2 ^ w

/-- The low `w` bits of a signed number. -/
def ofS (w : Nat) (i : Int) : Nat := (i % (2 ^ w : Int)).toNat

/-- `i` kept between `lo` and `hi`. -/
def clampI (lo hi i : Int) : Int := if i < lo then lo else if hi < i then hi else i

/-- `n` kept between `lo` and `hi`. -/
def clamp (lo hi n : Nat) : Nat := if n < lo then lo else if hi < n then hi else n

/-- A counter that stops at its maximum. -/
def satAdd (mx a b : Nat) : Nat := if mx < a + b then mx else a + b

/-- The low `n` bytes of a number, lowest first. -/
def le : Nat → Nat → List Byte
  | 0, _ => []
  | n + 1, v => BitVec.ofNat 8 v :: le n (v / 256)

/-- The low `n` bytes of a number, highest first (network order). -/
def be (n v : Nat) : List Byte := (le n v).reverse

/-- The number that bytes spell, lowest first. -/
def fromLe : List Byte → Nat
  | [] => 0
  | b :: bs => b.toNat + 256 * fromLe bs

/-- The number that bytes spell, highest first. -/
def fromBe (bs : List Byte) : Nat := fromLe bs.reverse

/-- `n` zero bytes. -/
def zeros (n : Nat) : List Byte := List.replicate n 0

/-- The bytes of a list of (width, value) pairs, packed without padding. -/
def pack : List (Nat × Nat) → List Byte
  | [] => []
  | (w, v) :: r => le w v ++ pack r

/-- Whether two lists of keys meet. -/
def anyIn (a b : List Nat) : Bool := a.any fun x => b.contains x

/-- The first `n` elements of `l` padded with `d`. -/
def padTo {α : Type} (n : Nat) (d : α) (l : List α) : List α := l.take n ++ List.replicate (n - l.length) d

/-! ### Check codes -/

/-- One bit of a CRC that shifts left: register width `w`, polynomial `poly`. -/
def crcBitL (w poly r : Nat) : Nat := if bit r (w - 1) then ((r * 2) % 2 ^ w) ^^^ poly else (r * 2) % 2 ^ w

/-- One bit of a CRC that shifts right with reflected polynomial `poly`. -/
def crcBitR (poly r : Nat) : Nat := if bit r 0 then (r / 2) ^^^ poly else r / 2

/-- Apply `f` `n` times. -/
def iter {α : Type} (f : α → α) : Nat → α → α
  | 0, a => a
  | n + 1, a => iter f n (f a)

/-- The CRC-8 of R817: polynomial 0x07, initial value 0, no reflection, no final XOR. -/
def crc8 (bs : List Byte) : Nat := bs.foldl (fun r b => iter (crcBitL 8 0x07) 8 (r ^^^ b.toNat)) 0

/-- The CRC-32 of R967: polynomial 0x04C1_1DB7 reflected, initial value and final XOR 0xFFFF_FFFF. -/
def crc32 (bs : List Byte) : Nat :=
  (bs.foldl (fun r b => iter (crcBitR 0xEDB88320) 8 (r ^^^ b.toNat)) 0xFFFFFFFF) ^^^ 0xFFFFFFFF

/-- The integer square root of `n`, searched downward from bit `k`. -/
def isqrtFrom : Nat → Nat → Nat → Nat
  | 0, _, r => r
  | k + 1, n, r => let c := r + 2 ^ k; isqrtFrom k n (if c * c ≤ n then c else r)

/-- The integer square root of a number below 2 ^ 64. -/
def isqrt (n : Nat) : Nat := isqrtFrom 32 n 0

/-- The least square root at or above (rounding up). -/
def isqrtUp (n : Nat) : Nat := let r := isqrt n; if r * r = n then r else r + 1

/-- Stable insertion of `a` into a list ordered by `lt`. -/
def insertBy {α : Type} (lt : α → α → Bool) (a : α) : List α → List α
  | [] => [a]
  | b :: l => if lt a b then a :: b :: l else b :: insertBy lt a l

/-- Stable sort. -/
def sortBy {α : Type} (lt : α → α → Bool) (l : List α) : List α := l.foldl (fun acc a => insertBy lt a acc) []

end Sys2Proof.Machine
end

