-- ==== Sys2Proof/Machine/Crypto.lean ====
section
/-! DEFINITION. The ciphers and digests that the spec names: AES with 128- and 256-bit keys, AES key wrap, AES-CMAC, CCM*, the counter-mode KDF of R885,
SHA-256 and HMAC-SHA-256. PRESUMED (log entry 91): the spec names these standards (FIPS 197, FIPS 180-4, FIPS 198-1, NIST SP 800-38B, SP 800-38C,
SP 800-38D, SP 800-38F and SP 800-108) and does not print them; the functions are theirs. -/
namespace Sys2Proof.Machine

/-- The bytes of a text in ASCII. -/
def ascii (t : String) : List Byte := t.toList.map fun c => BitVec.ofNat 8 c.toNat

/-- The bitwise sum of two byte strings, as long as the shorter. -/
def xorBytes (a b : List Byte) : List Byte := List.zipWith (· ^^^ ·) a b

/-- A byte string cut into blocks of `n` bytes, at most `k` of them. -/
def blocksOfBytes (n : Nat) : Nat → List Byte → List (List Byte)
  | 0, _ => []
  | k + 1, l => if l.isEmpty then [] else l.take n :: blocksOfBytes n k (l.drop n)

/-- Zero bytes that complete a byte string to a whole number of 16-byte blocks. -/
def pad16 (l : List Byte) : List Byte := l ++ zeros ((16 - l.length % 16) % 16)

/-! ### AES -/

/-- The S-box of AES. -/
def sboxRows : List (List Nat) :=
  [[0x63, 0x7c, 0x77, 0x7b, 0xf2, 0x6b, 0x6f, 0xc5, 0x30, 0x01, 0x67, 0x2b, 0xfe, 0xd7, 0xab, 0x76],
   [0xca, 0x82, 0xc9, 0x7d, 0xfa, 0x59, 0x47, 0xf0, 0xad, 0xd4, 0xa2, 0xaf, 0x9c, 0xa4, 0x72, 0xc0],
   [0xb7, 0xfd, 0x93, 0x26, 0x36, 0x3f, 0xf7, 0xcc, 0x34, 0xa5, 0xe5, 0xf1, 0x71, 0xd8, 0x31, 0x15],
   [0x04, 0xc7, 0x23, 0xc3, 0x18, 0x96, 0x05, 0x9a, 0x07, 0x12, 0x80, 0xe2, 0xeb, 0x27, 0xb2, 0x75],
   [0x09, 0x83, 0x2c, 0x1a, 0x1b, 0x6e, 0x5a, 0xa0, 0x52, 0x3b, 0xd6, 0xb3, 0x29, 0xe3, 0x2f, 0x84],
   [0x53, 0xd1, 0x00, 0xed, 0x20, 0xfc, 0xb1, 0x5b, 0x6a, 0xcb, 0xbe, 0x39, 0x4a, 0x4c, 0x58, 0xcf],
   [0xd0, 0xef, 0xaa, 0xfb, 0x43, 0x4d, 0x33, 0x85, 0x45, 0xf9, 0x02, 0x7f, 0x50, 0x3c, 0x9f, 0xa8],
   [0x51, 0xa3, 0x40, 0x8f, 0x92, 0x9d, 0x38, 0xf5, 0xbc, 0xb6, 0xda, 0x21, 0x10, 0xff, 0xf3, 0xd2]] ++
  [[0xcd, 0x0c, 0x13, 0xec, 0x5f, 0x97, 0x44, 0x17, 0xc4, 0xa7, 0x7e, 0x3d, 0x64, 0x5d, 0x19, 0x73],
   [0x60, 0x81, 0x4f, 0xdc, 0x22, 0x2a, 0x90, 0x88, 0x46, 0xee, 0xb8, 0x14, 0xde, 0x5e, 0x0b, 0xdb],
   [0xe0, 0x32, 0x3a, 0x0a, 0x49, 0x06, 0x24, 0x5c, 0xc2, 0xd3, 0xac, 0x62, 0x91, 0x95, 0xe4, 0x79],
   [0xe7, 0xc8, 0x37, 0x6d, 0x8d, 0xd5, 0x4e, 0xa9, 0x6c, 0x56, 0xf4, 0xea, 0x65, 0x7a, 0xae, 0x08],
   [0xba, 0x78, 0x25, 0x2e, 0x1c, 0xa6, 0xb4, 0xc6, 0xe8, 0xdd, 0x74, 0x1f, 0x4b, 0xbd, 0x8b, 0x8a],
   [0x70, 0x3e, 0xb5, 0x66, 0x48, 0x03, 0xf6, 0x0e, 0x61, 0x35, 0x57, 0xb9, 0x86, 0xc1, 0x1d, 0x9e],
   [0xe1, 0xf8, 0x98, 0x11, 0x69, 0xd9, 0x8e, 0x94, 0x9b, 0x1e, 0x87, 0xe9, 0xce, 0x55, 0x28, 0xdf],
   [0x8c, 0xa1, 0x89, 0x0d, 0xbf, 0xe6, 0x42, 0x68, 0x41, 0x99, 0x2d, 0x0f, 0xb0, 0x54, 0xbb, 0x16]]

/-- The substitution of a byte. -/
def subByte (b : Byte) : Byte := BitVec.ofNat 8 ((sboxRows.getD (b.toNat / 16) []).getD (b.toNat % 16) 0)

/-- A byte times x in the field of AES. -/
def xtime (b : Byte) : Byte := (b <<< 1) ^^^ (if b.msb then 0x1B else 0)

/-- The rows of a block shifted. -/
def shiftRows (l : List Byte) : List Byte := (List.range 16).map fun i => l.getD ((i + 4 * (i % 4)) % 16) 0

/-- A column mixed. -/
def mixCol (a b c d : Byte) : List Byte :=
  let f (p q r t : Byte) : Byte := xtime p ^^^ (xtime q ^^^ q) ^^^ r ^^^ t
  [f a b c d, f b c d a, f c d a b, f d a b c]

/-- The columns of a block mixed. -/
def mixCols : List Byte → List Byte
  | a :: b :: c :: d :: l => mixCol a b c d ++ mixCols l
  | _ => []

/-- The words of the key schedule: `n` more after those there are, for a key of `nk` words. -/
def keyWords (nk : Nat) : Nat → List (List Byte) → List (List Byte)
  | 0, w => w
  | n + 1, w =>
    let i := w.length
    let t := w.getLastD []
    let t := if i % nk = 0 then xorBytes ((t.drop 1 ++ t.take 1).map subByte) [iter xtime (i / nk - 1) 1, 0, 0, 0]
      else if 6 < nk && i % nk = 4 then t.map subByte
      else t
    keyWords nk n (w ++ [xorBytes (w.getD (i - nk) []) t])

/-- The round keys of a key of 16 or 32 bytes. -/
def roundKeys (key : List Byte) : List (List Byte) :=
  let nk := key.length / 4
  let w := keyWords nk (4 * (nk + 7) - nk) (blocksOfBytes 4 nk key)
  blocksOfBytes 16 (nk + 7) w.flatten

/-- One block under AES, with the round keys. -/
def aesRounds : List (List Byte) → List Byte → List Byte
  | [], b => b
  | [k], b => xorBytes (shiftRows (b.map subByte)) k
  | k :: l, b => aesRounds l (xorBytes (mixCols (shiftRows (b.map subByte))) k)

/-- One block under AES. -/
def aes (key b : List Byte) : List Byte :=
  match roundKeys key with
  | k :: l => aesRounds l (xorBytes b k)
  | [] => b

/-- The inverse of the S-box. -/
def invRows : List (List Nat) :=
  [[0x52, 0x09, 0x6a, 0xd5, 0x30, 0x36, 0xa5, 0x38, 0xbf, 0x40, 0xa3, 0x9e, 0x81, 0xf3, 0xd7, 0xfb],
   [0x7c, 0xe3, 0x39, 0x82, 0x9b, 0x2f, 0xff, 0x87, 0x34, 0x8e, 0x43, 0x44, 0xc4, 0xde, 0xe9, 0xcb],
   [0x54, 0x7b, 0x94, 0x32, 0xa6, 0xc2, 0x23, 0x3d, 0xee, 0x4c, 0x95, 0x0b, 0x42, 0xfa, 0xc3, 0x4e],
   [0x08, 0x2e, 0xa1, 0x66, 0x28, 0xd9, 0x24, 0xb2, 0x76, 0x5b, 0xa2, 0x49, 0x6d, 0x8b, 0xd1, 0x25],
   [0x72, 0xf8, 0xf6, 0x64, 0x86, 0x68, 0x98, 0x16, 0xd4, 0xa4, 0x5c, 0xcc, 0x5d, 0x65, 0xb6, 0x92],
   [0x6c, 0x70, 0x48, 0x50, 0xfd, 0xed, 0xb9, 0xda, 0x5e, 0x15, 0x46, 0x57, 0xa7, 0x8d, 0x9d, 0x84],
   [0x90, 0xd8, 0xab, 0x00, 0x8c, 0xbc, 0xd3, 0x0a, 0xf7, 0xe4, 0x58, 0x05, 0xb8, 0xb3, 0x45, 0x06],
   [0xd0, 0x2c, 0x1e, 0x8f, 0xca, 0x3f, 0x0f, 0x02, 0xc1, 0xaf, 0xbd, 0x03, 0x01, 0x13, 0x8a, 0x6b]] ++
  [[0x3a, 0x91, 0x11, 0x41, 0x4f, 0x67, 0xdc, 0xea, 0x97, 0xf2, 0xcf, 0xce, 0xf0, 0xb4, 0xe6, 0x73],
   [0x96, 0xac, 0x74, 0x22, 0xe7, 0xad, 0x35, 0x85, 0xe2, 0xf9, 0x37, 0xe8, 0x1c, 0x75, 0xdf, 0x6e],
   [0x47, 0xf1, 0x1a, 0x71, 0x1d, 0x29, 0xc5, 0x89, 0x6f, 0xb7, 0x62, 0x0e, 0xaa, 0x18, 0xbe, 0x1b],
   [0xfc, 0x56, 0x3e, 0x4b, 0xc6, 0xd2, 0x79, 0x20, 0x9a, 0xdb, 0xc0, 0xfe, 0x78, 0xcd, 0x5a, 0xf4],
   [0x1f, 0xdd, 0xa8, 0x33, 0x88, 0x07, 0xc7, 0x31, 0xb1, 0x12, 0x10, 0x59, 0x27, 0x80, 0xec, 0x5f],
   [0x60, 0x51, 0x7f, 0xa9, 0x19, 0xb5, 0x4a, 0x0d, 0x2d, 0xe5, 0x7a, 0x9f, 0x93, 0xc9, 0x9c, 0xef],
   [0xa0, 0xe0, 0x3b, 0x4d, 0xae, 0x2a, 0xf5, 0xb0, 0xc8, 0xeb, 0xbb, 0x3c, 0x83, 0x53, 0x99, 0x61],
   [0x17, 0x2b, 0x04, 0x7e, 0xba, 0x77, 0xd6, 0x26, 0xe1, 0x69, 0x14, 0x63, 0x55, 0x21, 0x0c, 0x7d]]

/-- The substitution of a byte taken back. -/
def unsubByte (b : Byte) : Byte := BitVec.ofNat 8 ((invRows.getD (b.toNat / 16) []).getD (b.toNat % 16) 0)

/-- The rows of a block shifted back. -/
def unshiftRows (l : List Byte) : List Byte := (List.range 16).map fun i => l.getD ((i + 12 * (i % 4)) % 16) 0

/-- A byte times 2, 4 and 8. -/
def times (b : Byte) : Byte × Byte × Byte × Byte := let x := xtime b; let y := xtime x; (b, x, y, xtime y)

/-- The columns of a block unmixed. -/
def unmixCols : List Byte → List Byte
  | a :: b :: c :: d :: l =>
    let f (p q r t : Byte × Byte × Byte × Byte) : Byte :=
      p.2.1 ^^^ p.2.2.1 ^^^ p.2.2.2 ^^^ (q.1 ^^^ q.2.1 ^^^ q.2.2.2) ^^^ (r.1 ^^^ r.2.2.1 ^^^ r.2.2.2) ^^^ (t.1 ^^^ t.2.2.2)
    let (w, x, y, z) := (times a, times b, times c, times d)
    f w x y z :: f x y z w :: f y z w x :: f z w x y :: unmixCols l
  | _ => []

/-- One block deciphered, with the round keys from the last. -/
def unaesRounds : List (List Byte) → List Byte → List Byte
  | [], b => b
  | [k], b => xorBytes ((unshiftRows b).map unsubByte) k
  | k :: l, b => unaesRounds l (unmixCols (xorBytes ((unshiftRows b).map unsubByte) k))

/-- One block deciphered under AES with these round keys. -/
def unaes (ks : List (List Byte)) (b : List Byte) : List Byte :=
  match ks.reverse with
  | k :: l => unaesRounds l (xorBytes b k)
  | [] => b

/-- AES key wrap taken back: the value of whole blocks of 8 bytes, when its integrity check holds. -/
def keyUnwrap (key c : List Byte) : Option (List Byte) :=
  let ks := roundKeys key
  let n := c.length / 8 - 1
  let r := (List.range (6 * n)).reverse.foldl (fun (x : List Byte × List (List Byte)) t =>
    let b := unaes ks (xorBytes x.1 (be 8 (t + 1)) ++ x.2.getD (t % n) [])
    (b.take 8, x.2.set (t % n) (b.drop 8))) (c.take 8, blocksOfBytes 8 n (c.drop 8))
  if r.1 = List.replicate 8 0xA6 then some r.2.flatten else none

/-! ### Modes -/

/-- The CBC residue of whole blocks. -/
def cbcMac (key : List Byte) (l : List Byte) : List Byte :=
  (blocksOfBytes 16 (l.length / 16 + 1) l).foldl (fun c b => aes key (xorBytes c b)) (zeros 16)

/-- A block times x in the field of AES-CMAC. -/
def cmacDouble (b : List Byte) : List Byte :=
  let v := fromBe b
  be 16 (((v * 2) % 2 ^ 128) ^^^ (if v < 2 ^ 127 then 0 else 0x87))

/-- AES-CMAC. -/
def cmac (key msg : List Byte) : List Byte :=
  let k1 := cmacDouble (aes key (zeros 16))
  let n := if msg.isEmpty then 0 else (msg.length - 1) / 16
  let last := msg.drop (16 * n)
  let tail := if last.length = 16 then xorBytes last k1 else xorBytes (pad16 (last ++ [0x80])) (cmacDouble k1)
  cbcMac key (msg.take (16 * n) ++ tail)

/-- Block `i` of the key stream of CCM* under a 13-byte nonce. -/
def ccmStream (key nonce : List Byte) (i : Nat) : List Byte := aes key ([0x01] ++ nonce ++ be 2 i)

/-- The text of CCM*, enciphered or deciphered. -/
def ccmText (key nonce text : List Byte) : List Byte :=
  xorBytes text ((List.range (text.length / 16 + 1)).flatMap fun i => ccmStream key nonce (i + 1))

/-- The 8-byte MIC of CCM* with a 2-byte length field over additional data and the plain text (R419). -/
def ccmMic (key nonce aad text : List Byte) : List Byte :=
  let b0 := [if aad.isEmpty then 0x19 else 0x59] ++ nonce ++ be 2 text.length
  let a := if aad.isEmpty then [] else pad16 (be 2 aad.length ++ aad)
  (xorBytes (cbcMac key (b0 ++ a ++ pad16 text)) (ccmStream key nonce 0)).take 8

/-- The product of two blocks in the field of GHASH, as numbers whose first bit is bit 127. -/
def ghashMul (x y : Nat) : Nat :=
  ((List.range 128).foldl (fun (r : Nat × Nat) i =>
    (if bit x (127 - i) then r.1 ^^^ r.2 else r.1,
     if r.2 % 2 = 1 then (r.2 / 2) ^^^ (0xE1 * 2 ^ 120) else r.2 / 2)) (0, y)).1

/-- AES-GCM under a 12-byte nonce: the cipher text and the 16-byte tag over it and the additional data. -/
def gcm (key nonce aad text : List Byte) : List Byte :=
  let stream (i : Nat) : List Byte := aes key (nonce ++ be 4 i)
  let out := xorBytes text ((List.range (text.length / 16 + 1)).flatMap fun i => stream (i + 2))
  let all := pad16 aad ++ pad16 out ++ be 8 (8 * aad.length) ++ be 8 (8 * out.length)
  let h := fromBe (aes key (zeros 16))
  let y := (blocksOfBytes 16 (all.length / 16) all).foldl (fun y b => ghashMul (y ^^^ fromBe b) h) 0
  out ++ xorBytes (be 16 y) (stream 1)

/-- The counter-mode KDF of R885: the first `bits` bits of the blocks. -/
def kdf (key label ctx : List Byte) (bits : Nat) : List Byte :=
  ((List.range ((bits + 127) / 128)).flatMap fun i => cmac key (be 4 (i + 1) ++ label ++ [0x00] ++ ctx ++ be 4 bits)).take (bits / 8)

/-! ### SHA-256 and HMAC -/

/-- The constants of SHA-256. -/
def shaK : List Nat :=
  [0x428a2f98, 0x71374491, 0xb5c0fbcf, 0xe9b5dba5, 0x3956c25b, 0x59f111f1, 0x923f82a4, 0xab1c5ed5, 0xd807aa98, 0x12835b01, 0x243185be, 0x550c7dc3, 0x72be5d74, 0x80deb1fe, 0x9bdc06a7, 0xc19bf174] ++
  [0xe49b69c1, 0xefbe4786, 0x0fc19dc6, 0x240ca1cc, 0x2de92c6f, 0x4a7484aa, 0x5cb0a9dc, 0x76f988da, 0x983e5152, 0xa831c66d, 0xb00327c8, 0xbf597fc7, 0xc6e00bf3, 0xd5a79147, 0x06ca6351, 0x14292967] ++
  [0x27b70a85, 0x2e1b2138, 0x4d2c6dfc, 0x53380d13, 0x650a7354, 0x766a0abb, 0x81c2c92e, 0x92722c85, 0xa2bfe8a1, 0xa81a664b, 0xc24b8b70, 0xc76c51a3, 0xd192e819, 0xd6990624, 0xf40e3585, 0x106aa070] ++
  [0x19a4c116, 0x1e376c08, 0x2748774c, 0x34b0bcb5, 0x391c0cb3, 0x4ed8aa4a, 0x5b9cca4f, 0x682e6ff3, 0x748f82ee, 0x78a5636f, 0x84c87814, 0x8cc70208, 0x90befffa, 0xa4506ceb, 0xbef9a3f7, 0xc67178f2]

/-- The initial value of SHA-256. -/
def shaInit : List (BitVec 32) := [0x6a09e667, 0xbb67ae85, 0x3c6ef372, 0xa54ff53a, 0x510e527f, 0x9b05688c, 0x1f83d9ab, 0x5be0cd19]

/-- The message schedule: `n` words more. -/
def shaWords : Nat → List (BitVec 32) → List (BitVec 32)
  | 0, w => w
  | n + 1, w =>
    let i := w.length
    let a := w.getD (i - 15) 0
    let b := w.getD (i - 2) 0
    let s0 := a.rotateRight 7 ^^^ a.rotateRight 18 ^^^ (a >>> 3)
    let s1 := b.rotateRight 17 ^^^ b.rotateRight 19 ^^^ (b >>> 10)
    shaWords n (w ++ [w.getD (i - 16) 0 + s0 + w.getD (i - 7) 0 + s1])

/-- One round. -/
def shaRound (h : List (BitVec 32)) (p : BitVec 32 × Nat) : List (BitVec 32) :=
  match h with
  | [a, b, c, d, e, f, g, x] =>
    let s1 := e.rotateRight 6 ^^^ e.rotateRight 11 ^^^ e.rotateRight 25
    let t1 := x + s1 + ((e &&& f) ^^^ (~~~e &&& g)) + BitVec.ofNat 32 p.2 + p.1
    let s0 := a.rotateRight 2 ^^^ a.rotateRight 13 ^^^ a.rotateRight 22
    [t1 + (s0 + ((a &&& b) ^^^ (a &&& c) ^^^ (b &&& c))), a, b, c, d + t1, e, f, g]
  | _ => h

/-- One block. -/
def shaBlock (h : List (BitVec 32)) (b : List Byte) : List (BitVec 32) :=
  let w := shaWords 48 ((blocksOfBytes 4 16 b).map fun q => BitVec.ofNat 32 (fromBe q))
  List.zipWith (· + ·) h ((w.zip shaK).foldl shaRound h)

/-- SHA-256. -/
def sha256 (m : List Byte) : List Byte :=
  let p := m ++ [0x80] ++ zeros ((119 - m.length % 64) % 64) ++ be 8 (8 * m.length)
  ((blocksOfBytes 64 (p.length / 64) p).foldl shaBlock shaInit).flatMap fun v => be 4 v.toNat

/-- HMAC-SHA-256. -/
def hmac (key m : List Byte) : List Byte :=
  let k := if 64 < key.length then sha256 key else key
  let k := k ++ zeros (64 - k.length)
  sha256 (k.map (· ^^^ 0x5C) ++ sha256 (k.map (· ^^^ 0x36) ++ m))

end Sys2Proof.Machine
end

