-- ==== Sys2Proof/Machine/RegMap.lean ====
section
/-! DEFINITION. The register map of BAR0: one `Fld` for each field of each register table of spec/ (its byte offset in
BAR0, its lowest bit and its width), and for each block the rows that say how the bus reaches those fields (Table HOST-3:
access type, what a warm restart keeps, whether the field is a summary source of R209, its reset value). The block bases
are Table HOST-2's. A register of the PRA and PRB blocks takes the half (0 = A, 1 = B) as its first argument, and a
register that exists many times its index. -/
namespace Sys2Proof.Machine.Reg

def SUP_ID_TYPE : Fld := ⟨0x000000, 16, 16⟩
def SUP_ID_HWREV : Fld := ⟨0x000000, 12, 4⟩
def SUP_ID_REGION : Fld := ⟨0x000000, 10, 2⟩
def SUP_ID_SUITE_P : Fld := ⟨0x000000, 9, 1⟩
def SUP_ID_ARCH : Fld := ⟨0x000000, 8, 1⟩
def SUP_ID_GRADE : Fld := ⟨0x000000, 4, 4⟩
def SUP_DOMSTAT_OCXO_LOST : Fld := ⟨0x000040, 14, 1⟩
def SUP_DOMSTAT_MFE : Fld := ⟨0x000040, 12, 2⟩
def SUP_DOMSTAT_NET : Fld := ⟨0x000040, 10, 2⟩
def SUP_DOMSTAT_RADIO : Fld := ⟨0x000040, 8, 2⟩
def SUP_DOMSTAT_HALFB : Fld := ⟨0x000040, 6, 2⟩
def SUP_DOMSTAT_HALFA : Fld := ⟨0x000040, 4, 2⟩
def SUP_DOMSTAT_APP : Fld := ⟨0x000040, 2, 2⟩
def SUP_DOMSTAT_AON : Fld := ⟨0x000040, 0, 2⟩
def KNL_NOTICE_NOTICE (n : Nat) : Fld := ⟨0x120000 + 4 * n, 0, 32⟩
def KNL_CFG_FULLPOL (n : Nat) : Fld := ⟨0x121000 + 16 * n, 31, 1⟩
def KNL_CFG_PROD (n : Nat) : Fld := ⟨0x121000 + 16 * n, 24, 3⟩
def KNL_CFG_CONS (n : Nat) : Fld := ⟨0x121000 + 16 * n, 21, 3⟩
def KNL_CFG_DEPTH (n : Nat) : Fld := ⟨0x121000 + 16 * n, 0, 14⟩
def KNL_STAT_DROPCNT (n : Nat) : Fld := ⟨0x121004 + 16 * n, 16, 16⟩
def KNL_STAT_PKTCNT (n : Nat) : Fld := ⟨0x121004 + 16 * n, 0, 14⟩
def KNL_RSTCNT_RSTCNT (n : Nat) : Fld := ⟨0x121008 + 16 * n, 0, 16⟩
def KNL_ABNCNT_ABNCNT (n : Nat) : Fld := ⟨0x12100C + 16 * n, 0, 16⟩
def ARB_CTL_NTH : Fld := ⟨0x110000, 0, 7⟩
def ARB_WGT_W (n : Nat) : Fld := ⟨0x110010 + 4 * n, 0, 11⟩
def ARB_CRD_CRD (n : Nat) : Fld := ⟨0x110030 + 4 * n, 0, 12⟩
def ARB_MAXW_MAXW (n : Nat) : Fld := ⟨0x110050 + 4 * n, 0, 16⟩
def ARB_EMPTY_EMPTY (n : Nat) : Fld := ⟨0x110070 + 4 * n, 0, 16⟩
def SUP_SPMGN_EXH_HI (n : Nat) : Fld := ⟨0x000060 + 4 * n, 31, 1⟩
def SUP_SPMGN_MGN_HI (n : Nat) : Fld := ⟨0x000060 + 4 * n, 16, 15⟩
def SUP_SPMGN_EXH_LO (n : Nat) : Fld := ⟨0x000060 + 4 * n, 15, 1⟩
def SUP_SPMGN_MGN_LO (n : Nat) : Fld := ⟨0x000060 + 4 * n, 0, 15⟩
def PWR_CFG_WARN : Fld := ⟨0x010000, 0, 10⟩
def PWR_HOLD_VSET : Fld := ⟨0x010004, 30, 2⟩
def PWR_HOLD_VQ : Fld := ⟨0x010004, 20, 10⟩
def PWR_HOLD_CAP : Fld := ⟨0x010004, 0, 20⟩
def PWR_STAT_THROTTLE : Fld := ⟨0x010010, 6, 1⟩
def PWR_STAT_HOLD_OK : Fld := ⟨0x010010, 5, 1⟩
def PWR_STAT_HOLD_SMALL : Fld := ⟨0x010010, 4, 1⟩
def PWR_STAT_QUIESCE : Fld := ⟨0x010010, 3, 1⟩
def PWR_STAT_WARN : Fld := ⟨0x010010, 2, 1⟩
def PWR_STAT_VINB_OK : Fld := ⟨0x010010, 1, 1⟩
def PWR_STAT_VINA_OK : Fld := ⟨0x010010, 0, 1⟩
def PWR_MON_TEMP : Fld := ⟨0x010014, 20, 8⟩
def PWR_MON_VHOLD : Fld := ⟨0x010014, 10, 10⟩
def PWR_MON_VIN : Fld := ⟨0x010014, 0, 10⟩
def OUT_STAT_HOLDCAUSE : Fld := ⟨0x0B0000, 8, 3⟩
def OUT_STAT_HOLD : Fld := ⟨0x0B0000, 7, 1⟩
def OUT_STAT_LEASHB : Fld := ⟨0x0B0000, 6, 1⟩
def OUT_STAT_LEASHA : Fld := ⟨0x0B0000, 5, 1⟩
def OUT_STAT_PARTNER : Fld := ⟨0x0B0000, 4, 1⟩
def OUT_STAT_LEADER : Fld := ⟨0x0B0000, 3, 1⟩
def OUT_STAT_HEALTHY : Fld := ⟨0x0B0000, 2, 1⟩
def OUT_STAT_OUTEN : Fld := ⟨0x0B0000, 1, 1⟩
def OUT_CMDLVL_LVL (n : Nat) : Fld := ⟨0x0B0010 + 4 * n, 0, 32⟩
def OUT_RBLVL_LVL (n : Nat) : Fld := ⟨0x0B0018 + 4 * n, 0, 32⟩
def OUT_RBMIS_MIS (n : Nat) : Fld := ⟨0x0B0020 + 4 * n, 0, 32⟩
def OUT_BICFG_INV (n : Nat) : Fld := ⟨0x0B0100 + 4 * n, 8, 1⟩
def OUT_BICFG_DBNC (n : Nat) : Fld := ⟨0x0B0100 + 4 * n, 0, 8⟩
def OUT_BILVL_LVL (n : Nat) : Fld := ⟨0x0B0200 + 4 * n, 0, 32⟩
def OUT_LPCFG_EN (n : Nat) : Fld := ⟨0x0B0300 + 16 * n, 31, 1⟩
def OUT_LPCFG_MODE (n : Nat) : Fld := ⟨0x0B0300 + 16 * n, 30, 1⟩
def OUT_LPCFG_SRC (n : Nat) : Fld := ⟨0x0B0300 + 16 * n, 28, 2⟩
def OUT_LPCFG_HOLDT (n : Nat) : Fld := ⟨0x0B0300 + 16 * n, 16, 8⟩
def OUT_LPCFG_FAILV (n : Nat) : Fld := ⟨0x0B0300 + 16 * n, 15, 1⟩
def OUT_LPSET_SET (n : Nat) : Fld := ⟨0x0B0304 + 16 * n, 0, 15⟩
def OUT_LPSTAT_OPEN (n : Nat) : Fld := ⟨0x0B0308 + 16 * n, 3, 1⟩
def OUT_LPSTAT_HOLDING (n : Nat) : Fld := ⟨0x0B0308 + 16 * n, 2, 1⟩
def OUT_LPSTAT_SHORT (n : Nat) : Fld := ⟨0x0B0308 + 16 * n, 1, 1⟩
def OUT_LPSTAT_COMPLIANCE (n : Nat) : Fld := ⟨0x0B0308 + 16 * n, 0, 1⟩
def OUT_LPRB_RB (n : Nat) : Fld := ⟨0x0B030C + 16 * n, 0, 12⟩
def OUT_MCLK_FALLBK : Fld := ⟨0x0B0400, 31, 1⟩
def OUT_MCLK_SPT : Fld := ⟨0x0B0400, 16, 8⟩
def OUT_MCLK_FREQ : Fld := ⟨0x0B0400, 0, 12⟩
def SUP_RSTCAUSE_DWDOG : Fld := ⟨0x000080, 9, 6⟩
def SUP_RSTCAUSE_APPLYRST : Fld := ⟨0x000080, 8, 1⟩
def SUP_RSTCAUSE_RECOVERY : Fld := ⟨0x000080, 7, 1⟩
def SUP_RSTCAUSE_BOOTFAIL : Fld := ⟨0x000080, 6, 1⟩
def SUP_RSTCAUSE_HOSTCMD : Fld := ⟨0x000080, 5, 1⟩
def SUP_RSTCAUSE_OCXO : Fld := ⟨0x000080, 4, 1⟩
def SUP_RSTCAUSE_THERMAL : Fld := ⟨0x000080, 3, 1⟩
def SUP_RSTCAUSE_QUIESCE : Fld := ⟨0x000080, 2, 1⟩
def SUP_RSTCAUSE_BROWNOUT : Fld := ⟨0x000080, 1, 1⟩
def SUP_RSTCAUSE_COLD : Fld := ⟨0x000080, 0, 1⟩
def SUP_MILE_MS (n : Nat) : Fld := ⟨0x0000A0 + 4 * n, 0, 32⟩
def SUP_BOOT_DEV : Fld := ⟨0x000084, 30, 2⟩
def SUP_BOOT_FAILA : Fld := ⟨0x000084, 28, 2⟩
def SUP_BOOT_FAILB : Fld := ⟨0x000084, 26, 2⟩
def SUP_BOOT_BURLTRY : Fld := ⟨0x000084, 24, 2⟩
def SUP_BOOT_STAGE : Fld := ⟨0x000084, 20, 4⟩
def SUP_BOOT_ATTEMPT : Fld := ⟨0x000084, 0, 8⟩
def SUP_FEPOCH_PEND : Fld := ⟨0x000090, 16, 1⟩
def SUP_FEPOCH_FEPOCH : Fld := ⟨0x000090, 0, 16⟩
def SUP_CFGACT_SEQ : Fld := ⟨0x000088, 0, 32⟩
def SUP_CFGSTAT_STATE : Fld := ⟨0x00008C, 29, 3⟩
def SUP_CFGSTAT_DEFAULTS : Fld := ⟨0x00008C, 28, 1⟩
def SUP_CFGSTAT_DEF : Fld := ⟨0x00008C, 1, 15⟩
def SUP_SUMMARY_BLK : Fld := ⟨0x000010, 0, 21⟩
def SUP_SEQ_SEQ : Fld := ⟨0x000014, 0, 32⟩
def SUP_HEARTBEAT_HB : Fld := ⟨0x000018, 0, 32⟩
def MBX_OWNER_PATH : Fld := ⟨0x140040, 0, 3⟩
def MBX_ERR_NOTOWN : Fld := ⟨0x140044, 2, 1⟩
def MBX_ERR_CIBAD : Fld := ⟨0x140044, 1, 1⟩
def MBX_ERR_DBBAD : Fld := ⟨0x140044, 0, 1⟩
def MBX_DROP_EV : Fld := ⟨0x140048, 16, 16⟩
def MBX_DROP_RPT : Fld := ⟨0x140048, 0, 16⟩
def HBR_WIN_MAP_SIZE (n : Nat) : Fld := ⟨0x130000 + 8 * n, 28, 4⟩
def HBR_WIN_MAP_BASE (n : Nat) : Fld := ⟨0x130000 + 8 * n, 0, 23⟩
def HBR_WIN_POL_EN (n : Nat) : Fld := ⟨0x130004 + 8 * n, 31, 1⟩
def HBR_WIN_POL_RD (n : Nat) : Fld := ⟨0x130004 + 8 * n, 30, 1⟩
def HBR_WIN_POL_WR (n : Nat) : Fld := ⟨0x130004 + 8 * n, 29, 1⟩
def HBR_WIN_POL_LOCK (n : Nat) : Fld := ⟨0x130004 + 8 * n, 28, 1⟩
def HBR_WIN_POL_LANE (n : Nat) : Fld := ⟨0x130004 + 8 * n, 26, 2⟩
def HBR_WIN_POL_PATH (n : Nat) : Fld := ⟨0x130004 + 8 * n, 0, 5⟩
def HBR_BLKPOL_WE (n : Nat) : Fld := ⟨0x130040 + 4 * n, 0, 21⟩
def HBR_TUN_EN (n : Nat) : Fld := ⟨0x130060 + 4 * n, 31, 1⟩
def HBR_TUN_KSLOT (n : Nat) : Fld := ⟨0x130060 + 4 * n, 0, 8⟩
def HBR_LKADDR_WIN : Fld := ⟨0x130080, 29, 3⟩
def HBR_LKADDR_LINE : Fld := ⟨0x130080, 6, 19⟩
def HBR_LKCTL_STATE : Fld := ⟨0x130084, 2, 2⟩
def HBR_LKCTL_REL : Fld := ⟨0x130084, 1, 1⟩
def HBR_LKCTL_ACQ : Fld := ⟨0x130084, 0, 1⟩
def HBR_CNT0_RDTO : Fld := ⟨0x130090, 16, 16⟩
def HBR_CNT0_ORPHAN : Fld := ⟨0x130090, 0, 16⟩
def HBR_CNT1_FALLBK : Fld := ⟨0x130094, 16, 16⟩
def HBR_CNT1_SIZE : Fld := ⟨0x130094, 0, 16⟩
def HBR_CNT2_LOCKAB : Fld := ⟨0x130098, 24, 8⟩
def HBR_CNT2_EPAB : Fld := ⟨0x130098, 16, 8⟩
def HBR_CNT2_BOUNDS : Fld := ⟨0x130098, 8, 8⟩
def HBR_CNT2_DENY : Fld := ⟨0x130098, 0, 8⟩
def HBR_CNT3_TUNMAC : Fld := ⟨0x13009C, 16, 16⟩
def HBR_CNT3_TUNOTHER : Fld := ⟨0x13009C, 0, 16⟩
def TB_NOW_LO_NS_LO : Fld := ⟨0x020000, 0, 32⟩
def TB_NOW_HI_NS_HI : Fld := ⟨0x020004, 0, 32⟩
def TB_NOW_FR_FRAC : Fld := ⟨0x020008, 0, 32⟩
def TB_INC_FR_FR : Fld := ⟨0x020010, 0, 32⟩
def TB_INC_NS_NS : Fld := ⟨0x020014, 0, 8⟩
def TB_CMP_TLO_TGT_LO (n : Nat) : Fld := ⟨0x020100 + 16 * n, 0, 32⟩
def TB_CMP_THI_TGT_HI (n : Nat) : Fld := ⟨0x020104 + 16 * n, 0, 16⟩
def TB_CMP_CTL_FIRED (n : Nat) : Fld := ⟨0x020108 + 16 * n, 1, 1⟩
def TB_CMP_CTL_ARM (n : Nat) : Fld := ⟨0x020108 + 16 * n, 0, 1⟩
def TB_PPSCFG_OUTEN : Fld := ⟨0x020040, 31, 1⟩
def TB_PPSCFG_OUTQ : Fld := ⟨0x020040, 30, 1⟩
def TB_PPSCFG_INDLY : Fld := ⟨0x020040, 0, 16⟩
def TB_PPSIN_LO_NS_LO : Fld := ⟨0x020044, 0, 32⟩
def TB_PPSIN_HI_NS_HI : Fld := ⟨0x020048, 0, 32⟩
def TB_CFG_SRC : Fld := ⟨0x020020, 30, 2⟩
def TB_CFG_SLEWPPM : Fld := ⟨0x020020, 16, 10⟩
def TB_CFG_HOLDLIM : Fld := ⟨0x020020, 0, 16⟩
def TB_ADJ_ADJ : Fld := ⟨0x020018, 0, 32⟩
def TB_ADJREM_REM : Fld := ⟨0x02001C, 0, 32⟩
def TB_QUAL_UTCOFF : Fld := ⟨0x020024, 16, 16⟩
def TB_QUAL_LEAP : Fld := ⟨0x020024, 10, 2⟩
def TB_QUAL_SERVO : Fld := ⟨0x020024, 8, 2⟩
def TB_QUAL_QUAL : Fld := ⟨0x020024, 0, 3⟩
def TB_STAT_CMPLOST : Fld := ⟨0x020030, 5, 1⟩
def TB_STAT_TZWARN : Fld := ⟨0x020030, 4, 1⟩
def TB_STAT_PPSBAD : Fld := ⟨0x020030, 3, 1⟩
def TB_STAT_STEP : Fld := ⟨0x020030, 2, 1⟩
def TB_STAT_QCHG : Fld := ⟨0x020030, 1, 1⟩
def RTC_TICK_LO_TICK_LO : Fld := ⟨0x030000, 0, 32⟩
def RTC_TICK_HI_TICK_HI : Fld := ⟨0x030004, 0, 16⟩
def RTC_LOAD_LO_LOAD_LO : Fld := ⟨0x030008, 0, 32⟩
def RTC_LOAD_HI_LOAD_HI : Fld := ⟨0x03000C, 0, 16⟩
def RTC_CTL_ARM : Fld := ⟨0x030010, 5, 1⟩
def RTC_CTL_RELSRC : Fld := ⟨0x030010, 3, 2⟩
def RTC_CTL_RELCMP : Fld := ⟨0x030010, 1, 2⟩
def RTC_CTL_HALT : Fld := ⟨0x030010, 0, 1⟩
def RTC_STAT_VBAKLOW : Fld := ⟨0x030014, 2, 1⟩
def RTC_STAT_HALTED : Fld := ⟨0x030014, 1, 1⟩
def RTC_STAT_OSF : Fld := ⟨0x030014, 0, 1⟩
def RTC_TCH_EN : Fld := ⟨0x030018, 7, 1⟩
def RTC_TCH_RSEL : Fld := ⟨0x030018, 5, 2⟩
def RTC_TCH_DSEL : Fld := ⟨0x030018, 3, 2⟩
def RTC_TCH_VMAX : Fld := ⟨0x030018, 1, 2⟩
def RTC_OPSEC_OPSEC : Fld := ⟨0x030020, 0, 32⟩
def RTC_PCYC_PCYC : Fld := ⟨0x030024, 0, 24⟩
def RAD_STAT_GRIDBAD : Fld := ⟨0x040000, 7, 1⟩
def RAD_STAT_THROT : Fld := ⟨0x040000, 6, 1⟩
def RAD_STAT_SETTLE : Fld := ⟨0x040000, 5, 1⟩
def RAD_STAT_CAL : Fld := ⟨0x040000, 4, 1⟩
def RAD_STAT_DRAIN : Fld := ⟨0x040000, 3, 1⟩
def RAD_STAT_CH1OK : Fld := ⟨0x040000, 2, 1⟩
def RAD_STAT_CH0OK : Fld := ⟨0x040000, 1, 1⟩
def RAD_STAT_TXON : Fld := ⟨0x040000, 0, 1⟩
def RAD_EVT_BUDLOW : Fld := ⟨0x040004, 3, 1⟩
def RAD_EVT_LOUNLK : Fld := ⟨0x040004, 2, 1⟩
def RAD_EVT_CHAINFAIL : Fld := ⟨0x040004, 1, 1⟩
def RAD_EVT_CALFAIL : Fld := ⟨0x040004, 0, 1⟩
def RAD_TXLIM_RSVACK : Fld := ⟨0x040010, 28, 4⟩
def RAD_TXLIM_TRAINMAX : Fld := ⟨0x040010, 22, 6⟩
def RAD_TXLIM_CCAP : Fld := ⟨0x040010, 9, 9⟩
def RAD_TXLIM_PCAR : Fld := ⟨0x040010, 0, 9⟩
def RAD_TXCAP_ONAIR : Fld := ⟨0x040014, 8, 6⟩
def RAD_TXCAP_MAXCAR : Fld := ⟨0x040014, 0, 6⟩
def RAD_CAL_CALPER : Fld := ⟨0x040020, 16, 10⟩
def RAD_CAL_LASTDRN : Fld := ⟨0x040020, 0, 16⟩
def RAD_CNT0_LATE : Fld := ⟨0x040030, 16, 16⟩
def RAD_CNT0_BUDREF : Fld := ⟨0x040030, 0, 16⟩
def RAD_CNT1_LBTBUSY : Fld := ⟨0x040034, 16, 16⟩
def RAD_CNT1_AFA : Fld := ⟨0x040034, 0, 16⟩
def RAD_BUD_EN (n : Nat) : Fld := ⟨0x040040 + 4 * n, 31, 1⟩
def RAD_BUD_REM (n : Nat) : Fld := ⟨0x040040 + 4 * n, 0, 21⟩
def PACK_CL_SPLEFT (n : Nat) : Fld := ⟨0x050000 + 4 * n, 30, 2⟩
def PACK_CL_CCMFAIL (n : Nat) : Fld := ⟨0x050000 + 4 * n, 29, 1⟩
def PACK_CL_CCMSHR (n : Nat) : Fld := ⟨0x050000 + 4 * n, 28, 1⟩
def PACK_CL_S1V (n : Nat) : Fld := ⟨0x050000 + 4 * n, 13, 1⟩
def PACK_CL_S1SLOT (n : Nat) : Fld := ⟨0x050000 + 4 * n, 8, 5⟩
def PACK_CL_S0V (n : Nat) : Fld := ⟨0x050000 + 4 * n, 5, 1⟩
def PACK_CL_S0SLOT (n : Nat) : Fld := ⟨0x050000 + 4 * n, 0, 5⟩
def PACK_DARK_DARK (n : Nat) : Fld := ⟨0x050100 + 4 * n, 0, 32⟩
def PACK_AIR0_FCSERR : Fld := ⟨0x050200, 16, 16⟩
def PACK_AIR0_HDRERR : Fld := ⟨0x050200, 0, 16⟩
def PACK_AIR1_VERERR : Fld := ⟨0x050204, 16, 16⟩
def PACK_AIR1_UNROST : Fld := ⟨0x050204, 0, 16⟩
def PACK_AIR2_MICERR : Fld := ⟨0x050208, 16, 16⟩
def PACK_AIR2_REPLAY : Fld := ⟨0x050208, 0, 16⟩
def PACK_AIR3_DUP : Fld := ⟨0x05020C, 16, 16⟩
def PACK_AIR3_NOACK : Fld := ⟨0x05020C, 0, 16⟩
def PACK_AIR4_SYNCLOST : Fld := ⟨0x050210, 16, 16⟩
def PACK_AIR4_TRAINS : Fld := ⟨0x050210, 0, 16⟩
def LNT_STAT_GEN : Fld := ⟨0x060000, 16, 16⟩
def LNT_NODES_COUNT : Fld := ⟨0x060004, 0, 18⟩
def LNT_QUEUE_OVF : Fld := ⟨0x060008, 0, 21⟩
def LNT_EVT_REPOVF : Fld := ⟨0x060010, 2, 1⟩
def LNT_EVT_RTERR : Fld := ⟨0x060010, 1, 1⟩
def LNT_EVT_UNREACH : Fld := ⟨0x060010, 0, 1⟩
def LNT_CNT0_DLOK : Fld := ⟨0x060020, 16, 16⟩
def LNT_CNT0_DLFAIL : Fld := ⟨0x060020, 0, 16⟩
def LNT_CNT1_HOWLS : Fld := ⟨0x060024, 16, 16⟩
def LNT_CNT1_HCOPY : Fld := ⟨0x060024, 0, 16⟩
def LNT_CNT2_UNKN : Fld := ⟨0x060028, 16, 16⟩
def LNT_CNT2_EPDROP : Fld := ⟨0x060028, 0, 16⟩
def LNT_FDRST_ST (n : Nat) : Fld := ⟨0x060400 + 4 * n, 0, 32⟩
def LNT_LUXEVT_FALLBK : Fld := ⟨0x060410, 2, 1⟩
def LNT_LUXEVT_SUPLOST : Fld := ⟨0x060410, 1, 1⟩
def LNT_LUXEVT_FLTNEW : Fld := ⟨0x060410, 0, 1⟩
def LNT_LUXCNT0_WAVES : Fld := ⟨0x060420, 16, 16⟩
def LNT_LUXCNT0_WAVEFR : Fld := ⟨0x060420, 0, 16⟩
def LNT_LUXCNT1_SUPPR : Fld := ⟨0x060424, 16, 16⟩
def LNT_LUXCNT1_RELFB : Fld := ⟨0x060424, 0, 16⟩
def LNT_LUXACT_OVR : Fld := ⟨0x060428, 18, 9⟩
def LNT_LUXACT_FAULTY : Fld := ⟨0x060428, 0, 18⟩
def FWD_PORTCFG_EN (n : Nat) : Fld := ⟨0x070000 + 4 * n, 31, 1⟩
def FWD_PORTCFG_SPEED (n : Nat) : Fld := ⟨0x070000 + 4 * n, 30, 1⟩
def FWD_PORTCFG_LEARN (n : Nat) : Fld := ⟨0x070000 + 4 * n, 29, 1⟩
def FWD_PORTCFG_DEFPRI (n : Nat) : Fld := ⟨0x070000 + 4 * n, 15, 3⟩
def FWD_PORTCFG_PVID (n : Nat) : Fld := ⟨0x070000 + 4 * n, 0, 12⟩
def FWD_PORTSTAT_TXFAULT (n : Nat) : Fld := ⟨0x070020 + 4 * n, 4, 1⟩
def FWD_PORTSTAT_RXLOS (n : Nat) : Fld := ⟨0x070020 + 4 * n, 3, 1⟩
def FWD_PORTSTAT_MODABS (n : Nat) : Fld := ⟨0x070020 + 4 * n, 2, 1⟩
def FWD_PORTSTAT_PCSOK (n : Nat) : Fld := ⟨0x070020 + 4 * n, 1, 1⟩
def FWD_PORTSTAT_LINK (n : Nat) : Fld := ⟨0x070020 + 4 * n, 0, 1⟩
def FWD_RBOX_MODE (n : Nat) : Fld := ⟨0x070040 + 4 * n, 30, 2⟩
def FWD_RBOX_DDLIFE (n : Nat) : Fld := ⟨0x070040 + 4 * n, 0, 10⟩
def FWD_OCC0_MAC : Fld := ⟨0x070050, 15, 17⟩
def FWD_OCC0_MC : Fld := ⟨0x070050, 0, 13⟩
def FWD_OCC1_LENS : Fld := ⟨0x070054, 26, 6⟩
def FWD_OCC1_PFX : Fld := ⟨0x070054, 0, 15⟩
def FWD_EVT_GOLOST : Fld := ⟨0x070060, 4, 1⟩
def FWD_EVT_SVLOST : Fld := ⟨0x070060, 3, 1⟩
def FWD_EVT_DDOVF : Fld := ⟨0x070060, 2, 1⟩
def FWD_EVT_PARERR : Fld := ⟨0x070060, 1, 1⟩
def FWD_EVT_LINKCHG : Fld := ⟨0x070060, 0, 1⟩
def FWD_PARCNT_SUB : Fld := ⟨0x070064, 24, 8⟩
def FWD_PARCNT_DUPT : Fld := ⟨0x070064, 16, 8⟩
def FWD_PARCNT_PFX : Fld := ⟨0x070064, 8, 8⟩
def FWD_PARCNT_MACT : Fld := ⟨0x070064, 0, 8⟩
def FWD_AGE_AGE : Fld := ⟨0x070068, 0, 20⟩
def FWD_CNT0_VLANDROP : Fld := ⟨0x070070, 16, 16⟩
def FWD_CNT0_LEARNFULL : Fld := ⟨0x070070, 0, 16⟩
def FWD_CNT1_DDOVF : Fld := ⟨0x070074, 24, 8⟩
def FWD_CNT1_STATVIOL : Fld := ⟨0x070074, 16, 8⟩
def FWD_CNT1_MOVES : Fld := ⟨0x070074, 0, 16⟩
def FWD_SVACT_ACT (n : Nat) : Fld := ⟨0x070080 + 4 * n, 0, 32⟩
def FWD_GOACT_ACT (n : Nat) : Fld := ⟨0x070090 + 4 * n, 0, 32⟩
def OUT_BKCFG_EN (n : Nat) : Fld := ⟨0x0B0700 + 8 * n, 31, 1⟩
def OUT_BKCFG_MODE (n : Nat) : Fld := ⟨0x0B0700 + 8 * n, 30, 1⟩
def OUT_BKCFG_COUNT (n : Nat) : Fld := ⟨0x0B0700 + 8 * n, 27, 3⟩
def OUT_BKCFG_CHMASK (n : Nat) : Fld := ⟨0x0B0700 + 8 * n, 24, 3⟩
def OUT_BKCFG_THR (n : Nat) : Fld := ⟨0x0B0700 + 8 * n, 14, 10⟩
def OUT_BKTIM_DLY (n : Nat) : Fld := ⟨0x0B0704 + 8 * n, 16, 9⟩
def OUT_BKTIM_BKHOLD (n : Nat) : Fld := ⟨0x0B0704 + 8 * n, 0, 8⟩
def OUT_BKSTAT_TRIPPED : Fld := ⟨0x0B0740, 16, 8⟩
def OUT_BKSTAT_REQ : Fld := ⟨0x0B0740, 8, 8⟩
def OUT_BKSTAT_PICKUP : Fld := ⟨0x0B0740, 0, 8⟩
def OUT_WEAR_OPS (n : Nat) : Fld := ⟨0x0B0500 + 4 * n, 0, 32⟩
def OUT_RATED_RATED (n : Nat) : Fld := ⟨0x0B0600 + 4 * n, 0, 32⟩
def PR_STAT_RATE (h : Nat) : Fld := ⟨0x080000 + 0x10000 * h, 2, 2⟩
def PR_STAT_LEAD (h : Nat) : Fld := ⟨0x080000 + 0x10000 * h, 1, 1⟩
def PR_STAT_INSERV (h : Nat) : Fld := ⟨0x080000 + 0x10000 * h, 0, 1⟩
def PR_PASS_MAXPASS (h : Nat) : Fld := ⟨0x080004 + 0x10000 * h, 16, 16⟩
def PR_PASS_LASTK (h : Nat) : Fld := ⟨0x080004 + 0x10000 * h, 0, 16⟩
def PR_CNT0_SYNTH (h : Nat) : Fld := ⟨0x080010 + 0x10000 * h, 16, 16⟩
def PR_CNT0_EXPIRED (h : Nat) : Fld := ⟨0x080010 + 0x10000 * h, 8, 8⟩
def PR_CNT0_OVERRUN (h : Nat) : Fld := ⟨0x080010 + 0x10000 * h, 0, 8⟩
def PR_CNT1_REEVAL (h : Nat) : Fld := ⟨0x080014 + 0x10000 * h, 16, 16⟩
def PR_CNT1_REDROP (h : Nat) : Fld := ⟨0x080014 + 0x10000 * h, 8, 8⟩
def PR_CNT1_LATE (h : Nat) : Fld := ⟨0x080014 + 0x10000 * h, 0, 8⟩
def PR_EVT_FLOCDONE (h : Nat) : Fld := ⟨0x080020 + 0x10000 * h, 2, 1⟩
def PR_EVT_BLOCKED (h : Nat) : Fld := ⟨0x080020 + 0x10000 * h, 1, 1⟩
def PR_EVT_OVERRUN (h : Nat) : Fld := ⟨0x080020 + 0x10000 * h, 0, 1⟩
def PR_OUTV_V (h : Nat) : Fld := ⟨0x080100 + 0x10000 * h, 0, 32⟩
def PR_OUTP_P (h : Nat) : Fld := ⟨0x080104 + 0x10000 * h, 0, 32⟩
def PR_INST_EN (h : Nat) (n : Nat) : Fld := ⟨0x081000 + 0x10000 * h + 4 * n, 31, 1⟩
def PR_INST_BLK (h : Nat) (n : Nat) : Fld := ⟨0x081000 + 0x10000 * h + 4 * n, 29, 2⟩
def PR_INST_Q (h : Nat) (n : Nat) : Fld := ⟨0x081000 + 0x10000 * h + 4 * n, 28, 1⟩
def PR_INST_RUN (h : Nat) (n : Nat) : Fld := ⟨0x081000 + 0x10000 * h + 4 * n, 24, 4⟩
def PR_INST_P (h : Nat) (n : Nat) : Fld := ⟨0x081000 + 0x10000 * h + 4 * n, 23, 1⟩
def PR_INST_BITS (h : Nat) (n : Nat) : Fld := ⟨0x081000 + 0x10000 * h + 4 * n, 0, 16⟩
def BRC_STAT_ROLE : Fld := ⟨0x0A0000, 16, 1⟩
def BRC_STAT_PARTNER : Fld := ⟨0x0A0000, 14, 2⟩
def BRC_STAT_LSHIN : Fld := ⟨0x0A0000, 13, 1⟩
def BRC_STAT_LSHOUT : Fld := ⟨0x0A0000, 12, 1⟩
def BRC_STAT_SPLIT : Fld := ⟨0x0A0000, 8, 1⟩
def BRC_STAT_HO : Fld := ⟨0x0A0000, 7, 1⟩
def BRC_STAT_CMPON : Fld := ⟨0x0A0000, 6, 1⟩
def BRC_STAT_HALFB : Fld := ⟨0x0A0000, 4, 2⟩
def BRC_STAT_HALFA : Fld := ⟨0x0A0000, 2, 2⟩
def BRC_STAT_LEASH : Fld := ⟨0x0A0000, 0, 2⟩
def BRC_EVT_REJOINFAIL : Fld := ⟨0x0A0004, 6, 1⟩
def BRC_EVT_MISMATCH : Fld := ⟨0x0A0004, 5, 1⟩
def BRC_EVT_PARTCHG : Fld := ⟨0x0A0004, 4, 1⟩
def BRC_EVT_SPLIT : Fld := ⟨0x0A0004, 3, 1⟩
def BRC_EVT_DISAGREE : Fld := ⟨0x0A0004, 2, 1⟩
def BRC_EVT_HEELFAIL : Fld := ⟨0x0A0004, 1, 1⟩
def BRC_EVT_TRANSFER : Fld := ⟨0x0A0004, 0, 1⟩
def BRC_CFG_ROLECFG : Fld := ⟨0x0A0008, 17, 1⟩
def BRC_CFG_MISPOL : Fld := ⟨0x0A0008, 16, 1⟩
def BRC_CFG_RECUR : Fld := ⟨0x0A0008, 8, 8⟩
def BRC_CFG_HMISS : Fld := ⟨0x0A0008, 4, 4⟩
def BRC_CFG_DISN : Fld := ⟨0x0A0008, 0, 4⟩
def BRC_POL0_POL : Fld := ⟨0x0A0010, 0, 32⟩
def BRC_POL1_POL : Fld := ⟨0x0A0014, 0, 32⟩
def BRC_CNT0_DISPASS : Fld := ⟨0x0A0020, 16, 16⟩
def BRC_CNT0_XFERS : Fld := ⟨0x0A0020, 8, 8⟩
def BRC_CNT0_HFAILS : Fld := ⟨0x0A0020, 0, 8⟩
def BRC_CNT1_LATEVEC : Fld := ⟨0x0A0024, 16, 16⟩
def BRC_CNT1_PVDIFF : Fld := ⟨0x0A0024, 8, 8⟩
def BRC_CNT1_REJOINS : Fld := ⟨0x0A0024, 0, 8⟩
def BRC_XCNT0_ORPHAN : Fld := ⟨0x0A0028, 16, 16⟩
def BRC_XCNT0_FALLBK : Fld := ⟨0x0A0028, 0, 16⟩
def BRC_XCNT1_LOCKAB : Fld := ⟨0x0A002C, 24, 8⟩
def BRC_XCNT1_EPAB : Fld := ⟨0x0A002C, 16, 8⟩
def BRC_XCNT1_BOUNDS : Fld := ⟨0x0A002C, 8, 8⟩
def BRC_XCNT1_DENY : Fld := ⟨0x0A002C, 0, 8⟩
def BRC_HO_PHASE : Fld := ⟨0x0A0030, 29, 3⟩
def BRC_HO_EPK : Fld := ⟨0x0A0030, 0, 16⟩
def BRC_PART_FRAMES : Fld := ⟨0x0A0040, 31, 1⟩
def BRC_PART_CFGEQ : Fld := ⟨0x0A0040, 30, 1⟩
def BRC_PART_BILEQ : Fld := ⟨0x0A0040, 29, 1⟩
def BRC_PART_PFVER : Fld := ⟨0x0A0040, 16, 8⟩
def BRC_PART_AGE : Fld := ⟨0x0A0040, 0, 16⟩
def BRC_XWIN_MAP_SIZE (n : Nat) : Fld := ⟨0x0A0100 + 8 * n, 28, 4⟩
def BRC_XWIN_MAP_BASE (n : Nat) : Fld := ⟨0x0A0100 + 8 * n, 0, 20⟩
def BRC_XWIN_POL_EN (n : Nat) : Fld := ⟨0x0A0104 + 8 * n, 31, 1⟩
def BRC_XWIN_POL_RD (n : Nat) : Fld := ⟨0x0A0104 + 8 * n, 30, 1⟩
def BRC_XWIN_POL_WR (n : Nat) : Fld := ⟨0x0A0104 + 8 * n, 29, 1⟩
def BRC_XWIN_POL_LOCK (n : Nat) : Fld := ⟨0x0A0104 + 8 * n, 28, 1⟩
def MTR_STAT_BKRUN : Fld := ⟨0x0C0000, 3, 1⟩
def MTR_STAT_FUNLOCK : Fld := ⟨0x0C0000, 2, 1⟩
def MTR_STAT_UNCAL : Fld := ⟨0x0C0000, 1, 1⟩
def MTR_EVT_SAVELOST : Fld := ⟨0x0C0004, 2, 1⟩
def MTR_EVT_GAP : Fld := ⟨0x0C0004, 1, 1⟩
def MTR_EVT_STUCK : Fld := ⟨0x0C0004, 0, 1⟩
def MTR_RUN_RUN : Fld := ⟨0x0C0010, 0, 32⟩
def MTR_STUCK_STUCK : Fld := ⟨0x0C0014, 0, 32⟩
def MTR_FREQ_FREQ : Fld := ⟨0x0C0020, 0, 17⟩
def MTR_SAVE_SAVEPER : Fld := ⟨0x0C0024, 16, 6⟩
def MTR_SAVE_AGE : Fld := ⟨0x0C0024, 0, 16⟩
def MTR_CNT_INVWIN : Fld := ⟨0x0C0028, 16, 16⟩
def MTR_CNT_SAVES : Fld := ⟨0x0C0028, 0, 16⟩
def MTR_MPCFG_KIND (n : Nat) : Fld := ⟨0x0C0040 + 4 * n, 30, 2⟩
def MTR_MPCFG_PROTMP (n : Nat) : Fld := ⟨0x0C0040 + 4 * n, 29, 1⟩
def MTR_MPCFG_VREF (n : Nat) : Fld := ⟨0x0C0040 + 4 * n, 24, 3⟩
def EVR_STAT_LANEOCC : Fld := ⟨0x0D0000, 16, 7⟩
def EVR_STAT_INGOCC : Fld := ⟨0x0D0000, 0, 11⟩
def EVR_EVT_CRCERR : Fld := ⟨0x0D0004, 4, 1⟩
def EVR_EVT_LANEFULL : Fld := ⟨0x0D0004, 3, 1⟩
def EVR_EVT_AREASUB : Fld := ⟨0x0D0004, 2, 1⟩
def EVR_EVT_CLEARED : Fld := ⟨0x0D0004, 1, 1⟩
def EVR_EVT_LOST : Fld := ⟨0x0D0004, 0, 1⟩
def EVR_CNT_NOCOPY : Fld := ⟨0x0D0008, 16, 16⟩
def EVR_CNT_COALFULL : Fld := ⟨0x0D0008, 8, 8⟩
def EVR_CNT_NOTLEAD : Fld := ⟨0x0D0008, 0, 8⟩
def EVR_LOG_SEQ_SEQ (n : Nat) : Fld := ⟨0x0D0100 + 8 * n, 0, 32⟩
def EVR_LOG_LOST_LOST (n : Nat) : Fld := ⟨0x0D0104 + 8 * n, 0, 32⟩
def ARC_STAT_STATE : Fld := ⟨0x0E0000, 29, 3⟩
def ARC_STAT_KEYOK : Fld := ⟨0x0E0000, 28, 1⟩
def ARC_STAT_NSOK : Fld := ⟨0x0E0000, 21, 7⟩
def ARC_EVT_FULL : Fld := ⟨0x0E0004, 3, 1⟩
def ARC_EVT_NSFAIL : Fld := ⟨0x0E0004, 2, 1⟩
def ARC_EVT_KEYLOST : Fld := ⟨0x0E0004, 1, 1⟩
def ARC_EVT_GAP : Fld := ⟨0x0E0004, 0, 1⟩
def ARC_RATE_WR : Fld := ⟨0x0E0008, 16, 16⟩
def ARC_RATE_IN : Fld := ⟨0x0E0008, 0, 16⟩
def ARC_STAGE_MIB : Fld := ⟨0x0E000C, 0, 13⟩
def ARC_FREE_GIB : Fld := ⟨0x0E0010, 0, 24⟩
def KEY_UID_UID (n : Nat) : Fld := ⟨0x0F0000 + 4 * n, 0, 32⟩
def KEY_STAT_LATCH : Fld := ⟨0x0F0010, 31, 1⟩
def KEY_STAT_CLAIMED : Fld := ⟨0x0F0010, 30, 1⟩
def KEY_STAT_BURLOK : Fld := ⟨0x0F0010, 29, 1⟩
def KEY_STAT_TAMPLOW : Fld := ⟨0x0F0010, 28, 1⟩
def KEY_STAT_ZERLOW : Fld := ⟨0x0F0010, 27, 1⟩
def KEY_STAT_NVALID : Fld := ⟨0x0F0010, 0, 9⟩
def KEY_EVT_REKEY : Fld := ⟨0x0F0014, 3, 1⟩
def KEY_EVT_EXHAUST : Fld := ⟨0x0F0014, 2, 1⟩
def KEY_EVT_REJECT : Fld := ⟨0x0F0014, 1, 1⟩
def KEY_EVT_TAMPER : Fld := ⟨0x0F0014, 0, 1⟩
def KEY_UCNT_LO_UCNT_LO : Fld := ⟨0x0F0018, 0, 32⟩
def KEY_UCNT_HI_UCNT_HI : Fld := ⟨0x0F001C, 0, 32⟩
def KEY_VALID_VALID (n : Nat) : Fld := ⟨0x0F0020 + 4 * n, 0, 32⟩
def KEY_ENG_CLASS (n : Nat) : Fld := ⟨0x0F0040 + 4 * n, 30, 2⟩
def KEY_ENG_CTX (n : Nat) : Fld := ⟨0x0F0040 + 4 * n, 27, 3⟩
def KEY_ENG_PEND (n : Nat) : Fld := ⟨0x0F0040 + 4 * n, 0, 16⟩
def KEY_CNT_REJECT : Fld := ⟨0x0F0050, 24, 8⟩
def KEY_CNT_EPAB : Fld := ⟨0x0F0050, 16, 8⟩
def KEY_CNT_PREEMPT : Fld := ⟨0x0F0050, 0, 16⟩
def UPD_STAT_STATE : Fld := ⟨0x100000, 29, 3⟩
def UPD_STAT_RCV : Fld := ⟨0x100000, 28, 1⟩
def UPD_STAT_RCVCAUSE : Fld := ⟨0x100000, 26, 2⟩
def UPD_BILVER_VERSION : Fld := ⟨0x100004, 0, 32⟩
def UPD_SVN_SVN : Fld := ⟨0x100008, 0, 32⟩
def UPD_FLOOR_FLOOR : Fld := ⟨0x10000C, 0, 32⟩
def UPD_TRIAL_REM : Fld := ⟨0x100010, 0, 17⟩
def UPD_EVT_NBPHASE : Fld := ⟨0x100014, 3, 1⟩
def UPD_EVT_ROLLBACK : Fld := ⟨0x100014, 2, 1⟩
def UPD_EVT_CONFIRMED : Fld := ⟨0x100014, 1, 1⟩
def UPD_EVT_REJECT : Fld := ⟨0x100014, 0, 1⟩
def UPD_NBSTAT_PHASE : Fld := ⟨0x100020, 29, 3⟩
def UPD_NBSTAT_ROUND : Fld := ⟨0x100020, 26, 3⟩
def UPD_NBSTAT_CAMP : Fld := ⟨0x100020, 0, 16⟩
def UPD_NBDONE_COMPLETE : Fld := ⟨0x100024, 0, 18⟩
def UPD_RCMD_GO : Fld := ⟨0x100100, 31, 1⟩
def UPD_RCMD_DEV : Fld := ⟨0x100100, 8, 1⟩
def UPD_RCMD_OP : Fld := ⟨0x100100, 0, 4⟩
def UPD_RADDR_ADDR : Fld := ⟨0x100104, 0, 32⟩
def UPD_RLEN_LEN : Fld := ⟨0x100108, 0, 15⟩
def UPD_RSEQ_SEQ : Fld := ⟨0x10010C, 0, 32⟩
def UPD_RSTAT_BUSY : Fld := ⟨0x100110, 31, 1⟩
def UPD_RSTAT_RESULT : Fld := ⟨0x100110, 0, 8⟩
def UPD_RBUF_DATA (n : Nat) : Fld := ⟨0x108000 + 4 * n, 0, 32⟩
def MBX_CMDPI : Fld := ⟨0x140000, 0, 32⟩
def MBX_CMDCI : Fld := ⟨0x140004, 0, 32⟩
def MBX_RSPPI : Fld := ⟨0x140010, 0, 32⟩
def MBX_RSPCI : Fld := ⟨0x140014, 0, 32⟩
def MBX_RPTPI : Fld := ⟨0x140020, 0, 32⟩
def MBX_RPTCI : Fld := ⟨0x140024, 0, 32⟩
def MBX_EVPI : Fld := ⟨0x140030, 0, 32⟩
def MBX_EVCI : Fld := ⟨0x140034, 0, 32⟩

def rowsSup : List RegRow := [
  ⟨0, 1, [⟨SUP_ID_TYPE, .ro, .none, false, 0⟩,
    ⟨SUP_ID_HWREV, .ro, .none, false, 0⟩,
    ⟨SUP_ID_REGION, .ro, .none, false, 0⟩,
    ⟨SUP_ID_SUITE_P, .ro, .none, false, 0⟩,
    ⟨SUP_ID_ARCH, .ro, .none, false, 0⟩,
    ⟨SUP_ID_GRADE, .ro, .none, false, 0⟩]⟩,
  ⟨0, 1, [⟨SUP_DOMSTAT_OCXO_LOST, .ro, .none, false, 0⟩,
    ⟨SUP_DOMSTAT_MFE, .ro, .none, false, 0⟩,
    ⟨SUP_DOMSTAT_NET, .ro, .none, false, 0⟩,
    ⟨SUP_DOMSTAT_RADIO, .ro, .none, false, 0⟩,
    ⟨SUP_DOMSTAT_HALFB, .ro, .none, false, 0⟩,
    ⟨SUP_DOMSTAT_HALFA, .ro, .none, false, 0⟩,
    ⟨SUP_DOMSTAT_APP, .ro, .none, false, 0⟩,
    ⟨SUP_DOMSTAT_AON, .ro, .none, false, 1⟩]⟩,
  ⟨4, 5, [⟨SUP_SPMGN_EXH_HI 0, .ro, .mram, true, 0⟩,
    ⟨SUP_SPMGN_MGN_HI 0, .ro, .mram, false, 0⟩,
    ⟨SUP_SPMGN_EXH_LO 0, .ro, .mram, true, 0⟩,
    ⟨SUP_SPMGN_MGN_LO 0, .ro, .mram, false, 0⟩]⟩,
  ⟨0, 1, [⟨SUP_RSTCAUSE_DWDOG, .w1c, .warm, false, 0⟩,
    ⟨SUP_RSTCAUSE_APPLYRST, .w1c, .warm, false, 0⟩,
    ⟨SUP_RSTCAUSE_RECOVERY, .w1c, .warm, false, 0⟩,
    ⟨SUP_RSTCAUSE_BOOTFAIL, .w1c, .warm, false, 0⟩,
    ⟨SUP_RSTCAUSE_HOSTCMD, .w1c, .warm, false, 0⟩,
    ⟨SUP_RSTCAUSE_OCXO, .w1c, .warm, false, 0⟩,
    ⟨SUP_RSTCAUSE_THERMAL, .w1c, .warm, false, 0⟩,
    ⟨SUP_RSTCAUSE_QUIESCE, .w1c, .warm, false, 0⟩,
    ⟨SUP_RSTCAUSE_BROWNOUT, .w1c, .warm, false, 0⟩,
    ⟨SUP_RSTCAUSE_COLD, .w1c, .warm, false, 0⟩]⟩,
  ⟨4, 10, [⟨SUP_MILE_MS 0, .ro, .none, false, 0⟩]⟩,
  ⟨0, 1, [⟨SUP_BOOT_DEV, .ro, .none, false, 0⟩,
    ⟨SUP_BOOT_FAILA, .ro, .mram, false, 0⟩,
    ⟨SUP_BOOT_FAILB, .ro, .mram, false, 0⟩,
    ⟨SUP_BOOT_BURLTRY, .ro, .none, false, 0⟩,
    ⟨SUP_BOOT_STAGE, .ro, .none, false, 0⟩,
    ⟨SUP_BOOT_ATTEMPT, .ro, .none, false, 0⟩]⟩,
  ⟨0, 1, [⟨SUP_FEPOCH_PEND, .ro, .none, false, 0⟩,
    ⟨SUP_FEPOCH_FEPOCH, .ro, .none, false, 0⟩]⟩,
  ⟨0, 1, [⟨SUP_CFGACT_SEQ, .ro, .none, false, 0⟩]⟩,
  ⟨0, 1, [⟨SUP_CFGSTAT_STATE, .ro, .none, false, 0⟩,
    ⟨SUP_CFGSTAT_DEFAULTS, .ro, .none, false, 0⟩,
    ⟨SUP_CFGSTAT_DEF, .ro, .none, false, 0⟩]⟩,
  ⟨0, 1, [⟨SUP_SUMMARY_BLK, .ro, .none, false, 0⟩]⟩,
  ⟨0, 1, [⟨SUP_SEQ_SEQ, .ro, .none, false, 0⟩]⟩,
  ⟨0, 1, [⟨SUP_HEARTBEAT_HB, .ro, .none, false, 0⟩]⟩
]

/-- The KNL block. Kennel 95 has no registers (R970), so a register of each kennel stands in two rows. -/
def rowsKnl : List RegRow := [
  ⟨4, 8, [⟨KNL_NOTICE_NOTICE 0, .ro, .none, false, 0⟩]⟩,
  ⟨16, 95, [⟨KNL_CFG_FULLPOL 0, .ro, .none, false, 0⟩, ⟨KNL_CFG_PROD 0, .ro, .none, false, 0⟩, ⟨KNL_CFG_CONS 0, .ro, .none, false, 0⟩, ⟨KNL_CFG_DEPTH 0, .ro, .none, false, 0⟩]⟩,
  ⟨16, 48, [⟨KNL_CFG_FULLPOL 96, .ro, .none, false, 0⟩, ⟨KNL_CFG_PROD 96, .ro, .none, false, 0⟩, ⟨KNL_CFG_CONS 96, .ro, .none, false, 0⟩, ⟨KNL_CFG_DEPTH 96, .ro, .none, false, 0⟩]⟩,
  ⟨16, 95, [⟨KNL_STAT_DROPCNT 0, .ro, .none, false, 0⟩, ⟨KNL_STAT_PKTCNT 0, .ro, .none, false, 0⟩]⟩,
  ⟨16, 48, [⟨KNL_STAT_DROPCNT 96, .ro, .none, false, 0⟩, ⟨KNL_STAT_PKTCNT 96, .ro, .none, false, 0⟩]⟩,
  ⟨16, 95, [⟨KNL_RSTCNT_RSTCNT 0, .rw, .warm, false, 0⟩]⟩,
  ⟨16, 48, [⟨KNL_RSTCNT_RSTCNT 96, .rw, .warm, false, 0⟩]⟩,
  ⟨16, 95, [⟨KNL_ABNCNT_ABNCNT 0, .rw, .warm, false, 0⟩]⟩,
  ⟨16, 48, [⟨KNL_ABNCNT_ABNCNT 96, .rw, .warm, false, 0⟩]⟩
]

def rowsArb : List RegRow := [
  ⟨0, 1, [⟨ARB_CTL_NTH, .rw, .none, false, 16⟩]⟩,
  ⟨4, 8, [⟨ARB_WGT_W 0, .rw, .none, false, 0⟩]⟩,
  ⟨4, 8, [⟨ARB_CRD_CRD 0, .ro, .none, false, 0⟩]⟩,
  ⟨4, 8, [⟨ARB_MAXW_MAXW 0, .rc, .none, false, 0⟩]⟩,
  ⟨4, 8, [⟨ARB_EMPTY_EMPTY 0, .rc, .none, false, 0⟩]⟩
]

def rowsPwr : List RegRow := [
  ⟨0, 1, [⟨PWR_CFG_WARN, .ro, .none, false, 56⟩]⟩,
  ⟨0, 1, [⟨PWR_HOLD_VSET, .ro, .none, false, 0⟩,
    ⟨PWR_HOLD_VQ, .ro, .none, false, 0⟩,
    ⟨PWR_HOLD_CAP, .ro, .none, false, 0⟩]⟩,
  ⟨0, 1, [⟨PWR_STAT_THROTTLE, .ro, .none, false, 0⟩,
    ⟨PWR_STAT_HOLD_OK, .ro, .none, false, 0⟩,
    ⟨PWR_STAT_HOLD_SMALL, .ro, .none, false, 0⟩,
    ⟨PWR_STAT_QUIESCE, .ro, .none, false, 0⟩,
    ⟨PWR_STAT_WARN, .ro, .none, false, 0⟩,
    ⟨PWR_STAT_VINB_OK, .ro, .none, false, 0⟩,
    ⟨PWR_STAT_VINA_OK, .ro, .none, false, 0⟩]⟩,
  ⟨0, 1, [⟨PWR_MON_TEMP, .ro, .none, false, 0⟩,
    ⟨PWR_MON_VHOLD, .ro, .none, false, 0⟩,
    ⟨PWR_MON_VIN, .ro, .none, false, 0⟩]⟩
]

def rowsOut : List RegRow := [
  ⟨0, 1, [⟨OUT_STAT_HOLDCAUSE, .ro, .none, false, 0⟩,
    ⟨OUT_STAT_HOLD, .ro, .none, false, 0⟩,
    ⟨OUT_STAT_LEASHB, .ro, .none, false, 0⟩,
    ⟨OUT_STAT_LEASHA, .ro, .none, false, 0⟩,
    ⟨OUT_STAT_PARTNER, .ro, .none, false, 0⟩,
    ⟨OUT_STAT_LEADER, .ro, .none, false, 0⟩,
    ⟨OUT_STAT_HEALTHY, .ro, .none, false, 0⟩,
    ⟨OUT_STAT_OUTEN, .ro, .none, false, 0⟩]⟩,
  ⟨4, 2, [⟨OUT_CMDLVL_LVL 0, .ro, .none, false, 0⟩]⟩,
  ⟨4, 2, [⟨OUT_RBLVL_LVL 0, .ro, .none, false, 0⟩]⟩,
  ⟨4, 2, [⟨OUT_RBMIS_MIS 0, .w1c, .none, false, 0⟩]⟩,
  ⟨4, 64, [⟨OUT_BICFG_INV 0, .ro, .none, false, 0⟩,
    ⟨OUT_BICFG_DBNC 0, .ro, .none, false, 0⟩]⟩,
  ⟨4, 2, [⟨OUT_BILVL_LVL 0, .ro, .none, false, 0⟩]⟩,
  ⟨16, 8, [⟨OUT_LPCFG_EN 0, .ro, .none, false, 0⟩,
    ⟨OUT_LPCFG_MODE 0, .ro, .none, false, 0⟩,
    ⟨OUT_LPCFG_SRC 0, .ro, .none, false, 0⟩,
    ⟨OUT_LPCFG_HOLDT 0, .ro, .none, false, 10⟩,
    ⟨OUT_LPCFG_FAILV 0, .ro, .none, false, 0⟩]⟩,
  ⟨16, 8, [⟨OUT_LPSET_SET 0, .rw, .none, false, 0⟩]⟩,
  ⟨16, 8, [⟨OUT_LPSTAT_OPEN 0, .ro, .none, false, 0⟩,
    ⟨OUT_LPSTAT_HOLDING 0, .ro, .none, false, 0⟩,
    ⟨OUT_LPSTAT_SHORT 0, .ro, .none, false, 0⟩,
    ⟨OUT_LPSTAT_COMPLIANCE 0, .w1c, .none, false, 0⟩]⟩,
  ⟨16, 8, [⟨OUT_LPRB_RB 0, .ro, .none, false, 0⟩]⟩,
  ⟨0, 1, [⟨OUT_MCLK_FALLBK, .ro, .none, false, 0⟩,
    ⟨OUT_MCLK_SPT, .ro, .none, false, 0⟩,
    ⟨OUT_MCLK_FREQ, .ro, .none, false, 2000⟩]⟩,
  ⟨8, 8, [⟨OUT_BKCFG_EN 0, .ro, .none, false, 0⟩,
    ⟨OUT_BKCFG_MODE 0, .ro, .none, false, 0⟩,
    ⟨OUT_BKCFG_COUNT 0, .ro, .none, false, 0⟩,
    ⟨OUT_BKCFG_CHMASK 0, .ro, .none, false, 0⟩,
    ⟨OUT_BKCFG_THR 0, .ro, .none, false, 0⟩]⟩
]

def rowsOut1 : List RegRow := [
  ⟨8, 8, [⟨OUT_BKTIM_DLY 0, .ro, .none, false, 0⟩,
    ⟨OUT_BKTIM_BKHOLD 0, .ro, .none, false, 0⟩]⟩,
  ⟨0, 1, [⟨OUT_BKSTAT_TRIPPED, .w1c, .none, true, 0⟩,
    ⟨OUT_BKSTAT_REQ, .ro, .none, false, 0⟩,
    ⟨OUT_BKSTAT_PICKUP, .ro, .none, false, 0⟩]⟩,
  ⟨4, 40, [⟨OUT_WEAR_OPS 0, .ro, .mram, false, 0⟩]⟩,
  ⟨4, 40, [⟨OUT_RATED_RATED 0, .ro, .none, false, 0⟩]⟩
]

def rowsMbx : List RegRow := [
  ⟨0, 1, [⟨MBX_OWNER_PATH, .rw, .none, false, 0⟩]⟩,
  ⟨0, 1, [⟨MBX_ERR_NOTOWN, .w1c, .none, true, 0⟩,
    ⟨MBX_ERR_CIBAD, .w1c, .none, true, 0⟩,
    ⟨MBX_ERR_DBBAD, .w1c, .none, true, 0⟩]⟩,
  ⟨0, 1, [⟨MBX_DROP_EV, .rc, .none, false, 0⟩,
    ⟨MBX_DROP_RPT, .rc, .none, false, 0⟩]⟩,
  ⟨0, 1, [⟨MBX_CMDPI, .rw, .none, false, 0⟩]⟩,
  ⟨0, 1, [⟨MBX_CMDCI, .ro, .none, false, 0⟩]⟩,
  ⟨0, 1, [⟨MBX_RSPPI, .ro, .none, false, 0⟩]⟩,
  ⟨0, 1, [⟨MBX_RSPCI, .rw, .none, false, 0⟩]⟩,
  ⟨0, 1, [⟨MBX_RPTPI, .ro, .none, false, 0⟩]⟩,
  ⟨0, 1, [⟨MBX_RPTCI, .rw, .none, false, 0⟩]⟩,
  ⟨0, 1, [⟨MBX_EVPI, .ro, .none, false, 0⟩]⟩,
  ⟨0, 1, [⟨MBX_EVCI, .rw, .none, false, 0⟩]⟩
]

def rowsHbr : List RegRow := [
  ⟨8, 8, [⟨HBR_WIN_MAP_SIZE 0, .ro, .none, false, 0⟩,
    ⟨HBR_WIN_MAP_BASE 0, .ro, .none, false, 0⟩]⟩,
  ⟨8, 8, [⟨HBR_WIN_POL_EN 0, .ro, .none, false, 0⟩,
    ⟨HBR_WIN_POL_RD 0, .ro, .none, false, 0⟩,
    ⟨HBR_WIN_POL_WR 0, .ro, .none, false, 0⟩,
    ⟨HBR_WIN_POL_LOCK 0, .ro, .none, false, 0⟩,
    ⟨HBR_WIN_POL_LANE 0, .ro, .none, false, 0⟩,
    ⟨HBR_WIN_POL_PATH 0, .ro, .none, false, 0⟩]⟩,
  ⟨4, 5, [⟨HBR_BLKPOL_WE 0, .ro, .none, false, 0⟩]⟩,
  ⟨4, 4, [⟨HBR_TUN_EN 0, .ro, .none, false, 0⟩,
    ⟨HBR_TUN_KSLOT 0, .ro, .none, false, 0⟩]⟩,
  ⟨0, 1, [⟨HBR_LKADDR_WIN, .rw, .none, false, 0⟩,
    ⟨HBR_LKADDR_LINE, .rw, .none, false, 0⟩]⟩,
  ⟨0, 1, [⟨HBR_LKCTL_STATE, .ro, .none, false, 0⟩,
    ⟨HBR_LKCTL_REL, .sc, .none, false, 0⟩,
    ⟨HBR_LKCTL_ACQ, .sc, .none, false, 0⟩]⟩,
  ⟨0, 1, [⟨HBR_CNT0_RDTO, .rc, .none, true, 0⟩,
    ⟨HBR_CNT0_ORPHAN, .rc, .none, true, 0⟩]⟩,
  ⟨0, 1, [⟨HBR_CNT1_FALLBK, .rc, .none, true, 0⟩,
    ⟨HBR_CNT1_SIZE, .rc, .none, true, 0⟩]⟩,
  ⟨0, 1, [⟨HBR_CNT2_LOCKAB, .rc, .none, true, 0⟩,
    ⟨HBR_CNT2_EPAB, .rc, .none, true, 0⟩,
    ⟨HBR_CNT2_BOUNDS, .rc, .none, true, 0⟩,
    ⟨HBR_CNT2_DENY, .rc, .none, true, 0⟩]⟩,
  ⟨0, 1, [⟨HBR_CNT3_TUNMAC, .rc, .none, true, 0⟩,
    ⟨HBR_CNT3_TUNOTHER, .rc, .none, true, 0⟩]⟩
]

def rowsTb : List RegRow := [
  ⟨0, 1, [⟨TB_NOW_LO_NS_LO, .ro, .none, false, 0⟩]⟩,
  ⟨0, 1, [⟨TB_NOW_HI_NS_HI, .ro, .none, false, 0⟩]⟩,
  ⟨0, 1, [⟨TB_NOW_FR_FRAC, .ro, .none, false, 0⟩]⟩,
  ⟨0, 1, [⟨TB_INC_FR_FR, .rwh, .none, false, 2147483648⟩]⟩,
  ⟨0, 1, [⟨TB_INC_NS_NS, .rwh, .none, false, 2⟩]⟩,
  ⟨16, 32, [⟨TB_CMP_TLO_TGT_LO 0, .rw, .none, false, 0⟩]⟩,
  ⟨16, 32, [⟨TB_CMP_THI_TGT_HI 0, .rw, .none, false, 0⟩]⟩,
  ⟨16, 32, [⟨TB_CMP_CTL_FIRED 0, .w1c, .none, true, 0⟩,
    ⟨TB_CMP_CTL_ARM 0, .sc, .none, false, 0⟩]⟩,
  ⟨0, 1, [⟨TB_PPSCFG_OUTEN, .ro, .none, false, 0⟩,
    ⟨TB_PPSCFG_OUTQ, .ro, .none, false, 0⟩,
    ⟨TB_PPSCFG_INDLY, .ro, .none, false, 0⟩]⟩,
  ⟨0, 1, [⟨TB_PPSIN_LO_NS_LO, .ro, .none, false, 0⟩]⟩,
  ⟨0, 1, [⟨TB_PPSIN_HI_NS_HI, .ro, .none, false, 0⟩]⟩,
  ⟨0, 1, [⟨TB_CFG_SRC, .ro, .none, false, 0⟩,
    ⟨TB_CFG_SLEWPPM, .ro, .none, false, 100⟩,
    ⟨TB_CFG_HOLDLIM, .ro, .none, false, 300⟩]⟩
]

def rowsTb1 : List RegRow := [
  ⟨0, 1, [⟨TB_ADJ_ADJ, .wo, .none, false, 0⟩]⟩,
  ⟨0, 1, [⟨TB_ADJREM_REM, .ro, .none, false, 0⟩]⟩,
  ⟨0, 1, [⟨TB_QUAL_UTCOFF, .ro, .none, false, 0⟩,
    ⟨TB_QUAL_LEAP, .ro, .none, false, 0⟩,
    ⟨TB_QUAL_SERVO, .ro, .none, false, 0⟩,
    ⟨TB_QUAL_QUAL, .ro, .none, false, 0⟩]⟩,
  ⟨0, 1, [⟨TB_STAT_CMPLOST, .w1c, .none, true, 0⟩,
    ⟨TB_STAT_TZWARN, .w1c, .none, true, 0⟩,
    ⟨TB_STAT_PPSBAD, .w1c, .none, true, 0⟩,
    ⟨TB_STAT_STEP, .w1c, .none, true, 0⟩,
    ⟨TB_STAT_QCHG, .w1c, .none, true, 0⟩]⟩
]

def rowsRtc : List RegRow := [
  ⟨0, 1, [⟨RTC_TICK_LO_TICK_LO, .ro, .none, false, 0⟩]⟩,
  ⟨0, 1, [⟨RTC_TICK_HI_TICK_HI, .ro, .none, false, 0⟩]⟩,
  ⟨0, 1, [⟨RTC_LOAD_LO_LOAD_LO, .rw, .none, false, 0⟩]⟩,
  ⟨0, 1, [⟨RTC_LOAD_HI_LOAD_HI, .rw, .none, false, 0⟩]⟩,
  ⟨0, 1, [⟨RTC_CTL_ARM, .sc, .none, false, 0⟩,
    ⟨RTC_CTL_RELSRC, .rw, .none, false, 0⟩,
    ⟨RTC_CTL_RELCMP, .rw, .none, false, 0⟩,
    ⟨RTC_CTL_HALT, .rwh, .none, false, 0⟩]⟩,
  ⟨0, 1, [⟨RTC_STAT_VBAKLOW, .ro, .none, false, 0⟩,
    ⟨RTC_STAT_HALTED, .ro, .none, false, 0⟩,
    ⟨RTC_STAT_OSF, .w1c, .warm, true, 0⟩]⟩,
  ⟨0, 1, [⟨RTC_TCH_EN, .ro, .none, false, 0⟩,
    ⟨RTC_TCH_RSEL, .ro, .none, false, 0⟩,
    ⟨RTC_TCH_DSEL, .ro, .none, false, 0⟩,
    ⟨RTC_TCH_VMAX, .ro, .none, false, 0⟩]⟩,
  ⟨0, 1, [⟨RTC_OPSEC_OPSEC, .ro, .mram, false, 0⟩]⟩,
  ⟨0, 1, [⟨RTC_PCYC_PCYC, .ro, .mram, false, 0⟩]⟩
]

def rowsRad : List RegRow := [
  ⟨0, 1, [⟨RAD_STAT_GRIDBAD, .ro, .none, false, 0⟩,
    ⟨RAD_STAT_THROT, .ro, .none, false, 0⟩,
    ⟨RAD_STAT_SETTLE, .ro, .none, false, 0⟩,
    ⟨RAD_STAT_CAL, .ro, .none, false, 0⟩,
    ⟨RAD_STAT_DRAIN, .ro, .none, false, 0⟩,
    ⟨RAD_STAT_CH1OK, .ro, .none, false, 0⟩,
    ⟨RAD_STAT_CH0OK, .ro, .none, false, 0⟩,
    ⟨RAD_STAT_TXON, .ro, .none, false, 0⟩]⟩,
  ⟨0, 1, [⟨RAD_EVT_BUDLOW, .w1c, .none, true, 0⟩,
    ⟨RAD_EVT_LOUNLK, .w1c, .none, true, 0⟩,
    ⟨RAD_EVT_CHAINFAIL, .w1c, .none, true, 0⟩,
    ⟨RAD_EVT_CALFAIL, .w1c, .none, true, 0⟩]⟩,
  ⟨0, 1, [⟨RAD_TXLIM_RSVACK, .ro, .none, false, 4⟩,
    ⟨RAD_TXLIM_TRAINMAX, .ro, .none, false, 8⟩,
    ⟨RAD_TXLIM_CCAP, .ro, .none, false, 400⟩,
    ⟨RAD_TXLIM_PCAR, .ro, .none, false, 0⟩]⟩,
  ⟨0, 1, [⟨RAD_TXCAP_ONAIR, .ro, .none, false, 0⟩,
    ⟨RAD_TXCAP_MAXCAR, .ro, .none, false, 0⟩]⟩,
  ⟨0, 1, [⟨RAD_CAL_CALPER, .ro, .none, false, 60⟩,
    ⟨RAD_CAL_LASTDRN, .ro, .none, false, 0⟩]⟩,
  ⟨0, 1, [⟨RAD_CNT0_LATE, .rc, .none, false, 0⟩,
    ⟨RAD_CNT0_BUDREF, .rc, .none, false, 0⟩]⟩,
  ⟨0, 1, [⟨RAD_CNT1_LBTBUSY, .rc, .none, false, 0⟩,
    ⟨RAD_CNT1_AFA, .rc, .none, false, 0⟩]⟩,
  ⟨4, 8, [⟨RAD_BUD_EN 0, .ro, .none, false, 0⟩,
    ⟨RAD_BUD_REM 0, .ro, .none, false, 0⟩]⟩
]

def rowsPack : List RegRow := [
  ⟨4, 16, [⟨PACK_CL_SPLEFT 0, .ro, .mram, false, 2⟩,
    ⟨PACK_CL_CCMFAIL 0, .ro, .none, false, 0⟩,
    ⟨PACK_CL_CCMSHR 0, .ro, .none, false, 0⟩,
    ⟨PACK_CL_S1V 0, .ro, .mram, false, 0⟩,
    ⟨PACK_CL_S1SLOT 0, .ro, .mram, false, 0⟩,
    ⟨PACK_CL_S0V 0, .ro, .mram, false, 0⟩,
    ⟨PACK_CL_S0SLOT 0, .ro, .mram, false, 0⟩]⟩,
  ⟨4, 16, [⟨PACK_DARK_DARK 0, .ro, .none, true, 0⟩]⟩,
  ⟨0, 1, [⟨PACK_AIR0_FCSERR, .rc, .none, false, 0⟩,
    ⟨PACK_AIR0_HDRERR, .rc, .none, false, 0⟩]⟩,
  ⟨0, 1, [⟨PACK_AIR1_VERERR, .rc, .none, false, 0⟩,
    ⟨PACK_AIR1_UNROST, .rc, .none, false, 0⟩]⟩,
  ⟨0, 1, [⟨PACK_AIR2_MICERR, .rc, .none, false, 0⟩,
    ⟨PACK_AIR2_REPLAY, .rc, .none, false, 0⟩]⟩,
  ⟨0, 1, [⟨PACK_AIR3_DUP, .rc, .none, false, 0⟩,
    ⟨PACK_AIR3_NOACK, .rc, .none, false, 0⟩]⟩,
  ⟨0, 1, [⟨PACK_AIR4_SYNCLOST, .rc, .none, false, 0⟩,
    ⟨PACK_AIR4_TRAINS, .rc, .none, false, 0⟩]⟩
]

def rowsLnt : List RegRow := [
  ⟨0, 1, [⟨LNT_STAT_GEN, .ro, .none, false, 0⟩]⟩,
  ⟨0, 1, [⟨LNT_NODES_COUNT, .ro, .none, false, 0⟩]⟩,
  ⟨0, 1, [⟨LNT_QUEUE_OVF, .ro, .none, false, 0⟩]⟩,
  ⟨0, 1, [⟨LNT_EVT_REPOVF, .w1c, .none, true, 0⟩,
    ⟨LNT_EVT_RTERR, .w1c, .none, true, 0⟩,
    ⟨LNT_EVT_UNREACH, .w1c, .none, true, 0⟩]⟩,
  ⟨0, 1, [⟨LNT_CNT0_DLOK, .rc, .none, false, 0⟩,
    ⟨LNT_CNT0_DLFAIL, .rc, .none, false, 0⟩]⟩,
  ⟨0, 1, [⟨LNT_CNT1_HOWLS, .rc, .none, false, 0⟩,
    ⟨LNT_CNT1_HCOPY, .rc, .none, false, 0⟩]⟩,
  ⟨0, 1, [⟨LNT_CNT2_UNKN, .rc, .none, false, 0⟩,
    ⟨LNT_CNT2_EPDROP, .rc, .none, false, 0⟩]⟩,
  ⟨4, 4, [⟨LNT_FDRST_ST 0, .ro, .none, false, 0⟩]⟩,
  ⟨0, 1, [⟨LNT_LUXEVT_FALLBK, .w1c, .none, true, 0⟩,
    ⟨LNT_LUXEVT_SUPLOST, .w1c, .none, true, 0⟩,
    ⟨LNT_LUXEVT_FLTNEW, .w1c, .none, true, 0⟩]⟩,
  ⟨0, 1, [⟨LNT_LUXCNT0_WAVES, .rc, .none, false, 0⟩,
    ⟨LNT_LUXCNT0_WAVEFR, .rc, .none, false, 0⟩]⟩,
  ⟨0, 1, [⟨LNT_LUXCNT1_SUPPR, .rc, .none, false, 0⟩,
    ⟨LNT_LUXCNT1_RELFB, .rc, .none, false, 0⟩]⟩,
  ⟨0, 1, [⟨LNT_LUXACT_OVR, .ro, .none, false, 0⟩,
    ⟨LNT_LUXACT_FAULTY, .ro, .none, false, 0⟩]⟩
]

def rowsFwd : List RegRow := [
  ⟨4, 6, [⟨FWD_PORTCFG_EN 0, .ro, .none, false, 0⟩,
    ⟨FWD_PORTCFG_SPEED 0, .ro, .none, false, 0⟩,
    ⟨FWD_PORTCFG_LEARN 0, .ro, .none, false, 0⟩,
    ⟨FWD_PORTCFG_DEFPRI 0, .ro, .none, false, 0⟩,
    ⟨FWD_PORTCFG_PVID 0, .ro, .none, false, 1⟩]⟩,
  ⟨4, 6, [⟨FWD_PORTSTAT_TXFAULT 0, .ro, .none, false, 0⟩,
    ⟨FWD_PORTSTAT_RXLOS 0, .ro, .none, false, 0⟩,
    ⟨FWD_PORTSTAT_MODABS 0, .ro, .none, false, 0⟩,
    ⟨FWD_PORTSTAT_PCSOK 0, .ro, .none, false, 0⟩,
    ⟨FWD_PORTSTAT_LINK 0, .ro, .none, false, 0⟩]⟩,
  ⟨4, 2, [⟨FWD_RBOX_MODE 0, .ro, .none, false, 0⟩,
    ⟨FWD_RBOX_DDLIFE 0, .ro, .none, false, 400⟩]⟩,
  ⟨0, 1, [⟨FWD_OCC0_MAC, .ro, .none, false, 0⟩,
    ⟨FWD_OCC0_MC, .ro, .none, false, 0⟩]⟩,
  ⟨0, 1, [⟨FWD_OCC1_LENS, .ro, .none, false, 0⟩,
    ⟨FWD_OCC1_PFX, .ro, .none, false, 0⟩]⟩,
  ⟨0, 1, [⟨FWD_EVT_GOLOST, .w1c, .none, true, 0⟩,
    ⟨FWD_EVT_SVLOST, .w1c, .none, true, 0⟩,
    ⟨FWD_EVT_DDOVF, .w1c, .none, true, 0⟩,
    ⟨FWD_EVT_PARERR, .w1c, .none, true, 0⟩,
    ⟨FWD_EVT_LINKCHG, .w1c, .none, true, 0⟩]⟩,
  ⟨0, 1, [⟨FWD_PARCNT_SUB, .rc, .none, false, 0⟩,
    ⟨FWD_PARCNT_DUPT, .rc, .none, false, 0⟩,
    ⟨FWD_PARCNT_PFX, .rc, .none, false, 0⟩,
    ⟨FWD_PARCNT_MACT, .rc, .none, false, 0⟩]⟩,
  ⟨0, 1, [⟨FWD_AGE_AGE, .ro, .none, false, 300⟩]⟩,
  ⟨0, 1, [⟨FWD_CNT0_VLANDROP, .rc, .none, false, 0⟩,
    ⟨FWD_CNT0_LEARNFULL, .rc, .none, false, 0⟩]⟩,
  ⟨0, 1, [⟨FWD_CNT1_DDOVF, .rc, .none, false, 0⟩,
    ⟨FWD_CNT1_STATVIOL, .rc, .none, false, 0⟩,
    ⟨FWD_CNT1_MOVES, .rc, .none, false, 0⟩]⟩,
  ⟨4, 4, [⟨FWD_SVACT_ACT 0, .ro, .none, false, 0⟩]⟩,
  ⟨4, 8, [⟨FWD_GOACT_ACT 0, .ro, .none, false, 0⟩]⟩
]

def rowsPr : List RegRow := [
  ⟨0, 1, [⟨PR_STAT_RATE 0, .ro, .none, false, 0⟩,
    ⟨PR_STAT_LEAD 0, .ro, .none, false, 0⟩,
    ⟨PR_STAT_INSERV 0, .ro, .none, false, 0⟩]⟩,
  ⟨0, 1, [⟨PR_PASS_MAXPASS 0, .rc, .none, false, 0⟩,
    ⟨PR_PASS_LASTK 0, .ro, .none, false, 0⟩]⟩,
  ⟨0, 1, [⟨PR_CNT0_SYNTH 0, .rc, .none, false, 0⟩,
    ⟨PR_CNT0_EXPIRED 0, .rc, .none, false, 0⟩,
    ⟨PR_CNT0_OVERRUN 0, .rc, .none, false, 0⟩]⟩,
  ⟨0, 1, [⟨PR_CNT1_REEVAL 0, .rc, .none, false, 0⟩,
    ⟨PR_CNT1_REDROP 0, .rc, .none, false, 0⟩,
    ⟨PR_CNT1_LATE 0, .rc, .none, false, 0⟩]⟩,
  ⟨0, 1, [⟨PR_EVT_FLOCDONE 0, .w1c, .none, true, 0⟩,
    ⟨PR_EVT_BLOCKED 0, .w1c, .none, true, 0⟩,
    ⟨PR_EVT_OVERRUN 0, .w1c, .none, true, 0⟩]⟩,
  ⟨0, 1, [⟨PR_OUTV_V 0, .ro, .none, false, 0⟩]⟩,
  ⟨0, 1, [⟨PR_OUTP_P 0, .ro, .none, false, 0⟩]⟩,
  ⟨4, 192, [⟨PR_INST_EN 0 0, .ro, .none, false, 0⟩,
    ⟨PR_INST_BLK 0 0, .ro, .none, false, 0⟩,
    ⟨PR_INST_Q 0 0, .ro, .none, false, 0⟩,
    ⟨PR_INST_RUN 0 0, .ro, .none, false, 0⟩,
    ⟨PR_INST_P 0 0, .ro, .none, false, 0⟩,
    ⟨PR_INST_BITS 0 0, .ro, .none, false, 0⟩]⟩
]

def rowsBrc : List RegRow := [
  ⟨0, 1, [⟨BRC_STAT_ROLE, .ro, .none, false, 0⟩,
    ⟨BRC_STAT_PARTNER, .ro, .none, false, 0⟩,
    ⟨BRC_STAT_LSHIN, .ro, .none, false, 0⟩,
    ⟨BRC_STAT_LSHOUT, .ro, .none, false, 0⟩,
    ⟨BRC_STAT_SPLIT, .ro, .none, false, 0⟩,
    ⟨BRC_STAT_HO, .ro, .none, false, 0⟩,
    ⟨BRC_STAT_CMPON, .ro, .none, false, 0⟩,
    ⟨BRC_STAT_HALFB, .ro, .none, false, 0⟩,
    ⟨BRC_STAT_HALFA, .ro, .none, false, 0⟩,
    ⟨BRC_STAT_LEASH, .ro, .none, false, 0⟩]⟩,
  ⟨0, 1, [⟨BRC_EVT_REJOINFAIL, .w1c, .none, true, 0⟩,
    ⟨BRC_EVT_MISMATCH, .w1c, .none, true, 0⟩,
    ⟨BRC_EVT_PARTCHG, .w1c, .none, true, 0⟩,
    ⟨BRC_EVT_SPLIT, .w1c, .none, true, 0⟩,
    ⟨BRC_EVT_DISAGREE, .w1c, .none, true, 0⟩,
    ⟨BRC_EVT_HEELFAIL, .w1c, .none, true, 0⟩,
    ⟨BRC_EVT_TRANSFER, .w1c, .none, true, 0⟩]⟩,
  ⟨0, 1, [⟨BRC_CFG_ROLECFG, .ro, .none, false, 0⟩,
    ⟨BRC_CFG_MISPOL, .ro, .none, false, 0⟩,
    ⟨BRC_CFG_RECUR, .ro, .none, false, 60⟩,
    ⟨BRC_CFG_HMISS, .ro, .none, false, 2⟩,
    ⟨BRC_CFG_DISN, .ro, .none, false, 2⟩]⟩,
  ⟨0, 1, [⟨BRC_POL0_POL, .ro, .none, false, 0⟩]⟩,
  ⟨0, 1, [⟨BRC_POL1_POL, .ro, .none, false, 0⟩]⟩,
  ⟨0, 1, [⟨BRC_CNT0_DISPASS, .rc, .none, false, 0⟩,
    ⟨BRC_CNT0_XFERS, .rc, .none, false, 0⟩,
    ⟨BRC_CNT0_HFAILS, .rc, .none, false, 0⟩]⟩,
  ⟨0, 1, [⟨BRC_CNT1_LATEVEC, .rc, .none, false, 0⟩,
    ⟨BRC_CNT1_PVDIFF, .rc, .none, false, 0⟩,
    ⟨BRC_CNT1_REJOINS, .rc, .none, false, 0⟩]⟩,
  ⟨0, 1, [⟨BRC_XCNT0_ORPHAN, .rc, .none, false, 0⟩,
    ⟨BRC_XCNT0_FALLBK, .rc, .none, false, 0⟩]⟩,
  ⟨0, 1, [⟨BRC_XCNT1_LOCKAB, .rc, .none, false, 0⟩,
    ⟨BRC_XCNT1_EPAB, .rc, .none, false, 0⟩,
    ⟨BRC_XCNT1_BOUNDS, .rc, .none, false, 0⟩,
    ⟨BRC_XCNT1_DENY, .rc, .none, false, 0⟩]⟩,
  ⟨0, 1, [⟨BRC_HO_PHASE, .ro, .none, false, 0⟩,
    ⟨BRC_HO_EPK, .ro, .none, false, 0⟩]⟩,
  ⟨0, 1, [⟨BRC_PART_FRAMES, .ro, .none, false, 0⟩,
    ⟨BRC_PART_CFGEQ, .ro, .none, false, 0⟩,
    ⟨BRC_PART_BILEQ, .ro, .none, false, 0⟩,
    ⟨BRC_PART_PFVER, .ro, .none, false, 0⟩,
    ⟨BRC_PART_AGE, .ro, .none, false, 65535⟩]⟩,
  ⟨8, 8, [⟨BRC_XWIN_MAP_SIZE 0, .ro, .none, false, 0⟩,
    ⟨BRC_XWIN_MAP_BASE 0, .ro, .none, false, 0⟩]⟩
]

def rowsBrc1 : List RegRow := [
  ⟨8, 8, [⟨BRC_XWIN_POL_EN 0, .ro, .none, false, 0⟩,
    ⟨BRC_XWIN_POL_RD 0, .ro, .none, false, 0⟩,
    ⟨BRC_XWIN_POL_WR 0, .ro, .none, false, 0⟩,
    ⟨BRC_XWIN_POL_LOCK 0, .ro, .none, false, 0⟩]⟩
]

def rowsMtr : List RegRow := [
  ⟨0, 1, [⟨MTR_STAT_BKRUN, .ro, .none, false, 0⟩,
    ⟨MTR_STAT_FUNLOCK, .ro, .none, false, 0⟩,
    ⟨MTR_STAT_UNCAL, .ro, .none, false, 0⟩]⟩,
  ⟨0, 1, [⟨MTR_EVT_SAVELOST, .w1c, .none, true, 0⟩,
    ⟨MTR_EVT_GAP, .w1c, .none, true, 0⟩,
    ⟨MTR_EVT_STUCK, .w1c, .none, true, 0⟩]⟩,
  ⟨0, 1, [⟨MTR_RUN_RUN, .ro, .none, false, 0⟩]⟩,
  ⟨0, 1, [⟨MTR_STUCK_STUCK, .ro, .none, false, 0⟩]⟩,
  ⟨0, 1, [⟨MTR_FREQ_FREQ, .ro, .none, false, 0⟩]⟩,
  ⟨0, 1, [⟨MTR_SAVE_SAVEPER, .ro, .none, false, 10⟩,
    ⟨MTR_SAVE_AGE, .ro, .none, false, 0⟩]⟩,
  ⟨0, 1, [⟨MTR_CNT_INVWIN, .rc, .none, false, 0⟩,
    ⟨MTR_CNT_SAVES, .rc, .none, false, 0⟩]⟩,
  ⟨4, 8, [⟨MTR_MPCFG_KIND 0, .ro, .none, false, 0⟩,
    ⟨MTR_MPCFG_PROTMP 0, .ro, .none, false, 0⟩,
    ⟨MTR_MPCFG_VREF 0, .ro, .none, false, 0⟩]⟩
]

def rowsEvr : List RegRow := [
  ⟨0, 1, [⟨EVR_STAT_LANEOCC, .ro, .none, false, 0⟩,
    ⟨EVR_STAT_INGOCC, .ro, .none, false, 0⟩]⟩,
  ⟨0, 1, [⟨EVR_EVT_CRCERR, .w1c, .none, true, 0⟩,
    ⟨EVR_EVT_LANEFULL, .w1c, .none, true, 0⟩,
    ⟨EVR_EVT_AREASUB, .w1c, .none, true, 0⟩,
    ⟨EVR_EVT_CLEARED, .w1c, .none, true, 0⟩,
    ⟨EVR_EVT_LOST, .w1c, .none, true, 0⟩]⟩,
  ⟨0, 1, [⟨EVR_CNT_NOCOPY, .rc, .none, false, 0⟩,
    ⟨EVR_CNT_COALFULL, .rc, .none, false, 0⟩,
    ⟨EVR_CNT_NOTLEAD, .rc, .none, false, 0⟩]⟩,
  ⟨8, 16, [⟨EVR_LOG_SEQ_SEQ 0, .ro, .mram, false, 0⟩]⟩,
  ⟨8, 16, [⟨EVR_LOG_LOST_LOST 0, .ro, .none, false, 0⟩]⟩
]

def rowsArc : List RegRow := [
  ⟨0, 1, [⟨ARC_STAT_STATE, .ro, .none, false, 0⟩,
    ⟨ARC_STAT_KEYOK, .ro, .none, false, 0⟩,
    ⟨ARC_STAT_NSOK, .ro, .none, false, 0⟩]⟩,
  ⟨0, 1, [⟨ARC_EVT_FULL, .w1c, .none, true, 0⟩,
    ⟨ARC_EVT_NSFAIL, .w1c, .none, true, 0⟩,
    ⟨ARC_EVT_KEYLOST, .w1c, .none, true, 0⟩,
    ⟨ARC_EVT_GAP, .w1c, .none, true, 0⟩]⟩,
  ⟨0, 1, [⟨ARC_RATE_WR, .ro, .none, false, 0⟩,
    ⟨ARC_RATE_IN, .ro, .none, false, 0⟩]⟩,
  ⟨0, 1, [⟨ARC_STAGE_MIB, .ro, .none, false, 0⟩]⟩,
  ⟨0, 1, [⟨ARC_FREE_GIB, .ro, .none, false, 0⟩]⟩
]

def rowsKey : List RegRow := [
  ⟨4, 4, [⟨KEY_UID_UID 0, .ro, .none, false, 0⟩]⟩,
  ⟨0, 1, [⟨KEY_STAT_LATCH, .ro, .mram, false, 0⟩,
    ⟨KEY_STAT_CLAIMED, .ro, .mram, false, 0⟩,
    ⟨KEY_STAT_BURLOK, .ro, .none, false, 0⟩,
    ⟨KEY_STAT_TAMPLOW, .ro, .none, false, 0⟩,
    ⟨KEY_STAT_ZERLOW, .ro, .none, false, 0⟩,
    ⟨KEY_STAT_NVALID, .ro, .none, false, 0⟩]⟩,
  ⟨0, 1, [⟨KEY_EVT_REKEY, .w1c, .none, true, 0⟩,
    ⟨KEY_EVT_EXHAUST, .w1c, .none, true, 0⟩,
    ⟨KEY_EVT_REJECT, .w1c, .none, true, 0⟩,
    ⟨KEY_EVT_TAMPER, .w1c, .warm, true, 0⟩]⟩,
  ⟨0, 1, [⟨KEY_UCNT_LO_UCNT_LO, .ro, .mram, false, 0⟩]⟩,
  ⟨0, 1, [⟨KEY_UCNT_HI_UCNT_HI, .ro, .mram, false, 0⟩]⟩,
  ⟨4, 8, [⟨KEY_VALID_VALID 0, .ro, .none, false, 0⟩]⟩,
  ⟨4, 4, [⟨KEY_ENG_CLASS 0, .ro, .none, false, 0⟩,
    ⟨KEY_ENG_CTX 0, .ro, .none, false, 0⟩,
    ⟨KEY_ENG_PEND 0, .ro, .none, false, 0⟩]⟩,
  ⟨0, 1, [⟨KEY_CNT_REJECT, .rc, .none, false, 0⟩,
    ⟨KEY_CNT_EPAB, .rc, .none, false, 0⟩,
    ⟨KEY_CNT_PREEMPT, .rc, .none, false, 0⟩]⟩
]

def rowsUpd : List RegRow := [
  ⟨0, 1, [⟨UPD_STAT_STATE, .ro, .none, false, 0⟩,
    ⟨UPD_STAT_RCV, .ro, .none, false, 0⟩,
    ⟨UPD_STAT_RCVCAUSE, .ro, .none, false, 0⟩]⟩,
  ⟨0, 1, [⟨UPD_BILVER_VERSION, .ro, .none, false, 0⟩]⟩,
  ⟨0, 1, [⟨UPD_SVN_SVN, .ro, .none, false, 0⟩]⟩,
  ⟨0, 1, [⟨UPD_FLOOR_FLOOR, .ro, .mram, false, 0⟩]⟩,
  ⟨0, 1, [⟨UPD_TRIAL_REM, .ro, .none, false, 0⟩]⟩,
  ⟨0, 1, [⟨UPD_EVT_NBPHASE, .w1c, .none, true, 0⟩,
    ⟨UPD_EVT_ROLLBACK, .w1c, .warm, true, 0⟩,
    ⟨UPD_EVT_CONFIRMED, .w1c, .none, true, 0⟩,
    ⟨UPD_EVT_REJECT, .w1c, .none, true, 0⟩]⟩,
  ⟨0, 1, [⟨UPD_NBSTAT_PHASE, .ro, .none, false, 0⟩,
    ⟨UPD_NBSTAT_ROUND, .ro, .none, false, 0⟩,
    ⟨UPD_NBSTAT_CAMP, .ro, .none, false, 0⟩]⟩,
  ⟨0, 1, [⟨UPD_NBDONE_COMPLETE, .ro, .none, false, 0⟩]⟩,
  ⟨0, 1, [⟨UPD_RCMD_GO, .sc, .none, false, 0⟩,
    ⟨UPD_RCMD_DEV, .rw, .none, false, 0⟩,
    ⟨UPD_RCMD_OP, .rw, .none, false, 0⟩]⟩,
  ⟨0, 1, [⟨UPD_RADDR_ADDR, .rw, .none, false, 0⟩]⟩,
  ⟨0, 1, [⟨UPD_RLEN_LEN, .rw, .none, false, 0⟩]⟩,
  ⟨0, 1, [⟨UPD_RSEQ_SEQ, .rw, .none, false, 0⟩]⟩
]

def rowsUpd1 : List RegRow := [
  ⟨0, 1, [⟨UPD_RSTAT_BUSY, .ro, .none, false, 0⟩,
    ⟨UPD_RSTAT_RESULT, .ro, .none, false, 0⟩]⟩,
  ⟨4, 4096, [⟨UPD_RBUF_DATA 0, .rw, .none, false, 0⟩]⟩
]

/-- The rows of every block; the PRA and PRB blocks share one set of rows (written for PRA). -/
def rowsAll : List RegRow :=
  rowsSup ++
  rowsKnl ++
  rowsArb ++
  rowsPwr ++
  rowsOut ++
  rowsOut1 ++
  rowsMbx ++
  rowsHbr ++
  rowsTb ++
  rowsTb1 ++
  rowsRtc ++
  rowsRad ++
  rowsPack ++
  rowsLnt ++
  rowsFwd ++
  rowsBrc ++
  rowsBrc1 ++
  rowsMtr ++
  rowsEvr ++
  rowsArc ++
  rowsKey ++
  rowsUpd ++
  rowsUpd1

/-- Summary sources (R209), part 0. -/
def sources0 : List Fld := [
  SUP_SPMGN_EXH_HI 0, SUP_SPMGN_EXH_HI 1, SUP_SPMGN_EXH_HI 2, SUP_SPMGN_EXH_HI 3,
  SUP_SPMGN_EXH_HI 4, SUP_SPMGN_EXH_LO 0, SUP_SPMGN_EXH_LO 1, SUP_SPMGN_EXH_LO 2,
  SUP_SPMGN_EXH_LO 3, SUP_SPMGN_EXH_LO 4, OUT_BKSTAT_TRIPPED, MBX_ERR_NOTOWN,
  MBX_ERR_CIBAD, MBX_ERR_DBBAD, HBR_CNT0_RDTO, HBR_CNT0_ORPHAN,
  HBR_CNT1_FALLBK, HBR_CNT1_SIZE, HBR_CNT2_LOCKAB, HBR_CNT2_EPAB,
  HBR_CNT2_BOUNDS, HBR_CNT2_DENY, HBR_CNT3_TUNMAC, HBR_CNT3_TUNOTHER,
  TB_CMP_CTL_FIRED 0, TB_CMP_CTL_FIRED 1, TB_CMP_CTL_FIRED 2, TB_CMP_CTL_FIRED 3,
  TB_STAT_CMPLOST, TB_STAT_TZWARN, TB_STAT_PPSBAD, TB_STAT_STEP,
  TB_STAT_QCHG, RTC_STAT_OSF, RAD_EVT_BUDLOW, RAD_EVT_LOUNLK,
  RAD_EVT_CHAINFAIL, RAD_EVT_CALFAIL, PACK_DARK_DARK 0, PACK_DARK_DARK 1
  ]

/-- Summary sources (R209), part 1. -/
def sources1 : List Fld := [
  PACK_DARK_DARK 2, PACK_DARK_DARK 3, PACK_DARK_DARK 4, PACK_DARK_DARK 5,
  PACK_DARK_DARK 6, PACK_DARK_DARK 7, PACK_DARK_DARK 8, PACK_DARK_DARK 9,
  PACK_DARK_DARK 10, PACK_DARK_DARK 11, PACK_DARK_DARK 12, PACK_DARK_DARK 13,
  PACK_DARK_DARK 14, PACK_DARK_DARK 15, LNT_EVT_REPOVF, LNT_EVT_RTERR,
  LNT_EVT_UNREACH, LNT_LUXEVT_FALLBK, LNT_LUXEVT_SUPLOST, LNT_LUXEVT_FLTNEW,
  FWD_EVT_GOLOST, FWD_EVT_SVLOST, FWD_EVT_DDOVF, FWD_EVT_PARERR,
  FWD_EVT_LINKCHG, PR_EVT_FLOCDONE 0, PR_EVT_FLOCDONE 1, PR_EVT_BLOCKED 0,
  PR_EVT_BLOCKED 1, PR_EVT_OVERRUN 0, PR_EVT_OVERRUN 1, BRC_EVT_REJOINFAIL,
  BRC_EVT_MISMATCH, BRC_EVT_PARTCHG, BRC_EVT_SPLIT, BRC_EVT_DISAGREE,
  BRC_EVT_HEELFAIL, BRC_EVT_TRANSFER, MTR_EVT_SAVELOST, MTR_EVT_GAP
  ]

/-- Summary sources (R209), part 2. -/
def sources2 : List Fld := [
  MTR_EVT_STUCK, EVR_EVT_CRCERR, EVR_EVT_LANEFULL, EVR_EVT_AREASUB,
  EVR_EVT_CLEARED, EVR_EVT_LOST, ARC_EVT_FULL, ARC_EVT_NSFAIL,
  ARC_EVT_KEYLOST, ARC_EVT_GAP, KEY_EVT_REKEY, KEY_EVT_EXHAUST,
  KEY_EVT_REJECT, KEY_EVT_TAMPER, UPD_EVT_NBPHASE, UPD_EVT_ROLLBACK,
  UPD_EVT_CONFIRMED, UPD_EVT_REJECT
  ]

/-- Every field that its chapter names as a summary source (R209). -/
def sources : List Fld := sources0 ++ sources1 ++ sources2

/-- LOST_UPD of block `b` (R208). -/
def CMN_LOST_UPD (b : Nat) : Fld := ⟨0x10000 * b + 0xFFFC, 31, 1⟩

end Sys2Proof.Machine.Reg
end

