-- ==== Sys2Proof/Machine/StateA.lean ====
section
/-! DEFINITION. The parts of the state that the chapters on the module, its power and field signals, start-up, host access,
time, radio and records give it, apart from the register file. Every field's value in `{}` is its value after reset. -/
namespace Sys2Proof.Machine

/-- The fuses: ordering variant, hardware type and revision, the burl that the SRAM array gives at every start, and the unit ID derived from
it (R14, R885, Table KEY-2). The values are one ordering variant, VTG5-APX-I, with the burl 0 and four vendor keys by number; no rule fixes
them and none changes them. -/
structure Fuses where
  typ : Nat := 0x47B1
  hwrev : Nat := 1
  region : Nat := 1
  suiteP : Bool := true
  arch : Bool := true
  grade : Nat := 1
  burl : Nat := 0
  unitId : Nat := 0x69FE51D7357EB27B668B7404A6EEFC9F
  /-- The SHA-256 of the vendor public keys in the boot ROM, and the keys that a fuse revokes, a mask (R924). -/
  vendor : List Nat := [1, 2, 3, 4]
  revoked : Nat := 0
  deriving DecidableEq, Repr

/-- Supply, hold-up and thermal state (02_module_interfaces.md). Levels are in 0.1 V. -/
structure Pwr where
  /-- Levels last seen at VIN_A, VIN_B and on the bank. -/
  vinA : Nat := 0
  vinB : Nat := 0
  vhold : Nat := 0
  /-- The hold switch is closed, since this time of the always-on clock. -/
  holdSw : Bool := false
  holdSince : Nat := 0
  /-- The charger of the bank is on (R94). -/
  charge : Bool := false
  /-- VBAK in mV, and the trickle charger of the backup part is on (R306). -/
  vbak : Nat := 0
  trickle : Bool := false
  /-- Ticks of 2.5 ns of the always-on domain since power-on: they go on while the spindle stands still (R26, R141). -/
  ticks : Nat := 0
  /-- The quiesce sequence of Table IF-5 has run to step 6. -/
  quiesced : Bool := false
  /-- The baseplate is in SHUTDOWN (Table IF-8). -/
  thermal : Bool := false
  /-- The endpoint's link and transaction layers are held in reset by PERST_N (R78). -/
  perst : Bool := false
  /-- The JTAG instruction register: 0 BYPASS, 1 IDCODE, 2 SAMPLE/PRELOAD, 3 EXTEST, other: pin-driving (R79, R80). -/
  jtag : Nat := 0
  /-- The JTAG data register that the instruction selects, as captured: IDCODE, or BYPASS's 0. -/
  jtagDr : Nat := 0
  /-- Whether JTAG drives the pins. -/
  jtagDrive : Bool := false
  deriving DecidableEq, Repr

/-- The supervisor: start-up and spares. -/
structure Sup where
  /-- The 16 bytes of the shutdown marker in MRAM, when a record is there (R148). -/
  marker : Option (List Byte) := none
  /-- A boot attempt is in progress. -/
  attempt : Bool := false
  /-- When that attempt began, by the always-on clock. -/
  attemptAt : Nat := 0
  /-- BOOT_OK has been declared for the present start. -/
  bootOk : Bool := false
  /-- The milestones of R151. -/
  inServ : Bool := false
  radioUp : Bool := false
  lightCtl : Bool := false
  archOn : Bool := false
  /-- A warm restart that has been decided and not yet made: the cause's bit in SUP_RSTCAUSE. -/
  due : Option Nat := none
  /-- The HEALTHY generator was re-armed within the last 100 ms. -/
  armed : Bool := false
  /-- Application core map: failed core → spare. -/
  appCores : KMap Nat := []
  /-- Rows and MRAM blocks mapped to spares: (class, failed, spare, permanent). -/
  rowMap : List (Nat × Nat × Nat × Bool) := []
  /-- The tally, oldest record first, and its last sequence number. -/
  tally : List TallyRec := []
  tseq : Nat := 0
  /-- SUP_SEQ: the count of summary changes (R211). -/
  seq : Nat := 0
  deriving DecidableEq, Repr

/-- One kennel (01_architecture.md). Words are 64 bits. -/
structure Kennel where
  /-- Complete unread packets, oldest first; words of the head packet already read. -/
  pkts : List (List Nat) := []
  rd : Nat := 0
  /-- Words of a packet the producer has begun, and the words it still has to write. -/
  part : List Nat := []
  rest : List Nat := []
  /-- A reader is stalled; a producer is stalled. -/
  rdStall : Bool := false
  wrStall : Bool := false
  /-- Words are discarded up to the next first word (R54). -/
  skip : Bool := false
  /-- The words that the consumer's last read returned, and the bus-error flag that came with them (R44, R45). -/
  out : List Nat × Bool := ([], false)
  deriving DecidableEq, Repr

/-- One request at the memory arbiter: cycle presented, and cycle withdrawn. -/
structure ArbReq where
  at_ : Nat
  withdrawn : Option Nat := none
  deriving DecidableEq, Repr

/-- The memory arbiter. -/
structure Arb where
  reqs : KMap ArbReq := []
  /-- Non-empty grants since the last aged grant. -/
  count : Nat := 0
  /-- Weights in force this window; ARB_WGTn holds the written ones (R61). -/
  wgt : KMap Nat := []
  /-- A refresh runs until this arbiter cycle. -/
  refreshEnd : Nat := 0
  /-- The refreshes of the last 3.9 µs: first cycle and length (R64). -/
  refreshes : List (Nat × Nat) := []
  /-- The cycle whose decision was made last: there is one in each cycle. -/
  decided : Option Nat := none
  /-- The port last granted and whether the grant was empty. -/
  last : Option (Nat × Bool) := none
  deriving DecidableEq, Repr

/-- One current loop. Currents are in µA. -/
structure Loop where
  /-- What the loop is asked to drive, the set point or the fail value; what it delivers. -/
  ask : Nat := 0
  drive : Nat := 0
  /-- FAULT_LOW is in force after a compliance loss (R132). -/
  low : Bool := false
  /-- The compliance loss persists; the most current that the loop voltage then allows. -/
  loss : Bool := false
  deliv : Nat := 0
  deriving DecidableEq, Repr

/-- The field pins: outputs, readback, binary inputs, loops. -/
structure Pins where
  /-- Levels of OUT_CMD0–39, OUT_RB0–39 (masks) and the accepted levels of BI0–63. -/
  cmd : Nat := 0
  rb : Nat := 0
  bi : Nat := 0
  /-- The vector of logical outputs last presented by the half that holds LEASH. -/
  vec : Nat := 0
  /-- Pre-armed logical outputs of a provisional vector. -/
  prearm : Nat := 0
  /-- A confirmed vector has been presented since power-on (R106). -/
  first : Bool := false
  /-- The lines that were high in the cycle before the hold request (R107). -/
  held : Nat := 0
  /-- Lines that a PULSE limit holds low (a mask), and when each line that is high rose, on the always-on clock. -/
  limited : Nat := 0
  rose : KMap Nat := []
  /-- Logical outputs moved to a spare line (R119, R699): output → line. -/
  moved : KMap Nat := []
  /-- Stamp of the last accepted change of each binary input. -/
  biStamp : KMap Nat := []
  loops : KMap Loop := []
  deriving DecidableEq, Repr

/-- The mailbox rings (Table HOST-5), keyed by slot, and what goes with them. -/
structure Mbx where
  cmds : KMap CmdSlot := []
  rsps : KMap Resp := []
  rpts : KMap Report := []
  evs : KMap Rec := []
  /-- Commands consumed and not yet answered: (CODE, TAG), and those of them that have not begun to execute, oldest first. -/
  prog : List (Nat × Nat) := []
  held : List (Nat × Nat) := []
  /-- The last RSEQ assigned, kept in the always-on domain (R224). -/
  rseq : Nat := 0
  /-- Reports waiting for room in the ring (R496). -/
  ovfl : List Report := []
  /-- Data of the last read the host completed, and whether a read has completed. -/
  lastRead : Option Word := none
  /-- Bytes of the last bulk or window read. -/
  lastBytes : List Byte := []
  deriving DecidableEq, Repr

/-- A read of a bridge as it was decoded: its tag (none: a register-class read), its fabric epoch, the memory it reads (0 application
DDR5, 1 and 2 the LPDDR5 of half A and B), the address and lane mode of its window, its offset and length. -/
structure BrRead where
  tag : Option Nat
  epoch : Nat
  mem : Nat
  base : Nat
  lane : Nat
  off : Nat
  len : Nat
  deriving DecidableEq, Repr

/-- A request in a far queue: a read, or a posted write with its bytes at their addresses. -/
inductive BrReq where
  | read (r : BrRead)
  | write (epoch mem : Nat) (bytes : List (Nat × Byte))
  deriving DecidableEq, Repr

/-- A locked sequence: the memory and the line (address / 64), and the held writes with the fabric epoch of their decode. -/
structure Lock where
  mem : Nat
  line : Nat
  held : List (Nat × Nat × Byte) := []
  deriving DecidableEq, Repr

/-- A near side of a bridge with its far queue (04_host_registers.md). -/
structure Side where
  /-- The register-class read that holds the near read channel (R234). -/
  chan : Option BrRead := none
  /-- Bulk-class reads outstanding, 64 at most, and the reads that wait for the channel or for a tag, in order (R235). -/
  txns : List BrRead := []
  wait : List BrRead := []
  /-- The far queue: reads not yet accepted, and the posted writes behind them (R236). -/
  far : List BrReq := []
  /-- Posted writes pass the blocked read (R236). -/
  pass : Bool := false
  lock : Option Lock := none
  /-- Bytes of the last read that completed. -/
  got : List Byte := []
  deriving DecidableEq, Repr

/-- A change of rules that opens a fabric epoch (Table BOOT-8): the windows and policies of section 0x0E, what window 7 maps, the crossing
windows of section 0x09, and a key update message with the TAG of its command. -/
inductive FabChange where
  | windows (c : Option Sec0E)
  | win7 (k : Nat)
  | xwins (l : KMap XWin)
  | keys (m : KeyMsg) (tag : Option Nat)
  deriving DecidableEq, Repr

/-- The host bridge. -/
structure Hbr where
  /-- The near sides: 0 the host bridge's, 1 and 2 half A's and half B's of the crossing. -/
  sides : KMap Side := []
  /-- The last accepted TSEQ of each tunnel slot (MRAM, R230). -/
  tseq : KMap Nat := []
  /-- Spindle second of the last TUNNEL_REJECT record of a slot and of the last HOST_DENY record of a window. -/
  rejAt : KMap Nat := []
  denyAt : KMap Nat := []
  /-- The reply datagram to the last accepted request (R232). -/
  reply : Option TunMsg := none
  /-- Application DDR5 behind the windows, and the LPDDR5 of each half (0 A, 1 B); an unlisted byte reads 0. -/
  ddr : Mem := []
  lp : KMap Mem := []
  /-- The module's own writes to a locked line, deferred to the end of the sequence (R242). -/
  late : List (Nat × Byte) := []
  /-- Fabric epoch changes that wait for items of the older epoch (R177), oldest first. -/
  waiting : List FabChange := []
  deriving DecidableEq, Repr

/-- The RTC epoch (R308). -/
structure Epoch where
  valid : Bool := false
  tick : Nat := 0
  tai : Nat := 0
  qual : Nat := 0
  drift : Int := 0
  deriving DecidableEq, Repr

/-- The timebase: spindle, servo, PTP, PPS, RTC. -/
structure Tb where
  /-- The spindle: TAI ns, fraction in 2^−32 ns, and the increment in force (8.32 fixed point). -/
  ns : Nat := 0
  frac : Nat := 0
  inc : Nat := 0x0280000000
  /-- TB_INC_NS was written: the pair applies in the next tick (R255). -/
  incNew : Bool := false
  /-- The part of the slew below 2^−32 ns that has not entered the fraction yet, in 10^−7 × 2^−32 ns; and what has been gained (or, below 0,
  lost) and is not yet counted off TB_ADJREM, in 2^−32 ns. -/
  slewAcc : Nat := 0
  slewNs : Int := 0
  /-- TB_ADJREM as a signed number. -/
  adjRem : Int := 0
  /-- The time-quality code (TB_QUAL.QUAL); the replicas of the other domains hold the same count as the spindle (R25), and `ns`
  is theirs while NET does not run (R274). -/
  q : Nat := 0
  /-- The host wrote the increment pair since the servo's last update (R259). -/
  hostInc : Bool := false
  /-- The host shadow of TB_NOW_HI and TB_NOW_FR. -/
  shHi : Nat := 0
  shFr : Nat := 0
  /-- Servo: run of in-range offsets, run of out-of-range offsets, last offset. -/
  lockRun : Nat := 0
  lockOmit : Bool := false
  lossRun : Nat := 0
  lastOff : Option Int := none
  /-- Increments at the Syncs of the last 64 s in LOCKED, newest first. -/
  incHist : List Nat := []
  /-- Selected master: identity, steps removed, port; mean path delay; currentUtcOffset it marks valid; its leap flags. -/
  gmid : Nat := 0
  steps : Nat := 0xFF
  port : Nat := 0xFF
  mpd : Nat := 0
  ptpUtc : Option Int := none
  ptpLeap : Nat := 0
  /-- The last Announce message of each port. -/
  ann : KMap Announce := []
  /-- TAI − UTC last saved in MRAM. -/
  utcSaved : Int := 0
  /-- The spindle second at which TAI − UTC last changed by a leap second, and by how much (R314). -/
  lastLeap : Option (Nat × Int) := none
  /-- Spindle time at which the quality took its code; the code held before NET left RUN. -/
  qSince : Nat := 0
  qHeld : Nat := 0
  /-- PPS_IN: stamp of the last accepted edge, of the one before, and the frozen high half. -/
  ppsIn : Option Nat := none
  ppsFrozen : Option Nat := none
  ppsSet : Bool := false
  /-- The spindle time until which PPS_OUT is high (R290). -/
  ppsOut : Nat := 0
  /-- A TIME_SET in mode AT_PPS that waits for its edge: (tag, tai, time of execution). -/
  setPps : Option (Nat × Nat × Nat) := none
  /-- The RTC count and its shadows (host, supervisor), frozen while `some`. -/
  rtc : Nat := 0
  rtcHost : Option Nat := none
  rtcSup : Option Nat := none
  /-- The last word the supervisor read from the RTC. -/
  supRead : Nat := 0
  /-- The RTC epoch of R303 and R308. -/
  rtcEpoch : Epoch := {}
  /-- RTC_OPSEC as last saved in MRAM (R311). -/
  opsecSaved : Nat := 0
  /-- The step notice that each domain with a replica holds: the signed step (R265). -/
  stepNotes : KMap Int := []
  /-- The owners' side of the compare units: the fires delivered and not yet taken (R280). -/
  fires : List Nat := []
  deriving DecidableEq, Repr

/-- The radio domain. -/
structure Radio where
  /-- Every channel of the plan is bound (no grid mismatch, section 0x03 present). -/
  grid : Bool := false
  /-- Failed engines (engine index), mapped out at every later start (R336). -/
  failed : List Nat := []
  /-- Engines that failed with no spare left for their slot (R338, R340). -/
  dead : List Nat := []
  /-- The spare engines bound to slots: (cluster, engine 32 or 33) ↦ slot, keyed by engine index. -/
  bound : KMap Nat := []
  /-- Consecutive failed calibrations of each chain. -/
  calBad : KMap Nat := []
  pend : List TxReq := []
  /-- Identities given to transmit requests so far. -/
  nextId : Nat := 0
  air : List Carrier := []
  /-- Requests that have completed and whose senders have not yet been told: (id, result), newest first. -/
  ended : List (Nat × TxResult) := []
  /-- Drain: start and horizon. -/
  drainAt : Nat := 0
  horizon : Nat := 0
  /-- A calibration is wanted after a settle or a restart; CAL_NOW's tag waits for the end of a calibration. -/
  calWant : Bool := false
  calTag : Option Nat := none
  lastCal : Nat := 0
  /-- Start of the calibration in progress (R355). -/
  calAt : Nat := 0
  /-- Start of the running period of CALPER. -/
  calFrom : Nat := 0
  /-- Carrier time by channel and minute: (channel, minute, µs). -/
  used : List (Nat × Nat × Nat) := []
  /-- Bands that are below 10 % of their budget. -/
  low : List Nat := []
  /-- Strength of the last frame received on a channel, dBm + 150. -/
  rssi : KMap Nat := []
  /-- Receive chain 0 is blanked; both chains are blanked (settle). -/
  blank0 : Bool := false
  blankAll : Bool := false
  /-- When the engine of a channel receives on it again after a carrier of its own (R329). -/
  deaf : KMap Nat := []
  deriving DecidableEq, Repr

/-- One log in MRAM (Table REC-3). Firsts and ring hold their records oldest first. -/
structure Log where
  defd : Bool := true
  cal : Bool := false
  auth : Bool := false
  firstsCap : Nat := 1024
  ringCap : Nat := 65536
  coalw : Nat := 0
  seq : Nat := 0
  firsts : List Rec := []
  ring : List Rec := []
  ccnt : Nat := 0
  areas : Nat := 33
  /-- Areas for which LOG_CRC_ERROR has been appended since the start (R827). -/
  crcSeen : List Nat := []
  /-- Records stored with a failing CRC, by SEQ (R827). -/
  bad : List Nat := []
  deriving DecidableEq, Repr

/-- An entry of the coalescing table (R842). -/
structure Coal where
  log : Nat
  code : Nat
  source : Nat
  par0 : Nat
  count : Nat
  stop : Nat
  last : Rec
  deriving DecidableEq, Repr

/-- The event recorder and the archive. -/
structure Recs where
  logs : KMap Log := []
  ingress : List Posted := []
  lane : List Posted := []
  /-- Events lost in the lane: count, and newest SEQ of L0 at the first loss. -/
  laneLost : Nat × Nat := (0, 0)
  /-- Records refused: count, newest SEQ of the log at the first loss, and producing domain of the first, by log; count and SEQ by
  producing domain. -/
  lostLog : KMap (Nat × Nat × Nat) := []
  lostDom : KMap (Nat × Nat) := []
  coal : List Coal := []
  /-- Saved at step 4 of Table IF-5 (R841). -/
  saved : List Posted := []
  deriving DecidableEq, Repr

/-- An archive extent. -/
structure Extent where
  no : Nat
  cls : Nat
  tier : Nat
  stream : Nat
  ns : Nat
  tfirst : Nat
  tlast : Nat
  chunks : Nat
  isSealed : Bool
  failedNs : Bool
  /-- NCH, RATE, CONFREV and KEYVER of its header (Table REC-8). -/
  nch : Nat
  rate : Nat
  confrev : Nat
  keyver : Nat
  /-- What chunks 1 on hold. -/
  data : List (List ArcItem)
  deriving DecidableEq, Repr

/-- The archive writer (14_records_archive.md). -/
structure Arc where
  /-- The root port is in reset: the level of PERST_N on J2 (R12). -/
  portRst : Bool := true
  /-- Extents, oldest first, and the last EXTNO given. -/
  extents : List Extent := []
  extno : Nat := 0
  /-- The chunks on the shelf, as written, by EXTNO × 64 + chunk number (R858, R859). -/
  shelf : KMap (List Byte) := []
  /-- Staged and not yet written. -/
  staged : List ArcItem := []
  /-- Newest sample time accepted for each subscription. -/
  lastT : KMap Nat := []
  /-- Shedding class 0 (R866). -/
  shed : Bool := false
  /-- Subscriptions with an ARC_GAP that no accepted sample has ended. -/
  gapSubs : List Nat := []
  /-- Class 0 samples accepted of the last 132 s. -/
  recent : List ArcItem := []
  /-- Bytes that entered staging in the running second, and the second; the capacity of the shelf. -/
  inBytes : Nat := 0
  inSec : Nat := 0
  total : Nat := 0
  nsFailed : List Nat := []
  nsSeen : List Nat := []
  dist : List DistWin := []
  did : Nat := 0
  gaps : Nat := 0
  /-- When the chunks of the last second were written, newest first, on the always-on clock (R864). -/
  writes : List Nat := []
  /-- Subscriptions whose open extent a start has ended, with the time of the last sample kept, until the first sample of the new start
  (R872). -/
  resume : KMap Nat := []
  free : Nat := 0
  stopped : Bool := false
  deriving DecidableEq, Repr

end Sys2Proof.Machine
end

