-- ==== Sys2Proof/Machine/StateB.lean ====
section
/-! DEFINITION. The parts of the state that the chapters on switching, protection and the brace give it. Every field's value
in `{}` is its value after reset. -/
namespace Sys2Proof.Machine

/-! ### Switching (10_process_bus.md) -/

/-- A frame leaving a port: the queue that takes it, its tag, addresses, hop limit, and the redundancy trailer or tag
(sequence number, LAN) a box adds. -/
structure Egress where
  port : Nat
  queue : Nat
  tag : Option (Nat × Nat)
  src : Nat
  dst : Nat
  hop : Nat
  rct : Option (Nat × Nat)
  deriving DecidableEq, Repr

/-- A flush sweep that runs: VID (0 all), the command to answer, the entries it has still to remove, and how many it has
removed. -/
structure Sweep where
  vid : Nat
  tag : Option Nat
  todo : List Nat
  deriving DecidableEq, Repr

/-- A copy of a sample held under R614, with its frame's result when that has ended. -/
structure HeldCopy where
  asdu : SvAsdu
  res : Option (Nat × List Byte)
  deriving DecidableEq, Repr

/-- A sample delivered and without a verdict: its frame, SmpCnt, delivery number, stamp, the last sample before it, which
kennels took it, and its held second copy. -/
structure SvCopy where
  frame : Nat
  smp : Nat
  deliv : Nat
  stamp : Nat
  prev : Option Nat
  tookA : Bool
  tookB : Bool
  held : Option HeldCopy
  deriving DecidableEq, Repr

/-- An SV subscription at work (R609 to R621, Table PBUS-9). -/
structure SvRun where
  last : Option Nat := none
  deliv : Nat := 0
  /-- Samples without a verdict. -/
  wait : List SvCopy := []
  /-- SmpCnt of the samples of the last half second that have received CHECKED, newest first (R615). -/
  done : List Nat := []
  /-- STATE is 2. -/
  lost : Bool := false
  /-- A CHECKED verdict has come since the subscription took effect. -/
  seen : Bool := false
  /-- Spindle time of the last CHECKED verdict, or of the taking effect. -/
  since : Nat := 0
  lastT : Nat := 0
  nDeliv : Nat := 0
  nChk : Nat := 0
  nFail : Nat := 0
  nDup : Nat := 0
  nMiss : Nat := 0
  nRej : Nat := 0
  nAuth : Nat := 0
  /-- Spindle time of the last SV_AUTH_FAIL record; skipping under R619 has begun. -/
  authAt : Option Nat := none
  skip : Bool := false
  deriving DecidableEq, Repr

/-- A GOOSE subscription at work. -/
structure GoRun where
  /-- stNum and sqNum of the last accepted message. -/
  last : Option (Nat × Nat) := none
  lost : Bool := false
  ttl : Nat := 0
  since : Nat := 0
  lastT : Nat := 0
  nDeliv : Nat := 0
  nSt : Nat := 0
  nDisc : Nat := 0
  nDup : Nat := 0
  nLoss : Nat := 0
  nRej : Nat := 0
  nAuth : Nat := 0
  skip : Bool := false
  /-- Booleans of the last accepted message. -/
  vals : List Bool := []
  deriving DecidableEq, Repr

/-- The forwarding tables and the subscription stage. Tables 0–2 are keyed by cursor, table 3 by next-hop index. -/
structure Fwd where
  mac : KMap MacE := []
  mc : KMap McE := []
  pfx : KMap PfxE := []
  nh : KMap NhE := []
  /-- Shadow copies of R597. -/
  shMac : KMap MacE := []
  shMc : KMap McE := []
  shPfx : KMap PfxE := []
  shNh : KMap NhE := []
  /-- Filter counters, keyed by length × 4096 + index, and prefixes held of each length. -/
  filt : KMap Nat := []
  lens : KMap Nat := []
  /-- Flush generation of each port, running sweeps, flushes that wait. -/
  gen : KMap Nat := []
  sweeps : KMap Sweep := []
  waiting : List (Nat × Nat × Option Nat) := []
  /-- Duplicate table of each box, oldest first: (source MAC, sequence number, time). -/
  dup : KMap (List (Nat × Nat × Nat)) := []
  boxSeq : KMap Nat := []
  /-- Second of the last FWD_PARITY record of each table. -/
  parAt : KMap Nat := []
  /-- The copies of the last frame that left the switch. -/
  egress : List Egress := []
  sv : KMap SvRun := []
  /-- Subscriptions of the section before the last boundary whose samples still wait for a verdict (R627). -/
  svOld : KMap (SvSub × SvRun) := []
  go : KMap GoRun := []
  /-- TX_DIS of each cage (a mask of the driven-high ones). -/
  txDis : Nat := 0x3F
  deriving DecidableEq, Repr

/-! ### Protection (11_protection.md) -/

/-- A sample in a half's alignment buffer: `chk` 0 waits, 1 passed the sequence and quality check, 2 failed; `syn` is the mask
of the channels that are synthesised. -/
structure BufSmp where
  deliv : Nat
  syn : Nat
  chk : Nat
  /-- CHECKED and waiting for the half's HMAC check. -/
  hmac : Bool
  /-- A real sample that came after the pass had run on a substitute or on a failed copy, and has not been re-evaluated. -/
  late : Bool
  stamp : Nat
  chans : List (Nat × Nat)
  /-- The channels as they came, before any was replaced; empty for a synthesised sample. -/
  raw : List (Nat × Nat) := []
  deriving DecidableEq, Repr

/-- A stream in a half. -/
structure Stream where
  buf : KMap BufSmp := []
  /-- Last SmpCnt delivered. -/
  newest : Option Nat := none
  synRun : Nat := 0
  realRun : Nat := 0
  noData : Bool := false
  sync : Bool := false
  /-- Values of the last Ncyc samples, newest first (R636, R637): (SmpCnt, channels). -/
  past : List (Nat × List (Nat × Nat)) := []
  deriving DecidableEq, Repr

/-- A function instance in a half. -/
structure InstSt where
  bits : Nat := 0
  /-- The elements that are picked up, each with the sample time at which its timer started (R647). -/
  up : KMap Nat := []
  /-- Bits of the last confirmed result. -/
  conf : Nat := 0
  prov : Bool := false
  run : Nat := 0
  q : Bool := false
  /-- 0 none, 1 NO_DATA, 2 SYNC, 3 HOST. -/
  blk : Nat := 0
  lastOp : Nat := 0
  /-- Sample time at which confirmed START last rose. -/
  rise : Nat := 0
  deriving DecidableEq, Repr

/-- A gate: last output with its P, held state of a latch, and for timers the sample time of the last input change. -/
structure GateSt where
  out : Bool := false
  prov : Bool := false
  held : Bool := false
  inp : Bool := false
  since : Nat := 0
  deriving DecidableEq, Repr

/-- A logical output in a half: value and P of the last vector, the last confirmed value, the end of MINON. -/
structure OutSt where
  val : Bool := false
  prov : Bool := false
  conf : Bool := false
  minEnd : Nat := 0
  deriving DecidableEq, Repr

/-- A pass whose results may still change: its SmpCnt, sample time and start, what each instance computed on it, the resulting bits
with their P, the state of instances, gates and outputs before it, whether its provisional results have expired, and the instances whose records of it
are committed. -/
structure PassRec where
  k : Nat
  tk : Nat
  start : Nat
  raw : List InstOut
  res : List (Nat × Nat × Bool)
  insts : KMap InstSt
  gates : KMap GateSt
  outs : KMap OutSt
  expired : Bool
  told : List Nat
  rst : Bool
  deriving DecidableEq, Repr

/-- A GOOSE message as the lead sends it: what section 0x08 gives its publication, stNum, sqNum, timeAllowedToLive (ms), simulation, ndsCom,
test, the members' values, and whether an IEC 62351-6 tag follows (R686, R687, R689). -/
structure PubMsg where
  dmac : Nat
  appid : Nat
  vid : Nat
  gocb : List Byte
  datset : List Byte
  confrev : Nat
  st : Nat
  sq : Nat
  ttl : Nat
  sim : Bool
  ndsCom : Bool
  test : Bool
  vals : List Bool
  tagged : Bool
  deriving DecidableEq, Repr

/-- A publication: stNum, sqNum, time of the next message and its offset from the change (ms), last member values, whether it
is blocked or has been reported unauthenticated (R689), and the timeAllowedToLive (ms) of the last message. -/
structure PubSt where
  st : Nat := 1
  sq : Nat := 0
  next : Nat := 0
  intv : Nat := 0
  vals : List Bool := []
  blocked : Bool := false
  unauth : Bool := false
  ttl : Nat := 0
  started : Bool := false
  /-- The last message sent. -/
  msg : Option PubMsg := none
  deriving DecidableEq, Repr

/-- FLOC of a feeder: the trip's t_f and spindle time, d_Z, the reports, the last result body, its stage. -/
structure FlocSt where
  tf : Nat := 0
  trip : Option Nat := none
  dz : Option Nat := none
  reps : List (Nat × Nat) := []
  last : Option (List Byte) := none
  deriving DecidableEq, Repr

/-- One protection half. -/
structure Half where
  /-- SmpCnt of the next pass, its expected sample time, the pass that is running (SmpCnt, start). -/
  next : Option Nat := none
  tk : Nat := 0
  running : Option (Nat × Nat) := none
  streams : KMap Stream := []
  insts : KMap InstSt := []
  hist : List PassRec := []
  gates : KMap GateSt := []
  outs : KMap OutSt := []
  pubs : KMap PubSt := []
  floc : KMap FlocSt := []
  /-- Confirmed feeder states as this half last formed them: 0 OPEN, 1 CLOSED, 2 RECLOSE_PENDING. -/
  feeders : KMap Nat := []
  /-- The last forecast of each feeder: close time and shot (R677). -/
  fcst : KMap (Nat × Nat) := []
  nseq : Nat := 0
  /-- Confirmed bits of each instance as records last told them. -/
  told : KMap Nat := []
  /-- SmpCnt of the pass that PROT_RESET waits for, 0xFFFF for the first one; signal 0x1800 in the present pass; instances the host blocks. -/
  rst : Option Nat := none
  rstNow : Bool := false
  hostBlk : List Nat := []
  passes : Nat := 0
  maxPass : Nat := 0
  /-- The passes of the last second: end and length in µs. -/
  durs : List (Nat × Nat) := []
  nSynth : Nat := 0
  nExp : Nat := 0
  nRedrop : Nat := 0
  ovrAt : Option Nat := none
  /-- Last output vector (values, P, confirmed), the GOOSE CRC and the second of its t_k. -/
  vec : Nat := 0
  vecP : Nat := 0
  vecC : Nat := 0
  vecK : Nat := 0
  gcrc : Nat := 0
  vecSec : Nat := 0
  /-- Spindle time at which the vector was formed, and the impedance results of its pass by feeder. -/
  vecAt : Nat := 0
  imp : List (Nat × Option Nat) := []
  /-- The STATE packet under way to the other half (R708). -/
  stOut : Option StatePkt := none
  /-- Spare cores taken into use: failed core → spare. -/
  cores : KMap Nat := []
  deriving DecidableEq, Repr

/-- A backup overcurrent element; `since` is on the always-on clock. -/
structure BkSt where
  picked : Bool := false
  req : Bool := false
  ch : Nat := 0
  since : Nat := 0
  deriving DecidableEq, Repr

/-- Operations counted on the driver lines and the pending moves (MRAM, R696). -/
structure Wear where
  /-- Tenths of the rated operations already marked on the tally. -/
  mark : KMap Nat := []
  limit : List Nat := []
  /-- Spindle time since which a logical output has been confirmed low with nothing pre-armed. -/
  quiet : KMap Nat := []
  deriving DecidableEq, Repr

/-! ### Brace (12_brace.md) -/

/-- A planned move the host asked for: 0 BRC_TRANSFER, 1 BRC_RESYNC of the lead, 2 PARTNER_YIELD. -/
structure BrcReq where
  kind : Nat
  tag : Nat
  at_ : Nat
  half : Nat
  deriving DecidableEq, Repr

/-- What the partner last reported, and the frame counters (R749, R750). -/
structure Partner where
  role : Nat := 0
  st : Nat := 0
  cfgseq : Nat := 0
  setdig : Nat := 0
  bilver : Nat := 0
  smp : Nat := 0
  vec : Nat := 0
  vecp : Nat := 0
  pfmax : Nat := 1
  uid : Nat := 0
  /-- A valid frame has come since the start; time of the last one; PARTNER_LOST has been declared. -/
  seen : Bool := false
  at_ : Nat := 0
  lost : Bool := true
  /-- Last TXSEQ accepted, last TXSEQ sent, and in MRAM the ceiling and the saved value with its PUID. -/
  rxSeq : Nat := 0
  txSeq : Nat := 0
  ceil : Nat := 0
  saved : Nat := 0
  puid : Nat := 0
  foreignAt : Option Nat := none
  conflict : Bool := false
  /-- The time of the last save on the always-on clock (R750). -/
  savedUp : Nat := 0
  /-- CFGEQ and BILEQ as last recorded, and the last frame sent. -/
  eq : Option (Bool × Bool) := none
  sent : Option PartnerFrame := none
  deriving DecidableEq, Repr

/-- The brace: what BRC_STAT does not hold of it. Halves are 0 (A) and 1 (B). -/
structure Brace where
  /-- Declared failed and not yet back in IN_STEP (R725). -/
  failed : List Nat := []
  /-- Output → consecutive disagreeing passes (R716); outputs that disagreed on the last compared pass. -/
  disRun : KMap Nat := []
  disMask : Nat := 0
  /-- Consecutive passes with a late or missing heel VEC. -/
  lateRun : Nat := 0
  /-- A run of disagreement has been recorded (R717). -/
  inRun : Bool := false
  /-- Last agreed values of the outputs, and for a split the consecutive agreeing passes. -/
  agreed : Nat := 0
  agreeRun : Nat := 0
  /-- A confirmed TRIP change of the lead waits for agreement on this SmpCnt: (k, outputs, new vector). -/
  await : Option (Nat × Nat × Nat) := none
  /-- The VEC packets that have arrived, by sending half, newest first; the arrival time of the newest. -/
  vecs : KMap (List VecPkt) := []
  arr : KMap (Nat × Nat) := []
  /-- The pass last compared (SmpCnt, second), the pass last counted late, and when the run of disagreement began (always-on clock). -/
  cmpK : Option (Nat × Nat) := none
  lateK : Option Nat := none
  runAt : Nat := 0
  /-- Heel rejoined after R718 at this time of the always-on clock; first vectors still to agree after a rejoin; failed rejoins in a row. -/
  rejoined : Option Nat := none
  dis718 : Bool := false
  first : Nat := 0
  tries : Nat := 0
  held : List Nat := []
  lastXfer : Nat := 0
  xcause : Nat := 0
  req : Option BrcReq := none
  /-- Handover: target (heel), the SmpCnt of k_w, spindle time at which the phase began. -/
  ho : Option (Nat × Nat × Nat) := none
  /-- Leadership has been granted once (R705); time of the last start and, while the tie sample is due, of the rise of LSH_OUT, both on the
  always-on clock. -/
  granted : Bool := false
  startAt : Nat := 0
  lshLow : Option Nat := none
  tie : Option Nat := none
  /-- Suite L: second of the last differing result of R766 and of each half's last (R767). -/
  luxDiff : Option Nat := none
  partner : Partner := {}
  deriving DecidableEq, Repr

end Sys2Proof.Machine
end

