-- ==== Sys2Proof/Machine/StateC.lean ====
section
/-! DEFINITION. The parts of the state that the chapters on metering, keys, updates and the configuration image give it.
Every field's value in `{}` is its value after reset. -/
namespace Sys2Proof.Machine

/-! ### Metering (13_metering.md) -/

/-- A save slot (R803). -/
structure SaveSlot where
  acc : KMap Nat
  at_ : Nat
  qual : Nat
  opsec : Nat
  pcyc : Nat
  power : KMap Int
  seq : Nat
  deriving DecidableEq, Repr

/-- The values of a meter point over an interval, as the commands return them; `supra` holds the bands of each channel. -/
structure MtrVals where
  stamp : Nat := 0
  flags : Nat := 0
  freq : Nat := 0
  rms : List Nat := []
  p : List Int := []
  q : List Int := []
  thd : List Nat := []
  harm : List (List Nat) := []
  deriving DecidableEq, Repr

/-- Squares summed towards an aggregated value: how many values, flags so far, and the sums. -/
structure MtrAgg where
  n : Nat := 0
  flags : Nat := 0
  freq : Nat := 0
  rms : List Nat := []
  p : List Int := []
  q : List Int := []
  thd : List Nat := []
  harm : List (List Nat) := []
  deriving DecidableEq, Repr

/-- Bands of one channel: values and their sums of squares. -/
structure SupAgg where
  n : Nat := 0
  flags : Nat := 0
  sq : List Nat := []
  deriving DecidableEq, Repr

/-- A calibration measurement that runs (R811). -/
structure Meas where
  tag : Nat
  ch : Nat
  mode : Nat
  refch : Nat
  windows : Nat
  seen : Nat := 0
  got : List MeasWin := []
  deriving DecidableEq, Repr

/-- The metering back end and front end. Accumulators are keyed circuit × 28 + phase × 7 + index. -/
structure Meter where
  acc : KMap Nat := []
  slots : KMap SaveSlot := []
  lastSave : Nat := 0
  /-- A save is due at the next window end, for these commands. -/
  saveTags : List Nat := []
  /-- End of the last window. -/
  lastWin : Nat := 0
  /-- The end of the last window on the always-on clock, where the next begins (R791); none before the first. -/
  winUp : Option Nat := none
  /-- The frequencies of the locked windows of the running 10 s of the spindle, and the mean of the last 10 s in mHz (R790). -/
  freqs : List Nat := []
  freq10 : Nat := 0
  /-- The last 10 min of UTC that have ended, counted from its epoch (Table MTR-3). -/
  intAt : Nat := 0
  /-- The last 200 ms of the spindle whose bands were formed, counted from its epoch (R796). -/
  supAt : Nat := 0
  /-- When a channel's bit of MTR_RUN last changed, on the always-on clock (R783). -/
  modAt : KMap Nat := []
  /-- The last windows of each circuit, newest first, down to one second: how long, and the total active energy in mWh. -/
  recent : KMap (List (Nat × Int)) := []
  /-- The slot restored at the start of the back end, until the first valid window of each circuit. -/
  restored : Option SaveSlot := none
  gapDue : List Nat := []
  /-- Runs of invalid windows: circuit ↦ (start, ns so far). -/
  inval : KMap (Nat × Nat) := []
  /-- Mean total active power of each circuit over the last second. -/
  power : KMap Int := []
  /-- Trial constants (R179): channel ↦ OFS, GAIN, DELAY. -/
  trial : KMap ChanCal := []
  meas : Option Meas := none
  /-- Values by interval (0 window, 1 3 s, 2 10 min, 3 2 h) × 8 + point, and what the running intervals have summed. -/
  vals : KMap MtrVals := []
  agg : KMap MtrAgg := []
  /-- Bands by interval × 32 + channel, their sums, and the stamps. -/
  bands : KMap (Nat × Nat × List Nat) := []
  supra : KMap SupAgg := []
  /-- Total accumulators of each circuit at the last 10 min boundary. -/
  base : KMap Nat := []
  deriving DecidableEq, Repr

/-! ### Keys (15_security.md) -/

/-- A chuck slot (Table KEY-3); `latched` marks a slot written while the latch is set (R910). -/
structure KeySlot where
  usage : Nat
  alg : Nat
  dmask : Nat
  uses : Nat
  exprst : Bool
  ver : Nat
  key : Nat
  deriving DecidableEq, Repr

/-- A crypto message: identity, class, pieces left and in all, whether it holds a context, its slot, its epoch, and how it is to end
at the next piece boundary: 0 not at all, 1 KEY_BLOCKED, 2 KEY_EPOCH. -/
structure CryJob where
  id : Nat
  rt : Bool
  pieces : Nat
  total : Nat
  started : Bool
  slot : Option Nat
  epoch : Nat
  mark : Nat := 0
  deriving DecidableEq, Repr

/-- A shared crypto engine: its messages in order of service within each class, and the one whose piece runs. -/
structure CryEng where
  rt : List CryJob := []
  bulk : List CryJob := []
  cur : Option CryJob := none
  deriving DecidableEq, Repr

/-- How a crypto message ended: 0 done, 1 KEY_BLOCKED, 2 KEY_EPOCH. -/
structure CryEnd where
  id : Nat
  res : Nat
  deriving DecidableEq, Repr

/-- The key unit, the chuck and the shared engines. -/
structure Keys where
  slots : KMap KeySlot := []
  /-- Wrapped copies in MRAM with the generation they were wrapped under (R891). -/
  store : KMap (Nat × KeySlot) := []
  gen : Nat := 0
  /-- Owner record (values of slots 0 and 1) and the update counter. -/
  owner : KMap Nat := []
  ucnt : Nat := 0
  latch : Bool := false
  /-- The key unit holds the burl, the KEK and the store key. -/
  burl : Bool := false
  kek : Bool := false
  tampLow : Bool := false
  zerLow : Bool := false
  /-- Slots whose older value jobs of the older epoch still use (R914). -/
  old : KMap KeySlot := []
  engs : KMap CryEng := []
  nextJob : Nat := 0
  ended : List CryEnd := []
  /-- Helper data copies that fail their CRC: MRAM, CFG_A, CFG_B. -/
  helperBad : List Nat := []
  /-- The last request's refusal, reported as KEY_BLOCKED: (requester's DMASK bit, slot). -/
  refused : List (Nat × Nat) := []
  deriving DecidableEq, Repr

/-! ### Configuration devices, images, billets (03_startup_configuration.md, 16_updates.md) -/

/-- The fields of a faceplate copy (Table BOOT-4); its reserved bytes are as the table gives them. -/
structure Plate where
  magic : Nat
  fpver : Nat
  role : Nat
  seq : Nat
  bilOff : Nat
  bilLen : Nat
  cfgOff : Nat
  cfgLen : Nat
  hlpOff : Nat
  hlpLen : Nat
  crc : Nat
  cstate : Nat
  bstate : Nat
  deriving DecidableEq, Repr

/-- A configuration device: its faceplate copies (none: the sector is erased), what the bytes of its slots spell as a billet and an
image, the bytes themselves (an unlisted byte reads 0xFF), whether it holds helper data, and whether the loader has withdrawn it
since entry. -/
structure CfgDev where
  p0 : Option Plate := none
  p1 : Option Plate := none
  billet : Option Billet := none
  image : Option Image := none
  flash : Mem := []
  helper : Bool := true
  erased : Bool := false
  /-- The 64 KiB sectors whose write has not read back, so that their bytes are not known, and the number of that write. -/
  unk : List Nat := []
  gen : Nat := 0
  deriving DecidableEq, Repr

/-- The application of an image that runs (R185, R191 to R198). -/
structure Apply where
  /-- 0 a new image, 1 back to the image before it (R198), 2 back after a failed step (R194). -/
  kind : Nat := 0
  /-- 1 LIVE, 2 AT_RESTART; seconds of probation; the command's TAG. -/
  mode : Nat
  prob : Nat := 0
  tag : Nat
  /-- The image on its way into force, with the contents that the module takes from it, and as it was staged. -/
  img : Image
  raw : Image
  /-- 1 flash write, 2 step 6 waits for its handover, 3 every step done. -/
  phase : Nat := 1
  /-- What the directory of `img` is compared with; the sections whose runtime edits the apply discards. -/
  cmp : Option Image := none
  edits : List Nat := []
  /-- The image and the sections in force before, and SUP_CFGSTAT.DEF then. -/
  frm : Option (Image × Secs) := none
  def0 : Nat := 0
  /-- Section of the failed step. -/
  sec : Nat := 0
  deriving DecidableEq, Repr

/-- Start-up and the running configuration. -/
structure Cfg where
  devA : CfgDev := {}
  devB : CfgDev := {}
  /-- The running image and the sections in force (after R166, R167 and edits). -/
  image : Option Image := none
  secs : Secs := {}
  /-- The device that holds the running image: 0 CFG_A, 1 CFG_B. -/
  dev : Nat := 0
  /-- The sections that runtime edits have changed, one entry an edit (R179), and how many were last discarded. -/
  edited : List Nat := []
  discard : Nat := 0
  /-- BAR4 window 7 maps: 0 nothing, 1 the configuration buffer, 2 and 3 the billet staging pages. -/
  win7 : Nat := 0
  apply : Option Apply := none
  /-- Probation: its end; the image, the sections and SUP_CFGSTAT.DEF before it. -/
  probEnd : Option Nat := none
  before : Option (Image × Secs) := none
  beforeDef : Nat := 0
  lastStat : Nat := 0
  /-- The SmpCnt at which the settings in force started: the sample-count epoch of Table BOOT-8 (the roster epoch is LNT_STAT.GEN). -/
  sampleEpoch : Nat := 0
  /-- Steps of Table BOOT-9 whose moment has not come, and the sections that they will put in force. -/
  due : List Nat := []
  next : Secs := {}
  /-- Section 0x03 as it was before step 8, and the channels whose exchange in progress still runs under it. -/
  old03 : Option (Sec03 × List Nat) := none
  deriving DecidableEq, Repr

/-- A campaign of node billets. -/
structure Camp where
  no : Nat := 0
  mode : Nat := 0
  group : Nat := 0
  ttl : Nat := 0
  chgap : Nat := 1
  rehowl : Nat := 1
  rounds : Nat := 1
  nackwin : Nat := 60
  phase : Nat := 0
  round : Nat := 0
  members : List Nat := []
  /-- The billet that the campaign distributes. -/
  nb : Option NodeBillet := none
  /-- Node ↦ STATE of its last answer and its missing chunks; nodes marked FAILED; nodes asked by unicast, and those of them that have
  answered; nodes that have answered the last query. -/
  st : KMap (Nat × List (Nat × Nat)) := []
  failed : List Nat := []
  asked : List Nat := []
  uni : List Nat := []
  answered : List Nat := []
  /-- Howls still to send in this phase: opcode and chunk index. -/
  todo : List (Nat × Nat) := []
  /-- The howl window of the last slot. -/
  slot : Option Nat := none
  act : Nat := 0
  acted : Bool := false
  /-- When the last query was sent, by the always-on clock. -/
  queryAt : Nat := 0
  deriving DecidableEq, Repr

/-- Billets and campaigns. -/
structure Upd where
  staged : Option Billet := none
  /-- TRIAL seconds of the last commit (MRAM), and the end of the trial. -/
  trial : Nat := 0
  trialEnd : Option Nat := none
  lastStat : Nat := 0
  run : Option Billet := none
  /-- The loaded node billet, and the list that NB_ADDNODES builds. -/
  nb : Option NodeBillet := none
  list : List Nat := []
  camp : Camp := {}
  running : Bool := false
  campNo : Nat := 0
  /-- The recovery buffer of 16 KiB; an unlisted byte reads 0. -/
  rbuf : Mem := []
  deriving DecidableEq, Repr

end Sys2Proof.Machine
end

