-- ==== Sys2Proof/Machine/StateD.lean ====
section
/-! DEFINITION. The parts of the state that the chapters on the air protocol, the lantern network and lighting give it. Every
field's value in `{}` is its value after reset. -/
namespace Sys2Proof.Machine

/-- Who queued a downlink frame: the host (its TAG), the module for R398, R417 and the like, R482 (kind: 0 CHANS, 1 ROUTE,
2 NEIGH, 3 NETCFG, 4 GKEY, 5 SNIFF), a lighting table (its key), an override, a traffic wave, a release of a feeder, the query of R542, a
campaign, or the unicast copy of a howl (R475). -/
inductive DlSrc where
  | host (tag : Nat)
  | module
  | cfg (kind : Nat)
  | table (key : Nat)
  | override (ovid : Nat)
  | wave
  | release (feeder : Nat)
  | query
  | campaign
  | echo (msgid : Nat)
  deriving DecidableEq, Repr

/-- How the module tries to reach a node with a frame: a receiving node, a synced attempt, a train, or after the node's own
frame (R387). -/
inductive DlMode where
  | rxon | sync | train | window
  deriving DecidableEq, Repr

/-- What a frame waits for: nothing, its transmit request, the end of its transmission, the ACK, the RESP (R457), or the
retry of R491. -/
inductive DlStage where
  | idle | asked | air | ack | resp | retry
  deriving DecidableEq, Repr

/-- A downlink frame in a node's queue. -/
structure DlFrame where
  src : DlSrc
  /-- A CMD frame (Table AIR-13); otherwise DATA. -/
  cmd : Bool
  op : Nat
  body : List Byte
  htag : Nat := 0
  /-- 0 a PVER command (R965), 1 a frame of R482, 2 any other. -/
  prio : Nat := 2
  deadline : Option Nat := none
  /-- A wave frame: earliest and latest start (R527). -/
  window : Option (Nat × Nat) := none
  stage : DlStage := .idle
  mode : DlMode := .rxon
  /-- Transmit request; SEQ and FCNT of the frame once it has been formed (R384); FP as first sent. -/
  req : Option Nat := none
  seq : Option Nat := none
  fcnt : Nat := 0
  fp : Bool := false
  /-- PVER of the frame once it has been formed. -/
  ver : Nat := 1
  /-- The PSDU as first sent, which every repeat has (R384). -/
  sent : List Byte := []
  tries : Nat := 0
  trains : Nat := 0
  /-- Transmissions to a receiving node allowed (R385). -/
  limit : Nat := 4
  /-- Synced attempts that failed; busy CCAs in a row; R361 has been used; the next attempt goes to the alternate channel. -/
  failed : Nat := 0
  busy : Nat := 0
  afa : Bool := false
  altNext : Bool := false
  aired : Bool := false
  chan : Nat := 0
  /-- End of the last transmission; time of the retry of R491; the end-to-end repeat of R458 has been made. -/
  stop : Nat := 0
  again : Nat := 0
  repeated : Bool := false
  deriving DecidableEq, Repr

/-- What the lighting engine keeps for a lantern. -/
structure NodeLux where
  /-- Active fault classes (a mask), whether a raise was suppressed (R541), and whether the query of R542 is unanswered. -/
  faults : Nat := 0
  suppr : Bool := false
  asked : Bool := false
  /-- Energy (R557): baseline EWH, total of the lighting day, mean power, burning hours, time of the last report. -/
  base : Option Nat := none
  day : Nat := 0
  power : Nat := 0
  burn : Nat := 0
  last : Nat := 0
  /-- The wave that holds the lantern: LWAVE, end of the hold (R528). -/
  wave : Option (Nat × Nat) := none
  /-- What the node has acknowledged of its tables: key ↦ BODY. -/
  held : KMap (List Byte) := []
  deriving DecidableEq, Repr

/-- A node's link key as the lantern-table engine holds it: the master's key and VER it was derived from, and the key (R902). -/
structure LinkKey where
  master : Nat
  ver : Nat
  key : Nat
  deriving DecidableEq, Repr

/-- A node of the roster with what the module keeps for it. -/
structure Node where
  rcd : RosterRec
  /-- Channels in force at the node (R480): home, alternate, howl channel, relay channels; the receive channel is the
  alternate (R449). -/
  home : Nat
  alt : Nat
  howl : Option Nat
  rchs : List Nat
  onAlt : Bool := false
  /-- Sniff code in force (R417). -/
  tsc : Nat
  /-- Spindle time of the last contact and the offset e in µs. -/
  contact : Option Nat := none
  offs : Int := 0
  /-- From the last bark; 0 or 0xFF before any. -/
  barked : Bool := false
  rho : Nat := 0
  pvmax : Nat := 1
  boots : Nat := 0
  nbver : Nat := 0
  supply : Nat := 0xFF
  mains : Bool := false
  relay : Bool := false
  rssi : Nat := 0
  /-- Time of the last NODE_SEEN since the start. -/
  seenAt : Option Nat := none
  /-- Version the node has acknowledged in a PVER command. -/
  pver : Nat := 1
  slost : Bool := false
  unreach : Bool := false
  noRoute : Bool := false
  rekey : Bool := false
  /-- Transmit counter and last accepted counter under KEYID 0; SEQ and FCNT of the last accepted frame. -/
  tx : Nat := 0
  rx : Nat := 0
  lastRx : Option (Nat × Nat) := none
  /-- Time of the last AIR_AUTH_FAIL record (R430). -/
  authAt : Option Nat := none
  /-- Last HTAG given, and the unanswered ones with the host's TAG. -/
  htag : Nat := 0
  tags : KMap (Option Nat) := []
  q : List DlFrame := []
  /-- Configuration frames of R482 not yet acknowledged (the kinds of `DlSrc.cfg`). -/
  due : List Nat := []
  /-- Latest start under R387, and the end of the module's own ACK. -/
  rxwin : Option Nat := none
  ackEnd : Nat := 0
  /-- The held copy of the link key: the master key and VER it was derived from (R902). -/
  lkey : Option LinkKey := none
  lux : NodeLux := {}
  deriving DecidableEq, Repr

/-- A howl. -/
structure Howl where
  msgid : Nat
  /-- 0 host (with its TAG), 1 lighting, 2 campaign. -/
  origin : Nat
  tag : Nat
  scope : Nat
  group : Nat
  ttl : Nat
  deadline : Option Nat
  op : Nat
  body : List Byte
  seq : Nat
  fcnt : Nat
  /-- Channels still to send on; requests under way (identity, channel); channels sent on. -/
  todo : List Nat
  asked : List (Nat × Nat) := []
  sent : Nat := 0
  echo : Nat := 0
  hcopy : Nat := 0
  /-- End of the last module copy. -/
  stop : Nat
  deriving DecidableEq, Repr

/-- Counters in MRAM for an LN: the EUI they belong to, the ceiling of the transmit counter, the saved receive counter. -/
structure CtrRec where
  eui : Nat
  ceil : Nat := 0
  rx : Nat := 0
  deriving DecidableEq, Repr

/-- The lantern network. -/
structure Lnt where
  /-- Nodes by LN. -/
  nodes : KMap Node := []
  /-- Last SEQ the module has sent; last MSGID; MSGIDs used with the time (R466); the seen cache (R470). -/
  seq : Nat := 0
  msgid : Nat := 0
  used : List (Nat × Nat) := []
  seen : List (Nat × Nat) := []
  howls : List Howl := []
  /-- Transmit counters of group keys by KEYID, with the key value they belong to. -/
  gctr : KMap (Nat × Nat) := []
  /-- Frames of unknown nodes since the last record, and its time (R448). -/
  unkN : Nat := 0
  unkAt : Option Nat := none
  /-- Uptime of the last save of the replay counters (R428). -/
  savedUp : Option Nat := none
  /-- In MRAM: counters by LN, ceilings by KEYID. -/
  ctr : KMap CtrRec := []
  gceil : KMap (Nat × Nat) := []
  deriving DecidableEq, Repr

/-- An undervoltage summary that runs (R556). -/
structure UvSum where
  start : Nat
  n : Nat
  lost : Nat
  vmin : Nat
  vln : Nat
  first : Nat
  last : Nat
  deriving DecidableEq, Repr

/-- A feeder in the lighting engine (Table LUX-4); a lantern on no known feeder is one of its own (R540). -/
structure Feeder where
  st : Nat := 0
  inferred : Bool := false
  shot : Nat := 0
  /-- CAUSE of the last change (Table LUX-6). -/
  cause : Nat := 0
  lossAt : Option Nat := none
  closeAt : Nat := 0
  /-- When PICKUP was entered. -/
  pickAt : Nat := 0
  /-- Lanterns that await release, and how often each has been released. -/
  waiting : List Nat := []
  tries : KMap Nat := []
  /-- The batch whose frames have not all ended; batches so far; end of the last frame of a batch; its largest T_INR. -/
  batch : List Nat := []
  batches : Nat := 0
  lastEnd : Nat := 0
  tInr : Nat := 0
  released : Nat := 0
  /-- Lanterns left to their FALLBACK. -/
  left : List Nat := []
  graceAt : Nat := 0
  /-- UVOLT reports with LOST 1 while SUPPLIED or GRACE: (LN, T). -/
  lostReps : List (Nat × Nat) := []
  suppr : Nat := 0
  uv : Option UvSum := none
  deriving DecidableEq, Repr

/-- An override (R519). -/
structure Override where
  kind : Nat
  id : Nat
  level : Nat
  ramp : Nat
  stop : Option Nat
  /-- End of the HOLD last sent, and the order in which overrides came. -/
  hold : Nat
  order : Nat
  deriving DecidableEq, Repr

/-- The lighting engine. -/
structure Lux where
  /-- Last notice or forecast acted on (R38). -/
  nseq : Nat := 0
  feeders : KMap Feeder := []
  ovr : KMap Override := []
  ovid : Nat := 0
  order : Nat := 0
  /-- Lighting-table frames queued in the second `lxSec` (R516). -/
  lxSec : Nat := 0
  lxN : Nat := 0
  /-- DROPCNT of kennels 64 and 65 as last seen (R39). -/
  drops : KMap Nat := []
  /-- Suite L: the results that the lighting engine may distribute (R765 to R767), by LN (a SET and RISE table: the first date, then SET and
  RISE of each) and by feeder (the lanterns of a release batch). -/
  astro : KMap (List Nat) := []
  agreed : KMap (List Nat) := []
  deriving DecidableEq, Repr

end Sys2Proof.Machine
end

