-- ==== Sys2Proof/Machine/State.lean ====
section
/-! DEFINITION. The state of the block: the register file, what the spec gives it beside registers, and the queue of commands
that wait; and the state right after reset. -/
namespace Sys2Proof.Machine

/-- The state of the module. `regs` holds every register field that is not computed from another part of the state
(`Machine/Bus.lean` lists those); the other fields are the storage behind the registers. -/
structure State where
  /-- Commands that wait, first in, first out. -/
  pending : List Instr
  fuses : Fuses
  regs : Regs
  pwr : Pwr
  sup : Sup
  kn : KMap Kennel
  arb : Arb
  pins : Pins
  mbx : Mbx
  hbr : Hbr
  tb : Tb
  rad : Radio
  recs : Recs
  arc : Arc
  lnt : Lnt
  lux : Lux
  fwd : Fwd
  half : KMap Half
  bk : KMap BkSt
  wear : Wear
  brc : Brace
  mtr : Meter
  key : Keys
  cfg : Cfg
  upd : Upd
  /-- The model's own counter of free values drawn so far (no state of the spec). -/
  free : Nat
  deriving DecidableEq, Repr

/-- The reasons a step could stop with a fault. No command of this block stops: each either has its effect, is answered
with a status, is counted, or is ignored, as its rule says; so no constructor is raised. -/
inductive Fault where
  /-- Raised by nothing; it keeps the type inhabited. Safe: it is never reached. -/
  | none
  deriving DecidableEq, Repr

/-- The reasons a step could refuse a command. -/
inductive Refusal where
  /-- Raised by an arm of `exec` whose command has no meaning yet. Safe: the run stops. -/
  | notModelled (mnemonic : String)
  deriving DecidableEq, Repr

/-- The instances of a register row, as fields. -/
def RegRow.at_ (r : RegRow) (i : Nat) : List RegFld :=
  r.flds.map fun f => { f with fld := { f.fld with off := f.fld.off + r.stride * i } }

/-- Every field of a register row. -/
def RegRow.all (r : RegRow) : List RegFld :=
  (List.range r.count).flatMap r.at_

/-- The rows of the block of half `h` (the tables give them for half A). -/
def prRows (h : Nat) : List RegRow :=
  Reg.rowsPr.map fun r => { r with flds := r.flds.map fun f => { f with fld := { f.fld with off := f.fld.off + 0x10000 * h } } }

/-- Every register row of BAR0. -/
def allRows : List RegRow := Reg.rowsAll ++ prRows 0 ++ prRows 1

/-- The reset values that are not 0, of the rows `rs`. -/
def resetOf (rs : List RegRow) : List (Fld × Nat) :=
  rs.flatMap fun r => if r.flds.all (fun f => f.rst = 0) then [] else
    (r.all.filter fun f => f.rst != 0).map fun f => (f.fld, f.rst)

/-- The spares of each class (Table ARCH-7), the margins of a module with no substitution on its tally. -/
def spareCount : List Nat := [2, 2, 2, 2, 64, 32, 32, 512, 4, 8]

/-- The margin field of a spare class. -/
def marginFld (c : Nat) : Fld := if c % 2 = 0 then Reg.SUP_SPMGN_MGN_LO (c / 2) else Reg.SUP_SPMGN_MGN_HI (c / 2)

/-- The SPARES_EXHAUSTED field of a spare class. -/
def exhFld (c : Nat) : Fld := if c % 2 = 0 then Reg.SUP_SPMGN_EXH_LO (c / 2) else Reg.SUP_SPMGN_EXH_HI (c / 2)

/-- The default weights of Table ARCH-6. -/
def arbDefaults : List Nat := [256, 96, 128, 96, 128, 64, 128, 128]

/-- Every register at its reset value. -/
def resetRegs : Regs :=
  let base := (resetOf allRows).foldl (fun r p => Regs.wr r p.1 p.2) []
  let base := (spareCount.zipIdx).foldl (fun r p => Regs.wr r (marginFld p.2) p.1) base
  let base := (arbDefaults.zipIdx).foldl (fun r p => Regs.wr r (Reg.ARB_WGT_W p.2) p.1) base
  Regs.wr base (Reg.HBR_BLKPOL_WE 0) 0x1FFFFF

/-- The ring and firsts sizes, stamp form, clear policy and COALW of logs L0–L8 (Table REC-3). -/
def log0 (n : Nat) : Log :=
  match n with
  | 0 => { firstsCap := 1024, ringCap := 65536, areas := 33, coalw := 1 }
  | 1 => { cal := true, auth := true, firstsCap := 4096, ringCap := 262144, areas := 130 }
  | 2 => { cal := true, auth := true, firstsCap := 1024, ringCap := 65536, areas := 33 }
  | 3 => { cal := true, auth := true, firstsCap := 4096, ringCap := 131072, areas := 66, coalw := 1 }
  | 4 => { cal := true, auth := true, firstsCap := 1024, ringCap := 65536, areas := 33, coalw := 1 }
  | 5 => { firstsCap := 4096, ringCap := 524288, areas := 258, coalw := 10 }
  | 6 => { firstsCap := 1024, ringCap := 131072, areas := 65, coalw := 1 }
  | 7 => { firstsCap := 1024, ringCap := 65536, areas := 33, coalw := 1 }
  | 8 => { cal := true, auth := true, firstsCap := 1024, ringCap := 16384, areas := 9 }
  | _ => { defd := false, areas := 0, firstsCap := 0, ringCap := 0 }

/-- The state right after reset: the always-on domain in reset, no domain running, every register at its reset value, no
log record, no key, both configuration devices blank, and no command waiting. -/
def State.reset : State where
  pending := []
  fuses := {}
  regs := resetRegs
  pwr := {}
  sup := {}
  kn := []
  arb := { wgt := (arbDefaults.zipIdx).map fun p => (p.2, p.1) }
  pins := {}
  mbx := {}
  hbr := {}
  tb := {}
  rad := {}
  recs := { logs := (List.range 16).map fun n => (n, log0 n) }
  arc := {}
  lnt := {}
  lux := {}
  fwd := {}
  half := [(0, {}), (1, {})]
  bk := []
  wear := {}
  brc := {}
  mtr := {}
  key := {}
  cfg := {}
  upd := {}
  free := 0

end Sys2Proof.Machine
end

