-- ==== Sys2Proof/Machine/Blocks.lean ====
section
/-! DEFINITION. How the archive codes what it keeps: blocks, their Rice code, extent headers, chunks and indexes as they stand on the
shelf (14_records_archive.md, R856 to R862). -/
namespace Sys2Proof.Machine

/-- The bytes of an item in staging: a record's own, or a time and a value and a quality for each channel. -/
def itemSize (i : ArcItem) : Nat := if i.body.isEmpty then 8 + 8 * i.chans.length else i.body.length

/-- The most bytes an item can take in a chunk: its record, or for each channel a block header, a raw value and a quality run. -/
def itemCost (i : ArcItem) : Nat := i.body.length + 34 * i.chans.length

/-! ### Blocks (R856, R860, R861) -/

/-- Samples as blocks: one ends where the next sample time has no sample, and after 4,096 samples (R856, R860). `step` is the sample
period in ns; a sample time lies within 1 ns of its place. -/
def splitBlocks (step : Nat) (l : List ArcItem) : List (List ArcItem) :=
  ((l.foldl (fun (r : List (List ArcItem)) x =>
    match r with
    | (y :: b) :: bs => if y.t < x.t && x.t ≤ y.t + step + 1 && b.length < 4095 then (x :: y :: b) :: bs else [x] :: (y :: b) :: bs
    | bs => [x] :: bs) []).map List.reverse).reverse

/-- zigzag(d) of a difference in s32. -/
def zigzag (d : BitVec 32) : Nat := ((d <<< 1) ^^^ (d.sshiftRight 31)).toNat

/-- The zigzag of each difference of a list of values (R860). -/
def deltas : List Nat → List Nat
  | a :: b :: l => zigzag (BitVec.ofNat 32 b - BitVec.ofNat 32 a) :: deltas (b :: l)
  | _ => []

/-- The Rice code of `u` with parameter `k`, bit by bit (R860). -/
def rice (k u : Nat) : List Bool :=
  List.replicate (u / 2 ^ k) true ++ [false] ++ (List.range k).map fun i => bit u (k - 1 - i)

/-- The bits that parameter `k` takes for values `xs` after the first. -/
def codedLen (k : Nat) (xs : List Nat) : Nat :=
  if k = 31 then 32 * (xs.length - 1) else ((deltas xs).map fun u => u / 2 ^ k + 1 + k).sum

/-- The parameter of 0 to 31 that takes the fewest bits, the least of them (R861). DESIGN CHOICE (log entry 95): the least at a tie. -/
def bestK (xs : List Nat) : Nat :=
  (List.range 32).foldl (fun k j => if codedLen j xs < codedLen k xs then j else k) 0

/-- Bits as bytes, the first in the top bit, filled with 0 bits to a whole byte. -/
def bitBytes : Nat → List Bool → List Byte
  | 0, _ => []
  | n + 1, l =>
    if l.isEmpty then []
    else BitVec.ofNat 8 ((padTo 8 false (l.take 8)).foldl (fun v b => 2 * v + b2n b) 0) :: bitBytes n (l.drop 8)

/-- The coded values after the first: with K = 31 raw, otherwise the Rice code of the differences (R860). -/
def codedBytes (k : Nat) (xs : List Nat) : List Byte :=
  if k = 31 then (xs.drop 1).flatMap (le 4)
  else let b := (deltas xs).flatMap (rice k); bitBytes (b.length / 8 + 1) b

/-- Quality words as runs (quality, count) (R861). -/
def qualRuns (l : List Nat) : List (Nat × Nat) :=
  (l.foldl (fun (r : List (Nat × Nat)) q =>
    match r with
    | (p, n) :: rs => if p = q && n < 0xFFFF then (p, n + 1) :: rs else (q, 1) :: (p, n) :: rs
    | [] => [(q, 1)]) []).reverse

/-- A channel of a block: its header (Table REC-9), its coded values and its quality runs. -/
def blockBytes (ch : Nat) (b : List ArcItem) : List Byte :=
  let v := b.map fun x => x.chans.getD ch (0, 0)
  let xs := v.map (·.1)
  let k := bestK xs
  let code := codedBytes k xs
  let runs := qualRuns (v.map (·.2))
  le 2 ch ++ le 2 b.length ++ le 8 ((b.head?.map (·.t)).getD 0) ++ le 1 k ++ zeros 1 ++ le 2 runs.length ++ le 4 (xs.headD 0) ++
    le 4 code.length ++ code ++ runs.flatMap fun r => le 4 r.1 ++ le 2 r.2

/-! ### Extents (Table REC-8, R858, R862) -/

/-- The extent header. -/
def extentHeader (e : Extent) : List Byte :=
  let b := le 4 0x54584541 ++ le 2 1 ++ le 1 e.cls ++ le 1 e.tier ++ le 8 e.no ++ le 2 e.stream ++ le 2 e.nch ++ le 4 e.rate ++
    le 8 e.tfirst ++ le 4 e.confrev ++ le 4 e.keyver ++ zeros 20
  b ++ le 4 (crc32 b)

/-- The blocks of a chunk: of samples for each subscription and each run of sample times, and their channels; none of records. -/
def chunkBlocks (e : Extent) (items : List ArcItem) : List (Nat × List ArcItem) :=
  let step := 1000000000 / max 1 e.rate
  (items.map (·.sub)).eraseDups.flatMap fun u =>
    (splitBlocks step (items.filter fun i => i.sub = u && i.body.isEmpty)).flatMap fun b => (List.range e.nch).map fun ch => (ch, b)

/-- A chunk in plain form: its coded blocks, and records whole. -/
def chunkPlain (e : Extent) (items : List ArcItem) : List Byte :=
  padTo (2 ^ 20 - 16) 0 (((chunkBlocks e items).flatMap fun b => blockBytes b.1 b.2) ++ items.flatMap (·.body))

/-- The index: an entry for each block with its T0, chunk, offset in the chunk, channel and number of samples (R862). -/
def indexBytes (e : Extent) : List Byte :=
  e.data.zipIdx.flatMap fun c =>
    ((chunkBlocks e c.1).foldl (fun (r : Nat × List Byte) b =>
      (r.1 + (blockBytes b.1 b.2).length,
       r.2 ++ le 8 ((b.2.head?.map (·.t)).getD 0) ++ le 1 (c.2 + 1) ++ le 3 r.1 ++ le 2 b.1 ++ le 2 b.2.length)) (0, [])).2

/-- Plain bytes as chunk `n` of an extent stands on the shelf: AES-256-GCM under the nonce EXTNO and chunk number, big-endian, with the
header as additional data, and the tag at the end (R858). -/
def sealBytes (key : Nat) (e : Extent) (n : Nat) (plain : List Byte) : List Byte :=
  gcm (be 32 key) (be 8 e.no ++ be 4 n) (extentHeader e) plain

/-- Chunk 0: the header in plain form in 4 KiB, and when the extent is sealed its index. -/
def chunkZero (key : Nat) (e : Extent) : List Byte :=
  padTo 4096 0 (extentHeader e) ++ if e.isSealed then sealBytes key e 0 (indexBytes e) else []

/-- Items packed into chunks of 1 MiB, in order: a chunk takes what fits however it codes (log entry 95). -/
def packChunks (l : List ArcItem) : List (List ArcItem) :=
  ((l.foldl (fun (r : List (Nat × List ArcItem)) x =>
    match r with
    | (n, c) :: cs => if n + itemCost x ≤ 2 ^ 20 - 16 then (n + itemCost x, x :: c) :: cs else (itemCost x, [x]) :: (n, c) :: cs
    | [] => [(itemCost x, [x])]) []).map fun c => c.2.reverse).reverse

end Sys2Proof.Machine
end

