-- ==== Sys2Proof/Config.lean ====
section
/-! DEFINITION. What an implementation fixes and the spec does not state: uninterpreted functions, with no body, so that no
statement can rest on a value of them. -/
namespace Sys2Proof.Config

/-- The bucket of table 0 for a VID and a MAC (16,384 buckets; Table PBUS-2 names no hash). -/
opaque macBucket : Nat → Nat → Nat

/-- The bucket of table 1 for a VID and a group MAC (1,024 buckets). -/
opaque mcBucket : Nat → Nat → Nat

/-- The bucket of table 2 for a length and a prefix (4,096 buckets), and the filter index (4,096 counters). -/
opaque pfxBucket : Nat → Nat → Nat
opaque pfxFilter : Nat → Nat → Nat

/-- The servo's rate correction (R266: the loop's gains are not stated): the new increment in 2^-32 ns, before the limits of R256, from the
loop's time constant in s, the error in ns and the increment held. -/
opaque servoInc : Nat → Int → Nat → Nat

/-- Sunset and sunrise of a node (latitude and longitude in 10^-6 degree, elevation in 0.001 degree) on a local date: 0 when the sun
stays above the elevation for the whole date, 1 when it stays below, else the UTC second since 1970 plus 2 (R511 names the
method, not its rounding). -/
opaque sunSet : Int → Int → Int → Nat → Nat
opaque sunRise : Int → Int → Int → Nat → Nat

/-- Which 32 MiB of DDR5 each staging area is: 0 the configuration buffer, 1 and 2 the two halves of the billet's (R180 and R931
name no address). -/
opaque stagePage : Nat → Nat

/-- The byte at an address of a configuration device where write number `gen` has not read back as written (R187). -/
opaque flashByte : Nat → Nat → Nat

/-- The burl helper data: its length (at most 56 KiB, Table BOOT-3) and its bytes, which depend on the silicon (R880). -/
opaque helperLen : Nat
opaque helperByte : Nat → Nat

/-- The maker and the version in the JTAG IDCODE register (R79 gives the part number only). -/
opaque jtagMaker : Nat
opaque jtagVersion : Nat

/-- A channel's value between two of its samples, by the interpolator of R788 and R794: the samples, and the place as a fraction of
the sample number. -/
opaque interp : List Int → Nat → Nat → Int

/-- A channel's value at a time at a rate, through the anti-alias filter of R869, from the values and times it had. -/
opaque antiAlias : List (Nat × Nat) → Nat → Nat → Nat

/-- The free texts of a COMTRADE configuration file: 0 station, 1 device, 2 the time-quality code, 3 the rest of a channel's line, and from
4 on, two a channel, its name and its phase (R876 names none). -/
opaque comText : Nat → List Nat

/-- The error of a metering quantity, by kind, time and value: R812 bounds it and states no value. -/
opaque mtrErr : Nat → Nat → Int → Int

/-- The highest order that THD sums (R794 leaves it to IEC 61000-4-7). -/
opaque thdOrder : Nat

/-- The nominal frequency in Hz of a module that has no section 0x08. -/
opaque fnomBare : Nat

/-- The error of a pickup at a setting for a measured quantity, and of a timer at a setting: R647 bounds them and states no
value. -/
opaque pickErr : Nat → Nat → Int
opaque timerErr : Nat → Int

/-- A value that the spec leaves free, drawn by number. -/
opaque freeNat : Nat → Nat

end Sys2Proof.Config
end

