-- ==== Sys2Proof/Machine/Codes.lean ====
section
/-! DEFINITION. The event codes of Table REC-2 and Table UPD-14, and the response statuses of Table HOST-8. -/
namespace Sys2Proof.Machine

def Ev.OCXO_LOST : Nat := 0x0101
def Ev.DOMAIN_RESET : Nat := 0x0102
def Ev.KENNEL_ABANDON : Nat := 0x0103
def Ev.KENNEL_FAULT : Nat := 0x0104
def Ev.POWER_FAIL : Nat := 0x0105
def Ev.PWR_RIDE_THROUGH : Nat := 0x0106
def Ev.VIN_INPUT_LOST : Nat := 0x0107
def Ev.THERMAL_STATE : Nat := 0x0108
def Ev.OUT_RB_MISMATCH : Nat := 0x0109
def Ev.LOOP_COMPLIANCE : Nat := 0x010A
def Ev.OUT_WEAR_LIMIT : Nat := 0x010B
def Ev.TUNNEL_REJECT : Nat := 0x010C
def Ev.HOST_DENY : Nat := 0x010D
def Ev.CFG_SECTION_DEFAULTED : Nat := 0x0201
def Ev.CFG_FALLBACK : Nat := 0x0202
def Ev.CFG_COMMIT_FAILED : Nat := 0x0203
def Ev.CFG_APPLY_FAILED : Nat := 0x0204
def Ev.CFG_CONFIRMED : Nat := 0x0205
def Ev.CFG_ROLLBACK : Nat := 0x0206
def Ev.TIME_STEP : Nat := 0x0301
def Ev.TIME_QUALITY : Nat := 0x0302
def Ev.PPS_BAD : Nat := 0x0303
def Ev.RTC_OSF : Nat := 0x0304
def Ev.GRID_MISMATCH : Nat := 0x0401
def Ev.RX_CHAIN_FAIL : Nat := 0x0402
def Ev.CHANNEL_DARK : Nat := 0x0403
def Ev.CCM_FAIL : Nat := 0x0404
def Ev.LO_UNLOCK : Nat := 0x0405
def Ev.CAL_FAIL : Nat := 0x0406
def Ev.BUDGET_LOW : Nat := 0x0407
def Ev.NODE_SYNC_LOST : Nat := 0x0501
def Ev.NODE_UNKNOWN : Nat := 0x0502
def Ev.AIR_AUTH_FAIL : Nat := 0x0503
def Ev.AIR_REPLAY_STALE : Nat := 0x0504
def Ev.LAMP_FAULT : Nat := 0x0601
def Ev.LAMP_FAULT_CLEAR : Nat := 0x0602
def Ev.SUPPLY_LOST : Nat := 0x0603
def Ev.ENERGY_RESET : Nat := 0x0604
def Ev.LINK_UP : Nat := 0x0701
def Ev.LINK_DOWN : Nat := 0x0702
def Ev.FWD_PARITY : Nat := 0x0703
def Ev.SV_STREAM_LOST : Nat := 0x0704
def Ev.SV_STREAM_BACK : Nat := 0x0705
def Ev.GOOSE_LOST : Nat := 0x0706
def Ev.SV_AUTH_FAIL : Nat := 0x0707
def Ev.SV_AUTH_SKIPPED : Nat := 0x0708
def Ev.GOOSE_AUTH_SKIPPED : Nat := 0x0709
def Ev.PICKUP : Nat := 0x0801
def Ev.OPERATE : Nat := 0x0802
def Ev.DROPOUT : Nat := 0x0803
def Ev.TRIP : Nat := 0x0804
def Ev.PASS_OVERRUN : Nat := 0x0805
def Ev.FLOC_RESULT : Nat := 0x0806
def Ev.BACKUP_OC_TRIP : Nat := 0x0807
def Ev.GOOSE_PUB_BLOCKED : Nat := 0x0808
def Ev.GOOSE_PUB_UNAUTH : Nat := 0x0809
def Ev.SECTION_IGNORED : Nat := 0x080A
def Ev.LEASH_TRANSFER : Nat := 0x0901
def Ev.HALF_FAILED : Nat := 0x0902
def Ev.REJOIN_FAILED : Nat := 0x0903
def Ev.BRC_DISAGREE : Nat := 0x0904
def Ev.BRACE_SPLIT : Nat := 0x0905
def Ev.CMP_SUSPENDED : Nat := 0x0906
def Ev.CMP_RESUMED : Nat := 0x0907
def Ev.MODLEAD_TAKEN : Nat := 0x0908
def Ev.MODLEAD_YIELDED : Nat := 0x0909
def Ev.LSH_TIE : Nat := 0x090A
def Ev.ROLE_CONFLICT : Nat := 0x090B
def Ev.PARTNER_LOST : Nat := 0x090C
def Ev.PARTNER_BACK : Nat := 0x090D
def Ev.PARTNER_FOREIGN : Nat := 0x090E
def Ev.PARTNER_MISMATCH : Nat := 0x090F
def Ev.LUX_RESULT_DIFFER : Nat := 0x0910
def Ev.MTR_CHANNEL_STUCK : Nat := 0x0A01
def Ev.METER_GAP : Nat := 0x0A02
def Ev.METER_RESTORE_FAILED : Nat := 0x0A03
def Ev.LOST : Nat := 0x0B01
def Ev.LOG_CLEARED : Nat := 0x0B02
def Ev.LOG_CLEAR_DENIED : Nat := 0x0B03
def Ev.LOG_AREA_SUBST : Nat := 0x0B04
def Ev.LOG_CRC_ERROR : Nat := 0x0B05
def Ev.ARC_ONLINE : Nat := 0x0C01
def Ev.ARC_GAP : Nat := 0x0C02
def Ev.ARC_NS_FAIL : Nat := 0x0C03
def Ev.ARC_KEY_LOST : Nat := 0x0C04
def Ev.ARC_FULL : Nat := 0x0C05
def Ev.DIST_WINDOW : Nat := 0x0C06
def Ev.KEY_UPDATED : Nat := 0x0D01
def Ev.KEY_UPDATE_REJECTED : Nat := 0x0D02
def Ev.OWNER_CLAIMED : Nat := 0x0D03
def Ev.KEY_ZEROISED : Nat := 0x0D04
def Ev.TAMPER_LATCH_CLEARED : Nat := 0x0D05
def Ev.KEY_EXHAUSTED : Nat := 0x0D06
def Ev.KEY_STORE_LOST : Nat := 0x0D07
def Ev.HELPER_REPAIRED : Nat := 0x0D08
def Ev.REKEY_DUE : Nat := 0x0D09
def Ev.BILLET_REJECTED : Nat := 0x0281
def Ev.BILLET_CONFIRMED : Nat := 0x0282
def Ev.BILLET_ROLLBACK : Nat := 0x0283
def Ev.SVN_RAISED : Nat := 0x0284
def Ev.RECOVERY_ENTERED : Nat := 0x0285
def Ev.NB_CAMPAIGN_PHASE : Nat := 0x0286

def St.OK : Nat := 0x00
def St.BUSY : Nat := 0x01
def St.NOT_FITTED : Nat := 0x02
def St.UNKNOWN : Nat := 0x03
def St.BAD_PARAM : Nat := 0x04
def St.BAD_ENVELOPE : Nat := 0x05
def St.DENIED : Nat := 0x06
def St.LATE : Nat := 0x07
def St.KEY_BLOCKED : Nat := 0x08
def St.FORMAT_BAD : Nat := 0x10
def St.BIND_FAIL : Nat := 0x11
def St.SIG_FAIL : Nat := 0x12
def St.CRC_FAIL : Nat := 0x13
def St.FORMAT_NEW : Nat := 0x14
def St.FORMAT_OLD : Nat := 0x15
def St.CONTENT_FAIL : Nat := 0x16
def St.FLASH_FAIL : Nat := 0x17
def St.RESTART_NEEDED : Nat := 0x18

end Sys2Proof.Machine
end

