-- ==== Sys2Proof/Machine/Flags.lean ====
section
/-! DEFINITION. Register fields: how a field is read, set and cleared, how a counter saturates, and what an RC read leaves. -/
namespace Sys2Proof.Machine

/-- The value a register field holds. -/
def State.rd (s : State) (f : Fld) : Nat := s.regs.rd f

/-- Give a register field a value, cut to its width. -/
def State.wr (s : State) (f : Fld) (v : Nat) : State := { s with regs := s.regs.wr f v }

/-- Set a one-bit flag. -/
def State.raise (s : State) (f : Fld) : State := s.wr f 1

/-- Clear a field. -/
def State.clr (s : State) (f : Fld) : State := s.wr f 0

/-- Give a list of fields their values. -/
def State.wrs (s : State) (l : List (Fld × Nat)) : State := l.foldl (fun t p => t.wr p.1 p.2) s

/-- Add `n` to a counter that saturates at the maximum of its field. -/
def State.add (s : State) (f : Fld) (n : Nat) : State := s.wr f (satAdd (2 ^ f.w - 1) (s.rd f) n)

/-- Count once in a saturating counter. -/
def State.inc (s : State) (f : Fld) : State := s.add f 1

/-- An RC read with the same-cycle updates `upd` (Table HOST-4): the read takes the value held before the cycle, and the
field then holds only the new update. Answers the value read. -/
def rcRead (s : State) (f : Fld) (upd : Nat) : Nat × State := (s.rd f, s.wr f (min upd (2 ^ f.w - 1)))

end Sys2Proof.Machine
end

