-- ==== Sys2Proof/Machine/Ops.lean ====
section
/-! DEFINITION. The named operations over the state that every family of commands uses: the
summary and its sequence number, domains, kennels, stamps and records on their way to a log, the tally, reports, and the
answering of mailbox commands. -/
namespace Sys2Proof.Machine

/-! ### Time -/

/-- Spindle time (TAI ns). -/
def State.now (s : State) : Nat := s.tb.ns

/-- Time of the always-on clock since power-on, in ns: it passes on the fallback clock too (R141). -/
def State.up (s : State) : Nat := s.pwr.ticks * 5 / 2

/-- The time-quality code (Table TIME-1). -/
def State.qual (s : State) : Nat := s.tb.q

/-- Whole spindle seconds. -/
def State.sec (s : State) : Nat := s.tb.ns / 1000000000

/-- Operating seconds. -/
def State.opsec (s : State) : Nat := s.rd Reg.RTC_OPSEC_OPSEC

/-- The time a record shows where it carries 0 under quality NONE. -/
def State.tai (s : State) : Nat := if s.qual = 0 then 0 else s.now

/-! ### Domains -/

/-- The state field of domain `d` in SUP_DOMSTAT. -/
def domFld (d : Nat) : Fld := ⟨0x40, 2 * d, 2⟩

/-- The state code of domain `d`: 0 OFF, 1 RESET, 2 RUN, 3 WEDGED. -/
def State.dom (s : State) (d : Nat) : Nat := s.rd (domFld d)

/-- Domain `d` is in RUN. -/
def State.runs (s : State) (d : Nat) : Bool := s.dom d = 2

/-- Set the state code of domain `d`. -/
def State.setDom (s : State) (d v : Nat) : State := s.wr (domFld d) v

/-- The domain of the block at index `b` (Table HOST-2). -/
def blockDom (b : Nat) : Nat :=
  match b with
  | 2 => 5 | 4 => 4 | 5 => 4 | 6 => 1 | 7 => 5 | 8 => 2 | 9 => 3 | 12 => 6 | 14 => 1 | 17 => 1 | 19 => 1 | 20 => 1 | _ => 0

/-- The half that holds LEASH. -/
def State.lead (s : State) : Option Nat :=
  match s.rd Reg.BRC_STAT_LEASH with
  | 1 => some 0
  | 2 => some 1
  | _ => none

/-- Half `h` holds LEASH. -/
def State.isLead (s : State) (h : Nat) : Bool := s.lead = some h

/-- The state of half `h`. -/
def State.hf (s : State) (h : Nat) : Half := s.half.getD h {}

/-- Change half `h`. -/
def State.setHf (s : State) (h : Nat) (x : Half) : State := { s with half := s.half.set h x }

/-- Brace state of half `h` (Table BRC-1). -/
def braceFld (h : Nat) : Fld := if h = 0 then Reg.BRC_STAT_HALFA else Reg.BRC_STAT_HALFB

@[inherit_doc braceFld] def State.brace (s : State) (h : Nat) : Nat := s.rd (braceFld h)

/-! ### Summary and sequence (R209 to R211) -/

/-- Entries in a ring that its consumer has not taken (R216). -/
def unread (s : State) (pi ci : Fld) : Nat := (s.rd pi + 2 ^ 32 - s.rd ci) % 2 ^ 32

/-- A response, report or event copy is unread (R210). -/
def anyUnread (s : State) : Bool :=
  unread s Reg.MBX_RSPPI Reg.MBX_RSPCI != 0 || unread s Reg.MBX_RPTPI Reg.MBX_RPTCI != 0 ||
  unread s Reg.MBX_EVPI Reg.MBX_EVCI != 0

/-- The blocks that need attention: SUP_SUMMARY (R209, R210). -/
def summary (s : State) : Nat :=
  let a := Reg.sources.foldl (fun m f => if s.rd f = 0 then m else m ||| one (f.off / 0x10000)) 0
  let a := (List.range 21).foldl (fun m b => if s.rd (Reg.CMN_LOST_UPD b) = 0 then m else m ||| one b) a
  if anyUnread s then a ||| one 20 else a

/-- Give SUP_SEQ a value. -/
def State.setSeq (s : State) (n : Nat) : State := { s with sup := { s.sup with seq := n } }

/-- `t` after a step from `s`: SUP_SEQ counts once when the summary has changed (R211). `t` holds the count of `s`, or 0 when the
step was a start. -/
def settle (s t : State) : State := t.setSeq ((t.sup.seq + b2n (summary s != summary t)) % 2 ^ 32)

/-- The outcome of a command whose effect is `t`: a next state, with SUP_SEQ kept. -/
def done (s t : State) : Host.Outcome State Fault Refusal := .next (settle s t)

/-! ### Kennels (Table ARCH-5) -/

/-- The producer and the consumer domain of kennel `n`. -/
def kProd (n : Nat) : Nat :=
  if n < 16 then 4 else if n < 32 then 1 else if n < 64 then 5 else if n = 64 then 2 else if n = 65 then 3
  else if n < 68 then 1 else if n < 80 then 6
  else if n < 83 || n = 87 then 2 else if n < 87 then 3
  else if n < 95 then n - 88 else if n < 112 then 0 else 1

@[inherit_doc kProd] def kCons (n : Nat) : Nat :=
  if n < 16 then 1 else if n < 32 then 4 else if n < 48 then 2 else if n < 64 then 3 else if n < 66 then 1
  else if n = 66 then 2 else if n = 67 then 3 else if n < 76 then 1 else if n < 78 then 2 else if n < 80 then 3
  else if n < 83 || n = 87 then 3 else if n < 87 then 2
  else if n < 95 then 0 else if n < 112 then 1 else if n < 128 then 0 else 1

/-- The full policy of kennel `n` is DROP (FULLPOL 1). -/
def kDrop (n : Nat) : Bool := n < 16 || (decide (32 ≤ n) && decide (n < 80)) || (decide (88 ≤ n) && decide (n < 95))

/-- Kennel `n` exists (R970). -/
def kExists (n : Nat) : Bool := n < 144 && n != 95

/-- The capacity of a kennel in words. DESIGN CHOICE (log entry 9): the spec gives the range 64 to 8,192 only. -/
def kDepth : Nat := 8192

/-- Words a kennel holds. -/
def Kennel.used (k : Kennel) : Nat := (k.pkts.map List.length).sum - k.rd + k.part.length

/-- Change kennel `n`. -/
def State.setKn (s : State) (n : Nat) (k : Kennel) : State := { s with kn := s.kn.set n k }

/-- Kennel `n`. -/
def State.knl (s : State) (n : Nat) : Kennel := s.kn.getD n {}

/-- Refuse a packet at a DROP kennel: DROPCNT (R50), and for an event-record kennel the recorder's count (R839). -/
def kRefuse (s : State) (n : Nat) : State :=
  let s := s.inc (Reg.KNL_STAT_DROPCNT n)
  if 88 ≤ n ∧ n < 95 then
    let d := n - 88
    let e := s.recs.lostDom.getD d (0, (s.recs.logs.getD 0 {}).seq)
    { s with recs := { s.recs with lostDom := s.recs.lostDom.set d (e.1 + 1, e.2) } }
  else s

/-- Words that still fit. -/
def kRoom (k : Kennel) : Nat := kDepth - k.used

/-- Move the words a stalled producer still has to write into the kennel as far as they fit; the packet becomes visible with its last
word (R40, R49). -/
def kFill (k : Kennel) : Kennel :=
  let m := min (kRoom k) k.rest.length
  let part := k.part ++ k.rest.take m
  let rest := k.rest.drop m
  if rest.isEmpty then { k with pkts := k.pkts ++ [part], part := [], rest := [], wrStall := false }
  else { k with part := part, rest := rest, wrStall := true }

/-- A producer that runs writes one whole packet (R40, R49, R50). Answers whether the kennel took it whole: a DROP kennel without
room refuses it, a BLOCK kennel stalls the producer, which writes nothing new while an earlier packet stalls it. DESIGN CHOICE (log
entry 73): a kennel whose consumer is not in RUN takes nothing (of the crossing, R773 says so). -/
def kPost (s : State) (n : Nat) (pkt : List Nat) : State × Bool :=
  let k := s.knl n
  if !(s.runs (kCons n)) then (s, false)
  else if kDrop n then
    if pkt.length ≤ kRoom k then (s.setKn n { k with pkts := k.pkts ++ [pkt], skip := false }, true) else (kRefuse s n, false)
  else if k.wrStall then (s, false)
  else
    let k := kFill { k with rest := pkt, skip := false }
    (s.setKn n k, !k.wrStall)

/-- The consumer of kennel `n` reads its packets whole, in order, up to the first that satisfies `p` (R42); it reads none when none
does. -/
def kTakeThrough (s : State) (n : Nat) (p : List Nat → Bool) : State :=
  let k := s.knl n
  match k.pkts.dropWhile fun x => !p x with
  | [] => s
  | x :: l => s.setKn n { k with pkts := l, rd := 0, rdStall := false, out := (x, false) }

/-- What a reset of domain `d` leaves of kennel `n`: nothing but the stall of a reader in another domain, which only a packet or the
reader's own watchdog ends (R34, R44, R773). DESIGN CHOICE (log entry 73): a producer in another domain that a BLOCK kennel had
stalled is let go, and the words it had still to write are dropped; outside the crossing (R773) the spec does not say. -/
def kEmptied (d n : Nat) (k : Kennel) : Kennel :=
  if kCons n = d then {} else { rdStall := k.rdStall, out := k.out }

/-- A reset of domain `d` empties its kennels and clears their counts (R34). -/
def kReset (s : State) (d : Nat) : State :=
  let ids := (List.range 144).filter fun n => kProd n = d || kCons n = d
  let s := { s with kn := s.kn.map fun p => (p.1, if ids.contains p.1 then kEmptied d p.1 p.2 else p.2) }
  ids.foldl (fun t n => if t.rd (Reg.KNL_STAT_DROPCNT n) = 0 then t else t.clr (Reg.KNL_STAT_DROPCNT n)) s

/-! ### Records (14_records_archive.md) -/

/-- A log. -/
def State.log (s : State) (n : Nat) : Log := s.recs.logs.getD n { defd := false }

/-- Change a log. -/
def State.setLog (s : State) (n : Nat) (l : Log) : State :=
  { s with recs := { s.recs with logs := s.recs.logs.set n l } }

/-- The stamp of an event now, in the form of log `n` (R815, R816). -/
def stampFor (s : State) (n : Nat) : Stamp :=
  if (s.log n).cal && s.qual != 0 then .cal s.now s.qual else .op s.opsec (s.rd Reg.RTC_PCYC_PCYC) s.qual

/-- A record of an event now; its SEQ is given at the commit. -/
def mkRec (s : State) (n code dom inst : Nat) (par : List Nat) : Rec :=
  { code := code % 65536, source := (dom % 8) * 8192 + inst % 4096, seq := 0, stamp := stampFor s n,
    par0 := par.getD 0 0 % 2 ^ 32, par1 := par.getD 1 0 % 2 ^ 32, par2 := par.getD 2 0 % 2 ^ 32,
    rep := 1, coal := false, hw := false, restored := false }

/-- The codes the hardware lane carries (R834). -/
def laneCodes : List Nat :=
  [Ev.OCXO_LOST, Ev.DOMAIN_RESET, Ev.KENNEL_ABANDON, Ev.KENNEL_FAULT, Ev.POWER_FAIL, Ev.PWR_RIDE_THROUGH,
   Ev.VIN_INPUT_LOST, Ev.THERMAL_STATE, Ev.OUT_RB_MISMATCH, Ev.BACKUP_OC_TRIP, Ev.RTC_OSF, Ev.LOG_AREA_SUBST]

/-- Merge a lane event into the slot of the same CODE and SOURCE (R837); `none` when no slot matches. -/
def laneMerge (r : Rec) : List Posted → Option (List Posted)
  | [] => none
  | p :: l =>
    if p.rcd.code = r.code && p.rcd.source = r.source then
      some ({ p with rcd := { p.rcd with rep := min 0xFFFF (p.rcd.rep + 1), coal := true } } :: l)
    else (laneMerge r l).map (p :: ·)

/-- Put a record in the hardware lane (R834, R837). -/
def lanePost (s : State) (n : Nat) (r : Rec) : State :=
  let r := { r with hw := true }
  if s.recs.lane.length < 64 then
    { s with recs := { s.recs with lane := s.recs.lane ++ [⟨n, r, s.now, none⟩] } }
  else
    let s := s.raise Reg.EVR_EVT_LANEFULL
    match laneMerge r s.recs.lane with
    | some l => { s with recs := { s.recs with lane := l } }
    | none =>
      let e := s.recs.laneLost
      let s := { s with recs := { s.recs with laneLost := (e.1 + 1, if e.1 = 0 then (s.log 0).seq else e.2) } }
      s.inc (Reg.EVR_LOG_LOST_LOST 0)

/-- Put a record in the ingress buffer, or count it lost (R838, R839). -/
def ingressPost (s : State) (n : Nat) (r : Rec) (tag : Option Nat) : State :=
  if s.recs.ingress.length < 1008 then
    { s with recs := { s.recs with ingress := s.recs.ingress ++ [⟨n, r, s.now, tag⟩] } }
  else
    let e := s.recs.lostLog.getD n (0, (s.log n).seq, r.source / 8192)
    let s := { s with recs := { s.recs with lostLog := s.recs.lostLog.set n (e.1 + 1, e.2) } }
    s.inc (Reg.EVR_LOG_LOST_LOST n)

/-- Append an event to log `n`: domain code of the producer, instance, parameters. A record of L1 that a half posts while it
does not hold LEASH is discarded and counted (R824). -/
def State.event (s : State) (n code dom inst : Nat) (par : List Nat) : State :=
  if !(s.log n).defd then s
  else if n = 1 && (dom = 2 || dom = 3) && s.lead != some (dom - 2) then s.inc Reg.EVR_CNT_NOTLEAD
  else
    let r := mkRec s n code dom inst par
    if laneCodes.contains code then lanePost s n r else ingressPost s n r none

/-! ### Tally (01_architecture.md) -/

/-- The margin of spare class `c`. -/
def State.margin (s : State) (c : Nat) : Nat := s.rd (marginFld c)

/-- Drop the oldest WEAR_MARK record (R73). -/
def dropWear : List TallyRec → List TallyRec
  | [] => []
  | r :: l => if r.kind = 2 then l else r :: dropWear l

/-- Write a tally record (Table ARCH-8). -/
def tallyAdd (s : State) (kind cls failed spare margin reason detail : Nat) : State :=
  let tseq := (s.sup.tseq + 1) % 2 ^ 24
  let r : TallyRec :=
    { kind := kind, cls := cls, failed := failed, spare := spare, margin := margin, opsec := s.opsec,
      pcyc := s.rd Reg.RTC_PCYC_PCYC, reason := reason, stamp := s.tai, detail := detail, tseq := tseq }
  let t := if s.sup.tally.length < 8192 then s.sup.tally else dropWear s.sup.tally
  { s with sup := { s.sup with tally := t ++ [r], tseq := tseq } }

/-- Set the margin of a class; at 0 SPARES_EXHAUSTED is set (R68, R69). -/
def setMargin (s : State) (c m : Nat) : State :=
  let s := s.wr (marginFld c) m
  if m = 0 then s.raise (exhFld c) else s

/-- A substitution: the SUBST record is written, and the margin updated, in the same step (R68). -/
def subst (s : State) (c failed spare m reason detail : Nat) : State :=
  setMargin (tallyAdd s 1 c failed spare m reason detail) c m

/-- Core `c` is in service beside the `n` active ones' numbering: an active core that has no spare in its place, or the spare in the place
of another. -/
def coreInUse (n : Nat) (map : KMap Nat) (c : Nat) : Bool :=
  (decide (c < n) && !map.has c) || map.any fun p => p.2 = c

/-- Put a spare in the place of core `c`, or of the core that `c` stands in for. -/
def coreReplace (map : KMap Nat) (c spare : Nat) : KMap Nat :=
  match map.find? fun p => p.2 = c with
  | some (k, _) => KMap.set map k spare
  | none => KMap.set map c spare

/-! ### Reports (R223 to R225, R495, R496) -/

/-- Place a report in the ring. -/
def rptPlace (s : State) (r : Report) : State :=
  let pi := s.rd Reg.MBX_RPTPI
  { s with mbx := { s.mbx with rpts := s.mbx.rpts.set (pi % 65536) r } }.wr Reg.MBX_RPTPI (pi + 1)

/-- The report ring has room. -/
def rptRoom (s : State) : Bool := unread s Reg.MBX_RPTPI Reg.MBX_RPTCI < 65536

/-- The highest class among reports. -/
def topClass (l : List Report) : Nat := l.foldl (fun m r => max m r.cls) 0

/-- Drop the oldest report of class `c`. -/
def dropClass (c : Nat) : List Report → List Report
  | [] => []
  | r :: l => if r.cls = c then l else r :: dropClass c l

/-- Issue a report of kind `k` and class `c`. It takes the next RSEQ whether it is placed or dropped (R224); while the APP
domain does not run there is no ring and the report is lost. -/
def State.report (s : State) (k c : Nat) (body : List Byte) : State :=
  let rseq := (s.mbx.rseq + 1) % 2 ^ 32
  let r : Report := ⟨k, c, rseq, body⟩
  let s := { s with mbx := { s.mbx with rseq := rseq } }
  if !s.runs 1 then s
  else if s.mbx.ovfl.isEmpty && rptRoom s then rptPlace s r
  else
    let all := s.mbx.ovfl ++ [r]
    if s.mbx.ovfl.length < 1048576 then { s with mbx := { s.mbx with ovfl := all } }
    else
      let s := (s.inc Reg.MBX_DROP_RPT).raise Reg.LNT_EVT_REPOVF
      { s with mbx := { s.mbx with ovfl := dropClass (topClass all) all } }

/-- Move held reports into the ring while it has room, `n` at most (R495). -/
def rptDrain : Nat → State → State
  | 0, s => s
  | n + 1, s =>
    match s.mbx.ovfl with
    | [] => s
    | r :: l => if rptRoom s then rptDrain n (rptPlace { s with mbx := { s.mbx with ovfl := l } } r) else s

/-! ### Answering mailbox commands (R218 to R222, R971) -/

/-- The module can take a command: APP runs and a response slot is free (R218). -/
def State.canTake (s : State) : Bool :=
  s.runs 1 && unread s Reg.MBX_RSPPI Reg.MBX_RSPCI + s.mbx.prog.length < 256

/-- Write the response to a command in progress (R220); with a status other than OK it has no payload (R971). A command that a reset
of APP has ended is answered no more. -/
def State.respond (s : State) (code tag st : Nat) (payload : List Byte) : State :=
  if !s.mbx.prog.contains (code, tag) then s else
  let pi := s.rd Reg.MBX_RSPPI
  let r : Resp := ⟨code, tag, st, s.tai, if st = 0 then payload else []⟩
  { s with mbx := { s.mbx with rsps := s.mbx.rsps.set (pi % 256) r, prog := s.mbx.prog.erase (code, tag) } }.wr
    Reg.MBX_RSPPI (pi + 1)

/-- A status that answers a command whatever it asks: NOT_FITTED (R13), the BUSY and STAGE_ORDER of a trial (R942, R934), and
the BUSY of R195 for the commands that change the running configuration. -/
def gate (s : State) (code : Nat) : Option Nat :=
  let rng := code / 256
  let cst := s.rd Reg.SUP_CFGSTAT_STATE
  if rng = 0x08 && !s.fuses.suiteP then some St.NOT_FITTED
  else if rng = 0x0C && !s.fuses.arch then some St.NOT_FITTED
  else if rng = 0x02 && s.rd Reg.UPD_STAT_STATE = 4 && !([0x0213, 0x0214, 0x0215, 0x0205].contains code) then
    some (if code = 0x0212 then 0x81 else St.BUSY)
  else if (cst = 2 || cst = 3 || cst = 4) && [0x0501, 0x0502, 0x0601, 0x0602, 0x0804].contains code then some St.BUSY
  else none

/-- What a command does: its new state, with the status and payload of its response, or none when the response follows
later. -/
abbrev Answer := State × Option (Nat × List Byte)

/-- Refuse a command with a status and no other effect. -/
def deny (s : State) (st : Nat) : Answer := (s, some (st, []))

/-- Answer OK. -/
def okay (s : State) (payload : List Byte) : Answer := (s, some (0, payload))

/-- Answer later. -/
def later (s : State) : Answer := (s, none)

/-- Execute a command in progress: the status of `gate`, or what `f` answers. -/
def runCommand (s : State) (code tag : Nat) (f : State → Answer) : State :=
  match gate s code with
  | some st => s.respond code tag st []
  | none =>
    match f s with
    | (t, some (st, pl)) => t.respond code tag st pl
    | (t, none) => t

/-- The oldest command of a range that has been consumed and has not begun (R219). -/
def heldOf (s : State) (code : Nat) : Option (Nat × Nat) := s.mbx.held.find? fun h => h.1 / 256 = code / 256

/-- A command of the mailbox: one that COMMAND_CONSUME has taken executes in the order of its range (R219); any other is consumed and
executed in this step, when the module can take one (R218). -/
def command (s : State) (code tag : Nat) (f : State → Answer) : State :=
  match heldOf s code with
  | some h =>
    if h = (code, tag) then runCommand { s with mbx := { s.mbx with held := s.mbx.held.erase h } } code tag f else s
  | none =>
    if !s.canTake then s
    else runCommand { s with mbx := { s.mbx with prog := s.mbx.prog ++ [(code, tag)] } } code tag f

/-! ### Keys: the chuck's answer to a request (R887 to R890) -/

/-- The latch does not stand in the way: it stops every request but the verifications of R894. -/
def latchAllows (s : State) (owner : Bool) : Bool := !s.key.latch || owner

/-- The chuck would serve domain bit `db` of DMASK on slot `k`: VALID, USAGE, ALG (0 asks for any), DMASK, USES, latch. -/
def keyServes (s : State) (db k alg : Nat) (u : KeyUse) : Bool :=
  match s.key.slots.get? k with
  | none => false
  | some e => bit e.usage u.bit && (alg = 0 || e.alg = alg) && bit e.dmask db && e.uses != 0 && latchAllows s false

/-- The chuck's answer: when it serves, a counted slot loses one use, and at 0 KEY_EXHAUSTED is recorded (R888, R890). -/
def keyServe (s : State) (db k alg : Nat) (u : KeyUse) : State × Bool :=
  if !keyServes s db k alg u then (s, false)
  else
    match s.key.slots.get? k with
    | none => (s, false)
    | some e =>
      if e.uses = 0xFFFFFFFF then (s, true)
      else
        let e' := { e with uses := e.uses - 1 }
        let st := if s.key.store.has k then s.key.store.set k (s.key.gen, e') else s.key.store
        let s := { s with key := { s.key with slots := s.key.slots.set k e', store := st } }
        if e.uses = 1 then ((s.raise Reg.KEY_EVT_EXHAUST).event 3 Ev.KEY_EXHAUSTED 0 0 [k, e.ver], true) else (s, true)

/-! ### Archive staging (R853, R865) -/

/-- A lantern's lighting history: TAI ns (8 bytes), LN, total and burning hours (4 each), mean power and a reserved part (2 each).
DESIGN CHOICE (log entry 40): the spec names the content only. -/
def luxRec (t ln day burn power : Nat) : List Byte := le 8 t ++ le 4 ln ++ le 4 day ++ le 4 burn ++ le 2 power ++ zeros 2

/-- A meter point's values of one interval as channels of the METER stream, each with the FLAGS as its quality: the point, four RMS values,
three active and three reactive powers, the frequency. DESIGN CHOICE (log entry 40). -/
def mtrChans (p : Nat) (v : MtrVals) : List (Nat × Nat) :=
  ([p] ++ padTo 4 0 v.rms ++ (padTo 3 0 v.p).map (ofS 32) ++ (padTo 3 0 v.q).map (ofS 32) ++ [v.freq]).map fun x => (x, v.flags)

/-- Put an item in the archive writer's staging buffer; a module without an archive keeps none. -/
def archivePost (s : State) (i : ArcItem) : State :=
  if !s.fuses.arch || s.cfg.secs.s0c.isNone || !s.runs 1 then s
  else { s with arc := { s.arc with staged := s.arc.staged ++ [i] } }

/-! ### The running configuration -/

/-- Put other sections in force. -/
def State.setSecs (s : State) (c : Secs) : State := { s with cfg := { s.cfg with secs := c } }

/-- `c` with the sections of step `n` of Table BOOT-9 as `t` has them (steps 6 and 7 take parts). -/
def secsTake (c t : Secs) (n : Nat) : Secs :=
  match n with
  | 1 => { c with s0d := t.s0d } | 2 => { c with s0e := t.s0e } | 3 => { c with s02 := t.s02 } | 4 => { c with s06 := t.s06 }
  | 5 => { c with s0a := t.s0a } | 8 => { c with s03 := t.s03 } | 9 => { c with s04 := t.s04 } | 10 => { c with s05 := t.s05 }
  | 11 => { c with s0c := t.s0c } | _ => c

/-- The moment of step `n` has come: its sections go in force, when the step waits (R191). -/
def dueTake (s : State) (n : Nat) : Option State :=
  if s.cfg.due.contains n then
    some { s with cfg := { s.cfg with due := s.cfg.due.erase n, secs := secsTake s.cfg.secs s.cfg.next n } }
  else none

/-- A section runs on defaults under R166. -/
def onDefault (s : State) (sec : Nat) : Bool := bit (s.rd Reg.SUP_CFGSTAT_DEF) (sec - 1)

/-- Section 0x07, 0x08, 0x09 or 0x0F runs on defaults (R168). -/
def coreDefault (s : State) : Bool := [7, 8, 9, 15].any (onDefault s)

/-- Section 0x08 in force. -/
def State.s08 (s : State) : Option Sec08 := s.cfg.secs.s08

/-- The sample period in ns, rounded down; 0 without section 0x08. -/
def periodNs (s : State) : Nat :=
  match s.s08 with
  | some c => if c.prate = 0 then 0 else 1000000000 / c.prate
  | none => 0

/-- A log's counted runtime edit (R179). -/
def edited (s : State) (sec : Nat) : State := { s with cfg := { s.cfg with edited := s.cfg.edited ++ [sec] } }

end Sys2Proof.Machine
end

