-- ==== Sys2Proof/Machine/Samples.lean ====
section
/-! DEFINITION. From modulator bits to measured quantities: the sinc3 decimator, runs, gain, offset and delay, RMS and powers, the
DFT and its subgroups, the supraharmonic bands (13_metering.md). The arithmetic is exact but for the roots and for the sines, which
are held to 2^−60; what the module's own error adds is free within Table MTR-5 (log entry 93). -/
namespace Sys2Proof.Machine

/-! ### Raw samples (R781, R782, R786) -/

/-- The number of ways to write `i` as a sum of three numbers below 64: the weight of bit `i` of a span of the sinc3. -/
def sincWeight (i : Nat) : Nat :=
  let t (n : Nat) : Nat := n * (n + 1) / 2
  t (i + 1) + 3 * t (i + 1 - 128) - 3 * t (i + 1 - 64)

/-- A raw sample from the 190 bits of its span (R781): all ones reads +2^23 − 1, all zeros −2^23, half of them 0. -/
def rawOf (span : List Bool) : Int :=
  let d := span.zipIdx.foldl (fun n b => if b.1 then n + sincWeight b.2 else n) 0
  min (2 ^ 23 - 1) (64 * (d : Int) - 2 ^ 23)

/-- The raw samples of a bit stream: one for every 64 bits (R781). -/
def decimate (bits : List Bool) : List Int :=
  (List.range ((bits.length + 64 - 190) / 64)).map fun m => rawOf ((bits.drop (64 * m)).take 190)

/-- The stream holds one level for 64 consecutive bits somewhere (R782). -/
def hasRun (bits : List Bool) : Bool :=
  (bits.foldl (fun (r : Option Bool × Nat × Bool) b =>
    let n := if r.1 = some b then r.2.1 + 1 else 1
    (some b, n, r.2.2 || decide (64 ≤ n))) (none, 0, false)).2.2

/-! ### Engineering values (R787, R788) -/

/-- Raw sample `r` after OFS, GAIN and FSCALE, in 0.001 A or V times 2^53 (R787). -/
def engOf (c : ChanCal) (r : Int) : Int := (r - c.ofs) * c.gain * c.fscale

/-- The value at place `num` / `den` of a list of samples. -/
def sampleAt (xs : List Int) (num den : Nat) : Int := if num % den = 0 then xs.getD (num / den) 0 else Config.interp xs num den

/-- Where sample `j` of an interval stands among a channel's raw samples, in 1 / 6,400,000 of a sample: the channel is moved earlier by
DELAY (R788). A sample takes 64 modulator clocks, FREQ of them in 10 kHz. -/
def placeOf (freq : Nat) (delay : Int) (sp : ModSpan) (j : Nat) : Int :=
  ((sp.pre + j : Nat) * 6400000 : Int) + ((sp.ns : Int) + delay) * freq

/-- The samples of an interval after a conversion of the raw ones and a delay. -/
def samplesOf (freq : Nat) (delay : Int) (conv : Int → Int) (sp : ModSpan) : List Int :=
  let xs := (decimate sp.bits).map conv
  (List.range sp.n).map fun j => sampleAt xs (placeOf freq delay sp j).toNat 6400000

/-- Every sample of the interval is there and valid (R786, R801): the span arrived complete, no bit of it lies in a run, it holds the
samples of `dur`, and DELAY reaches no further than it does. -/
def spanOk (freq dur : Nat) (delay : Int) (sp : ModSpan) : Bool :=
  sp.full && !hasRun sp.bits && decide (0 < sp.n) &&
  decide (sp.n * 6400000 ≤ dur * freq + 6400000) && decide (dur * freq ≤ sp.n * 6400000 + 6400000) &&
  decide (0 ≤ placeOf freq delay sp 0) &&
  decide (placeOf freq delay sp (sp.n - 1) + 6399999 < 6400000 * ((sp.bits.length + 64 - 190) / 64 : Nat))

/-! ### Arithmetic -/

/-- A root of a number below 2 ^ 512. -/
def rootOf (n : Nat) : Nat := isqrtFrom 256 n 0

/-- The sum of the sine series of `x` from term `t` of degree 2 k + 1 on, all in 2^−60. -/
def sineSum (x : Int) : Nat → Nat → Int → Int
  | 0, _, _ => 0
  | f + 1, k, t => t + sineSum x f (k + 1) (-(t * x / 2 ^ 60 * x / 2 ^ 60) / ((2 * k + 2) * (2 * k + 3)))

/-- The sine of `num` / `den` of a turn, times 2^60. -/
def sinTurn (num den : Nat) : Int :=
  let q := 4 * (num % den) / den
  let r := 4 * (num % den) % den
  let quarter : Int := 1811004864519280710
  let s (n : Nat) : Int := let x := quarter * n / (den : Int); sineSum x 16 0 x
  match q with
  | 0 => s r
  | 1 => s (den - r)
  | 2 => -s r
  | _ => -s (den - r)

/-- The cosine of `num` / `den` of a turn, times 2^60. -/
def cosTurn (num den : Nat) : Int := sinTurn (4 * num + den) (4 * den)

/-- Bin `k` of the DFT of `xs`: real and imaginary part, times 2^60. -/
def dftBin (xs : List Int) (k : Nat) : Int × Int :=
  let n := xs.length
  xs.zipIdx.foldl (fun z x => (z.1 + x.1 * cosTurn (k * x.2 % n) n, z.2 - x.1 * sinTurn (k * x.2 % n) n)) (0, 0)

/-- The squared magnitude of a bin. -/
def magSq (z : Int × Int) : Nat := (z.1 * z.1 + z.2 * z.2).toNat

/-- The angle of `z` in 0.001°, 0 to 359,999. -/
def angleOf (z : Int × Int) : Nat :=
  let (q, a, b) : Nat × Int × Int :=
    if 0 < z.1 ∧ 0 ≤ z.2 then (0, z.1, z.2) else if z.1 ≤ 0 ∧ 0 < z.2 then (1, z.2, -z.1)
    else if z.1 < 0 ∧ z.2 ≤ 0 then (2, -z.1, -z.2) else (3, -z.2, z.1)
  let m := (List.range 17).foldl (fun m i =>
    let c := m + 2 ^ (16 - i)
    if c < 90000 && decide (sinTurn c 360000 * a ≤ cosTurn c 360000 * b) then c else m) 0
  90000 * q + m

/-- A quantity with the module's own error, at most `lim` either way (R812). DESIGN CHOICE (log entry 93): the limit of Table MTR-5
holds outside its ranges too. -/
def withError (kind at_ lim : Nat) (v : Int) : Int := v + max (-(lim : Int)) (min (lim : Int) (Config.mtrErr kind at_ v))

/-! ### The quantities of a window (R794, R795, R800) -/

/-- The mean square of samples. -/
def meanSquare (xs : List Int) : Nat := (xs.map fun x => (x * x).toNat).sum / max 1 xs.length

/-- The RMS of samples in 2^−53 of 0.001 A or V, in 0.001 A or V. -/
def rmsOf (xs : List Int) : Nat := rootOf (meanSquare xs) / 2 ^ 53

/-- The window resampled to 2,048 samples (R794). -/
def resample (xs : List Int) : List Int := (List.range 2048).map fun j => sampleAt xs (j * xs.length) 2048

/-- The sum of v × i over the samples. -/
def dot (v i : List Int) : Int := ((v.zip i).map fun p => p.1 * p.2).foldl (· + ·) 0

/-- The reactive power from the order-1 phasors, bin `k`, times 2^106 in 10^−6 var (R800): positive where the current lags. -/
def reactive (k : Nat) (v i : List Int) : Int :=
  let a := dftBin (resample v) k
  let b := dftBin (resample i) k
  2 * (a.2 * b.1 - a.1 * b.2) / (2048 ^ 2 * 2 ^ 120)

/-- The harmonic subgroups of orders 0 to 63 with `cyc` bins an order, in the samples' unit. PRESUMED (log entry 93): a subgroup is the
root-sum-square of the bin of its order and the two beside it, as IEC 61000-4-7 has it, and order 0 the bins 0 and 1. -/
def subgroups (cyc : Nat) (xs : List Int) : List Nat :=
  let r := resample xs
  (List.range 64).map fun h =>
    let bins := if h = 0 then [0, 1] else [cyc * h - 1, cyc * h, cyc * h + 1]
    rootOf ((2 * (bins.map fun k => magSq (dftBin r k)).sum) / 2048 ^ 2) / 2 ^ 60

/-- Subgroups in 0.01 % of the one of order 1 (R795); without one the spec states no value. -/
def ofFirst (at_ : Nat) (g : List Nat) : List Nat :=
  let g1 := g.getD 1 0
  g.zipIdx.map fun x =>
    let v : Int := (x.1 * 10000 / max 1 g1 : Nat)
    let lim := if 100 ≤ v then (v * 5 / 100).toNat else 5
    min 0xFFFF (if g1 = 0 then Config.mtrErr 4 at_ x.2 else if x.2 = 1 then v else withError 4 at_ lim v).toNat

/-- THD in 0.01 % (R794). -/
def thdOf (at_ : Nat) (g : List Nat) : Nat :=
  let g1 := g.getD 1 0
  let sq := ((List.range 64).filter fun h => decide (2 ≤ h ∧ h ≤ Config.thdOrder)).map fun h => g.getD h 0 * g.getD h 0
  min 0xFFFF (if g1 = 0 then (Config.mtrErr 5 at_ 0).toNat else rootOf sq.sum * 10000 / g1)

/-! ### Supraharmonic bands (R796, R797) -/

/-- The samples under a Hann window. -/
def hann (xs : List Int) : List Int :=
  xs.zipIdx.map fun x => x.1 * (2 ^ 60 - cosTurn x.2 xs.length) / 2 ^ 61

/-- Band `b` of samples over 200 ms in the samples' unit: the root-sum-square of its 40 bins of 5 Hz (R796), divided by the sinc3
response at its centre (R797), with the modulator clock `freq` in 10 kHz. DEDUCED (log entry 93): the bins are scaled by the energy of
the Hann window, so that a tone reads its RMS. -/
def supraBand (freq : Nat) (xs : List Int) (b : Nat) : Nat :=
  let w := hann xs
  let n := max 1 xs.length
  let sq := ((List.range 40).map fun i => magSq (dftBin w (400 + 40 * b + i))).sum
  let rms := rootOf (16 * sq / (3 * n * n)) / 2 ^ 60
  let f := 2100 + 200 * b
  let s1 := (sinTurn (64 * f) (20000 * freq)).natAbs
  let s2 := (64 * sinTurn f (20000 * freq)).natAbs
  rms * s2 ^ 3 / max 1 (s1 ^ 3)

end Sys2Proof.Machine
end

