-- ==== Sys2Proof/Machine/Outputs.lean ====
section
/-! DEFINITION. The output hold stage, OUT_EN, readback, HEALTHY's conditions, the hardware backup overcurrent elements and
output wear (02_module_interfaces.md, 11_protection.md). -/
namespace Sys2Proof.Machine

/-- Section 0x0F in force. -/
def sec0F (s : State) : Option Sec0F := s.cfg.secs.s0f

/-- A section 0x0F that maps nothing. -/
def none0F : Sec0F := ⟨[], [], [], [], [], 0, [], [], 2000, 0, 56, 0, 0⟩

/-- Section 0x0F with the output part of `new` and the rest of `old` (R985). -/
def outPart (old new : Option Sec0F) : Option Sec0F :=
  match new with
  | none => old.map fun o => { o with pulse := [], spares := [], rbset := [], rated := [], bkmap := [], outCrc := 0 }
  | some n =>
    let o := old.getD none0F
    some { o with pulse := n.pulse, spares := n.spares, rbset := n.rbset, rated := n.rated, bkmap := n.bkmap, outCrc := n.outCrc }

/-- Section 0x0F with the rest of `new` and the output part of `old`. -/
def restPart (old new : Option Sec0F) : Option Sec0F := outPart new old

/-- Load the registers of the backup elements (section 0x08) and of the rated operations (section 0x0F). -/
def loadProt (s : State) : State :=
  let s := (List.range 8).foldl (fun t e =>
    let b := (s.cfg.secs.s08.bind fun c => c.bks.get? e).getD ⟨false, false, 0, 0, 0, 0, 0⟩
    t.wrs [(Reg.OUT_BKCFG_EN e, b2n b.en), (Reg.OUT_BKCFG_MODE e, b2n b.nolead), (Reg.OUT_BKCFG_COUNT e, b.count),
      (Reg.OUT_BKCFG_CHMASK e, b.chmask), (Reg.OUT_BKCFG_THR e, b.thr), (Reg.OUT_BKTIM_DLY e, b.dly),
      (Reg.OUT_BKTIM_BKHOLD e, b.hold)]) s
  (List.range 40).foldl (fun t n => t.wr (Reg.OUT_RATED_RATED n) ((sec0F s |>.map (·.rated.getD n 0)).getD 0)) s

/-- A partner is configured: section 0x09 says so, or is absent (Table BRC-10). -/
def partnerCfg (s : State) : Bool :=
  match s.cfg.secs.s09 with
  | some c => c.partner
  | none => true

/-- The level of OUT_EN (R111, R112). -/
def outEn (s : State) : Bool :=
  s.fuses.suiteP && s.sup.inServ && !s.pwr.quiesced && !s.pwr.thermal && s.rd Reg.UPD_STAT_RCV = 0 && !coreDefault s &&
  (s.rd Reg.BRC_STAT_LSHOUT = 1 || !partnerCfg s)

/-- Half `h` is in RUN with protection in service (PRx_STAT.INSERV): it runs passes in IN_STEP or SUSPENDED. -/
def halfServes (s : State) (h : Nat) : Bool := s.runs (2 + h) && s.sup.inServ && 2 ≤ s.brace h

/-- The HEALTHY drive runs (R123). -/
def healthy (s : State) : Bool :=
  s.sup.armed && !s.pwr.quiesced && s.rd Reg.UPD_STAT_RCV = 0 && !s.pwr.thermal && s.rd Reg.SUP_CFGSTAT_DEF = 0 &&
  (if s.fuses.suiteP then (halfServes s 0 || halfServes s 1) && s.runs 5 && s.runs 6
   else s.sup.lightCtl && s.runs 1)

/-- The line that carries logical output `n`: its primary, or the spare it has moved to (R119). -/
def lineOf (s : State) (n : Nat) : Nat := s.pins.moved.getD n n

/-- The lines that requesting backup elements hold high; an output's moved line stands for its primary (R108, R975). -/
def bkLines (s : State) : Nat :=
  match sec0F s with
  | none => 0
  | some c =>
    s.bk.foldl (fun m p => if p.2.req then (c.bkmap.getD p.1 []).foldl (fun m l => m ||| one (lineOf s l)) m else m) 0

/-- The lines that are asked for: those of the vector, or, while the hold is engaged, those that were high before it (R107, R109); and
in either case those of the backup elements (R108). None from power-on until the first confirmed vector (R106), and none after step
5 of a quiesce (R101). -/
def askedLines (s : State) : Nat :=
  if !s.pins.first || s.pwr.quiesced then 0
  else if s.rd Reg.OUT_STAT_HOLD = 1 then bkLines s ||| s.pins.held
  else (ones 32 s.pins.vec).foldl (fun m n => m ||| one (lineOf s n)) (bkLines s)

/-- Tenths of rated operations that have passed. -/
def wearTenths (ops rated : Nat) : Nat := if rated = 0 then 0 else ops * 10 / rated

/-- The spare line of logical output `n`, while it is still free. -/
def spareOf (s : State) (n : Nat) : Option Nat :=
  match sec0F s with
  | none => none
  | some c =>
    if s.pins.moved.has n then none
    else (c.spares.find? fun p => p.2 = n && !(s.pins.moved.vals.contains p.1)).map (·.1)

/-- Count one operation of line `n` (R696), with a WEAR_MARK at each further 10 % (R697) and OUT_WEAR_LIMIT at the rated count
of a line whose output has no spare (R700). -/
def wearCount (s : State) (n : Nat) : State :=
  let s := s.inc (Reg.OUT_WEAR_OPS n)
  let ops := s.rd (Reg.OUT_WEAR_OPS n)
  let rated := s.rd (Reg.OUT_RATED_RATED n)
  let t := wearTenths ops rated
  let s := if s.wear.mark.getD n 0 < t then
      tallyAdd { s with wear := { s.wear with mark := s.wear.mark.set n t } } 2 (0x80 + n) n 0xFFFF (t * 10) 5 0
    else s
  if rated != 0 && rated ≤ ops && !s.wear.limit.contains n && (spareOf s n).isNone then
    ({ s with wear := { s.wear with limit := n :: s.wear.limit } }).event 0 Ev.OUT_WEAR_LIMIT 0 n [n]
  else s

/-- Bring OUT_CMD to what is asked for: the lines of the vector and the backup elements, less those a PULSE limit holds low.
A suite L module holds every line low (R10). Each rising line is timed, and counted while OUT_EN is high. -/
def refreshLines (s : State) : State :=
  let asked := if s.fuses.suiteP then askedLines s else 0
  let lim := s.pins.limited &&& asked
  let new := andNot 40 asked lim
  let old := s.pins.cmd
  let up := (ones 40 new).filter fun l => !bit old l
  let rose := up.foldl (fun m l => m.set l s.up) s.pins.rose
  let s := { s with pins := { s.pins with cmd := new, limited := lim, rose := rose } }
  if outEn s then up.foldl wearCount s else s

/-- Engage the hold with a cause: it keeps the levels of the cycle before the request (R107); a hold already engaged keeps its own. -/
def engageHold (s : State) (cause : Nat) : State :=
  let held := if s.rd Reg.OUT_STAT_HOLD = 1 then s.pins.held else s.pins.cmd
  ({ s with pins := { s.pins with held := held } }.raise Reg.OUT_STAT_HOLD).wr Reg.OUT_STAT_HOLDCAUSE cause

/-- The half that holds LEASH presents a vector. A confirmed one releases the hold and reaches the lines (R106, R109); a
provisional one only pre-arms (R649, R671). -/
def presentVector (s : State) (vec prearm : Nat) (confirmed : Bool) : State :=
  let s := { s with pins := { s.pins with prearm := prearm % 2 ^ 32 } }
  if confirmed then
    refreshLines (({ s with pins := { s.pins with vec := vec % 2 ^ 32, first := true } }).clr Reg.OUT_STAT_HOLD)
  else s

/-- OUTPUT_VECTOR_PRESENT (R106, R109): only the half that holds LEASH is heard. -/
def execOutputVectorPresent (h vec prearm : Nat) (confirmed : Bool) (s : State) : Host.Outcome State Fault Refusal :=
  done s <|
    if !s.fuses.suiteP || !s.isLead h || !s.runs (2 + h) then s else presentVector s vec prearm confirmed

/-- PULSE_LIMIT_EXPIRY (R110): a line of a PULSE output that has been high for its maximum goes low until it is asked for
afresh. -/
def execPulseLimitExpiry (line : Nat) (s : State) : Host.Outcome State Fault Refusal :=
  done s <|
    match sec0F s with
    | none => s
    | some c =>
      match (List.range 32).find? fun n => lineOf s n = line && c.pulse.has n with
      | none => s
      | some n =>
        if bit s.pins.cmd line && decide (s.pins.rose.getD line 0 + c.pulse.getD n 0 * 1000000 ≤ s.up) then
          refreshLines { s with pins := { s.pins with limited := s.pins.limited ||| one line } }
        else s

/-! ### Readback -/

/-- The readback differs from the command in a way that R115 (OUT_EN high) or R116 (OUT_EN low) flags. -/
def mismatch (s : State) (line : Nat) : Bool :=
  if outEn s then bit s.pins.rb line != bit s.pins.cmd line else bit s.pins.rb line

/-- Move logical output `n` to its spare: the SUBST record first, then the spare carries the output, its held level too, and the
primary stays low (R118, R119, R699). -/
def moveOutput (s : State) (n spare reason : Nat) : State :=
  let s := subst s 9 n spare (s.margin 9 - 1) reason 0
  let held := if bit s.pins.held n then andNot 40 s.pins.held (one n) ||| one spare else s.pins.held
  refreshLines { s with pins := { s.pins with held := held, moved := s.pins.moved.set n spare } }

/-- Flag a line in OUT_RBMIS, with its record when it is newly flagged (R115 to R117, R977). -/
def flagLine (s : State) (line : Nat) : State :=
  let f := Reg.OUT_RBMIS_MIS (line / 32)
  if bit (s.rd f) (line % 32) then s
  else (s.wr f (putBit (s.rd f) (line % 32) true)).event 0 Ev.OUT_RB_MISMATCH 0 line
    [line, b2n (bit s.pins.cmd line), b2n (bit s.pins.rb line)]

/-- A line has read back wrong for longer than RBSET: it is flagged, and a primary line that reads back low while commanded high gives
way to its spare, flagged before or not (R118). -/
def readWrong (s : State) (line : Nat) : State :=
  if !mismatch s line then s
  else
    let s := flagLine s line
    match spareOf s line with
    | some sp =>
      if line < 32 && bit s.pins.cmd line && !bit s.pins.rb line && lineOf s line = line then moveOutput s line sp 6 else s
    | none => s

/-- READBACK_MISMATCH (R115 to R119): OUT_RB of the line has differed for longer than RBSET. -/
def execReadbackMismatch (line : Nat) (high : Bool) (s : State) : Host.Outcome State Fault Refusal :=
  done s <| if 40 ≤ line then s else readWrong { s with pins := { s.pins with rb := putBit s.pins.rb line high } } line

/-- OUTPUT_WEAR_REMAP (R698, R699): a primary line at 90 % of its rated operations, whose output has been confirmed low with
nothing pre-armed for 1 s, gives way to its spare. -/
def execOutputWearRemap (line : Nat) (s : State) : Host.Outcome State Fault Refusal :=
  done s <|
    if 32 ≤ line || lineOf s line != line then s
    else match spareOf s line with
      | none => s
      | some sp =>
        let quiet := match s.wear.quiet.get? line with
          | some t => decide (t + 1000000000 ≤ s.up)
          | none => false
        if quiet && 9 ≤ wearTenths (s.rd (Reg.OUT_WEAR_OPS line)) (s.rd (Reg.OUT_RATED_RATED line)) then
          moveOutput s line sp 5
        else s

/-- Follow since when each output has been confirmed low with nothing pre-armed (R698). -/
def trackQuiet (s : State) : State :=
  let q := (List.range 32).foldl (fun (m : KMap Nat) n =>
    if bit s.pins.vec n || bit s.pins.prearm n then m.erase n
    else if m.has n then m else m.set n s.up) s.wear.quiet
  { s with wear := { s.wear with quiet := q } }

/-! ### Hardware backup overcurrent (R679 to R684) -/

/-- A backup element's settings. -/
def bkCfg (s : State) (e : Nat) : Option BkCfg :=
  match s.s08 with
  | some c => (c.bks.get? e).filter (·.en)
  | none => none

/-- Put an element's state and its bits of OUT_BKSTAT. -/
def setBk (s : State) (e : Nat) (b : BkSt) : State :=
  let s := { s with bk := s.bk.set e b }
  (s.wr Reg.OUT_BKSTAT_PICKUP (putBit (s.rd Reg.OUT_BKSTAT_PICKUP) e b.picked)).wr Reg.OUT_BKSTAT_REQ
    (putBit (s.rd Reg.OUT_BKSTAT_REQ) e b.req)

/-- The newest COUNT raw samples of a stream lie at or above THR: |x| in 0.1 % of full scale (R679, R785). -/
def atThreshold (c : BkCfg) (bits : List Bool) : Bool :=
  let l := decimate bits
  decide (c.count + 1 ≤ l.length) && (l.drop (l.length - (c.count + 1))).all fun x => decide (c.thr * 2 ^ 23 ≤ x.natAbs * 1000)

/-- BACKUP_OC_PICKUP (R679, R785): COUNT consecutive samples of an enabled channel at or above THR; `bits` are the channel's newest
modulator bits. A STUCK channel passes no sample (R784); a suite L module has no element (R8). -/
def execBackupOcPickup (e ch : Nat) (bits : List Bool) (s : State) : Host.Outcome State Fault Refusal :=
  done s <|
    match bkCfg s e with
    | none => s
    | some c =>
      let b := s.bk.getD e {}
      if 8 ≤ e || !s.fuses.suiteP || !s.runs 6 || b.picked || !bit c.chmask ch || bit (s.rd Reg.MTR_STUCK_STUCK) (4 * e + ch) ||
        !atThreshold c bits then s
      else setBk s e { b with picked := true, ch := ch, since := s.up }

/-- BACKUP_OC_TRIP (R141, R681, R683, R684): picked up for DLY, the element requests a trip; in mode NOLEAD only while no half holds
LEASH. DLY and BKHOLD are times, counted on the always-on clock, so they are the same at the configured decimated rate and at that
of 20 MHz. -/
def execBackupOcTrip (e ch : Nat) (s : State) : Host.Outcome State Fault Refusal :=
  done s <|
    match bkCfg s e with
    | none => s
    | some c =>
      let b := s.bk.getD e {}
      if 8 ≤ e || !s.runs 6 || !b.picked || b.req || s.up < b.since + c.dly * 1000000 || (c.nolead && s.lead.isSome) then s
      else
        let s := setBk s e { b with req := true }
        let s := s.wr Reg.OUT_BKSTAT_TRIPPED (putBit (s.rd Reg.OUT_BKSTAT_TRIPPED) e true)
        refreshLines (s.event 0 Ev.BACKUP_OC_TRIP 6 e [e, ch])

/-- BACKUP_OC_DROPOUT (R680): 12 ms without a sample at or above THR. -/
def execBackupOcDropout (e : Nat) (s : State) : Host.Outcome State Fault Refusal :=
  done s <|
    let b := s.bk.getD e {}
    if !b.picked || s.up < b.since + 12000000 then s else setBk s e { b with picked := false, since := s.up }

/-- A half has gained LEASH: the elements of mode NOLEAD request nothing (R683). -/
def bkYield (s : State) : State :=
  (List.range 8).foldl (fun s e =>
    let b := s.bk.getD e {}
    if b.req && ((bkCfg s e).map (·.nolead)).getD false then setBk s e { b with req := false } else s) s

/-- BACKUP_OC_HOLD_EXPIRY (R681): the request ends BKHOLD after the element dropped out. -/
def execBackupOcHoldExpiry (e : Nat) (s : State) : Host.Outcome State Fault Refusal :=
  done s <|
    let b := s.bk.getD e {}
    let hold := match s.s08 with
      | some c => ((c.bks.get? e).map (·.hold)).getD 0
      | none => 0
    if !b.req || b.picked || s.up < b.since + hold * 10000000 then s
    else refreshLines (setBk s e { b with req := false })

end Sys2Proof.Machine
end

