-- ==== Sys2Proof/Machine/Forward.lean ====
section
/-! DEFINITION. Switch ports, VLANs, redundancy boxes, the forwarding tables with their commands, and parity (the first
half of 10_process_bus.md). -/
namespace Sys2Proof.Machine

/-- Section 0x06 in force; its defaults put every port in VLAN 1 with PRP and HSR off. -/
def sec06 (s : State) : Sec06 :=
  s.cfg.secs.s06.getD
    { ports := [], vlans := [(1, ⟨0x7F, 0x7F, false⟩)], boxes := [], age := 300, statics := [], routed := [], rmac := 0 }

/-- The configuration of port `p`. -/
def portCfg (s : State) (p : Nat) : PortCfg := (sec06 s).ports.getD p ⟨false, 0, false, 0, 1⟩

/-- The VLAN `vid`; one the section does not name has no member. -/
def vlan (s : State) (vid : Nat) : Vlan := (sec06 s).vlans.getD vid ⟨0, 0, false⟩

/-- The box that port `p` belongs to, with its configuration, when it is not OFF. -/
def boxOf (s : State) (p : Nat) : Option (Nat × BoxCfg) :=
  if 4 ≤ p then none
  else match (sec06 s).boxes.get? (p / 2) with
    | some b => if b.mode = 1 || b.mode = 2 then some (p / 2, b) else none
    | none => none

/-- Change the forwarding state. -/
def State.setFwd (s : State) (f : Fwd) : State := { s with fwd := f }

/-! ### Entries -/

/-- The flush generation of a port (R598). -/
def portGen (s : State) (p : Nat) : Nat := s.fwd.gen.getD p 0

/-- An entry of table 0 that a lookup may find: static, or of its port's present flush generation (R598). -/
def macLive (s : State) (e : MacE) : Bool := e.fixed || e.gen = portGen s e.port

/-- The four cursors of a bucket. -/
def ways (b : Nat) : List Nat := [4 * b, 4 * b + 1, 4 * b + 2, 4 * b + 3]

/-- The bucket of a MAC in table 0. -/
def macWays (vid mac : Nat) : List Nat := ways (Config.macBucket vid mac % 16384)

/-- The bucket of a group in table 1. -/
def mcWays (vid mac : Nat) : List Nat := ways (Config.mcBucket vid mac % 1024)

/-- The bucket of a prefix in table 2. -/
def pfxWays (len pre : Nat) : List Nat := ways (Config.pfxBucket len pre % 4096)

/-- The key of a prefix's filter counter. -/
def filtKey (len pre : Nat) : Nat := len * 4096 + Config.pfxFilter len pre % 4096

/-- Find an entry of table 0: its cursor and the entry. -/
def macFind (s : State) (vid mac : Nat) : Option (Nat × MacE) :=
  (macWays vid mac).findSome? fun c =>
    match s.fwd.mac.get? c with
    | some e => if e.vid = vid && e.mac = mac && macLive s e then some (c, e) else none
    | none => none

/-- Find an entry of table 1. -/
def mcFind (s : State) (vid mac : Nat) : Option (Nat × McE) :=
  (mcWays vid mac).findSome? fun c =>
    match s.fwd.mc.get? c with
    | some e => if e.vid = vid && e.mac = mac then some (c, e) else none
    | none => none

/-- The top `len` bits of a 128-bit address, the others zero. -/
def topBits (addr len : Nat) : Nat := addr / 2 ^ (128 - len) * 2 ^ (128 - len)

/-- Find the entry of one prefix. -/
def pfxFind (s : State) (len pre : Nat) : Option (Nat × PfxE) :=
  (pfxWays len pre).findSome? fun c =>
    match s.fwd.pfx.get? c with
    | some e => if e.len = len && e.pre = pre then some (c, e) else none
    | none => none

/-- The longest-prefix lookup of R584: lengths in use from the longest down, each skipped where its filter counter is zero and
has not failed parity (R603); the entry found, or none. -/
def lpm (s : State) (badF : List Nat) (addr : Nat) : List Nat → Option (Nat × PfxE)
  | [] => none
  | len :: rest =>
    let pre := topBits addr len
    if s.fwd.filt.getD (filtKey len pre) 0 = 0 && !badF.contains (filtKey len pre) then lpm s badF addr rest
    else match pfxFind s len pre with
      | some r => some r
      | none => lpm s badF addr rest

/-- The prefix lengths in use, longest first (LENMAP). -/
def lensDown (s : State) : List Nat := s.fwd.lens.keys.reverse

/-- Whether a MAC is a group address. -/
def isGroup (mac : Nat) : Bool := bit mac 40

/-! ### Learning (R577 to R581) -/

/-- A cursor that a learned entry may take: empty, or holding an entry of an older flush generation. -/
def macFree (s : State) (cs : List Nat) : Option Nat :=
  cs.find? fun c => match s.fwd.mac.get? c with
    | some e => !macLive s e
    | none => true

/-- An entry learned after a flush began survives it (R600): the sweeps leave its cursor alone. -/
def keepFromSweeps (f : Fwd) (c : Nat) : Fwd :=
  { f with sweeps := f.sweeps.map fun p => (p.1, { p.2 with todo := p.2.todo.filter (· != c) }) }

/-- Put a learned entry at cursor `c`. -/
def macPut (s : State) (c : Nat) (e : MacE) : State :=
  s.setFwd { keepFromSweeps s.fwd c with mac := s.fwd.mac.set c e }

/-- Learn the source of a frame on port `p` (R577 to R581). -/
def learn (s : State) (p vid src : Nat) : State :=
  if 6 ≤ p || !(portCfg s p).learn || isGroup src then s
  else match macFind s vid src with
    | some (c, e) =>
      if e.fixed then (if e.port = p then s else s.inc Reg.FWD_CNT1_STATVIOL)
      else
        let s' := macPut s c ⟨vid, src, p, false, portGen s p, s.now⟩
        if e.port = p then s' else s'.inc Reg.FWD_CNT1_MOVES
    | none =>
      match macFree s (macWays vid src) with
      | some c => macPut s c ⟨vid, src, p, false, portGen s p, s.now⟩
      | none => s.inc Reg.FWD_CNT0_LEARNFULL

/-! ### Parity (R602 to R606) -/

/-- The counter of FWD_PARCNT for table `t`: 0, 1 MACT; 2, 3 PFX; 4, 5 (duplicate tables, filters) DUPT; 6 SUB. -/
def parFld (t : Nat) : Fld :=
  if t < 2 then Reg.FWD_PARCNT_MACT else if t < 4 then Reg.FWD_PARCNT_PFX
  else if t < 6 then Reg.FWD_PARCNT_DUPT else Reg.FWD_PARCNT_SUB

/-- Count and record a parity failure of table `t` at `idx`, at most one record a second a table (R605). -/
def parityNote (s : State) (t idx : Nat) : State :=
  let s := (s.inc (parFld t)).raise Reg.FWD_EVT_PARERR
  let due := match s.fwd.parAt.get? t with
    | some x => decide (x + 1000000000 ≤ s.now)
    | none => true
  if due then (s.setFwd { s.fwd with parAt := s.fwd.parAt.set t s.now }).event 0 Ev.FWD_PARITY 5 0 [t, idx] else s

/-- Drop the counters of an invalidated prefix. -/
def pfxForget (f : Fwd) (e : PfxE) : Fwd :=
  let k := filtKey e.len e.pre
  let n := f.filt.getD k 0
  let filt := if n = 15 then f.filt else if n ≤ 1 then f.filt.erase k else f.filt.set k (n - 1)
  let m := f.lens.getD e.len 0
  { f with filt := filt, lens := if m ≤ 1 then f.lens.erase e.len else f.lens.set e.len (m - 1) }

/-- An entry fails parity: it is invalidated, counted and recorded (R603, R605). A filter counter stays. -/
def parityHit (s : State) (t idx : Nat) : State :=
  let f := s.fwd
  match t with
  | 0 => if f.mac.has idx then parityNote (s.setFwd { f with mac := f.mac.erase idx }) t idx else s
  | 1 => if f.mc.has idx then parityNote (s.setFwd { f with mc := f.mc.erase idx }) t idx else s
  | 2 => if f.pfx.has idx then parityNote (s.setFwd { f with pfx := f.pfx.erase idx }) t idx else s
  | 3 => if f.nh.has idx then parityNote (s.setFwd { f with nh := f.nh.erase idx }) t idx else s
  | 4 =>
    let b := idx / 8192
    let l := f.dup.getD b []
    if idx % 8192 < l.length then
      parityNote (s.setFwd { f with dup := f.dup.set b (l.eraseIdx (idx % 8192)) }) t idx
    else s
  | 5 => parityNote s t idx
  | _ => s

/-- Each of a frame's parity failures in turn. -/
def parityHits (s : State) (bad : List (Nat × Nat)) : State := bad.foldl (fun t p => parityHit t p.1 p.2) s

/-! ### Redundancy boxes (R572 to R576) -/

/-- The duplicate check of box `b` for the pair (source, sequence number): whether the copy is new, and the table after it. -/
def dupCheck (s : State) (b ddlife src seq : Nat) : State × Bool :=
  let l := s.fwd.dup.getD b []
  if l.any fun e => e.1 = src && e.2.1 = seq && decide (s.now < e.2.2 + ddlife * 1000000) then (s, false)
  else
    let l := l.filter fun e => !(e.1 = src && e.2.1 = seq)
    let full := decide (8192 ≤ l.length)
    let l' := (if full then l.drop 1 else l) ++ [(src, seq, s.now)]
    let s := s.setFwd { s.fwd with dup := s.fwd.dup.set b l' }
    (if full then (s.inc Reg.FWD_CNT1_DDOVF).raise Reg.FWD_EVT_DDOVF else s, true)

/-- Send a frame out of port `p`: queue by PCP (R571), tagged unless the port is in the untagged mask (R570). A box sends it
on both of its ports with its next sequence number and each port's LAN (R572, R573). -/
def sendOut (s : State) (vid pcp src dst hop p : Nat) : State :=
  if p < 6 && !(portCfg s p).en then s
  else
    let e (q : Nat) (rct : Option (Nat × Nat)) : Egress :=
      { port := q, queue := pcp % 8, tag := if bit (vlan s vid).untagged q then none else some (vid, pcp),
        src := src, dst := dst, hop := hop, rct := rct }
    match boxOf s p with
    | some (b, _) =>
      let n := s.fwd.boxSeq.getD b 0
      s.setFwd { s.fwd with
        egress := s.fwd.egress ++ [e (2 * b) (some (n, 0)), e (2 * b + 1) (some (n, 1))],
        boxSeq := s.fwd.boxSeq.set b ((n + 1) % 65536) }
    | none => s.setFwd { s.fwd with egress := s.fwd.egress ++ [e p none] }

/-- Of the ports, one of each active box. -/
def onePerBox (s : State) (ps : List Nat) : List Nat :=
  ps.filter fun p => match boxOf s p with
    | some (b, _) => p = 2 * b || !ps.contains (2 * b)
    | none => true

/-- The ports a frame that entered at `p` may not leave by: `p`, and with an active box its other port. -/
def backPorts (s : State) (p : Nat) : List Nat :=
  match boxOf s p with
  | some (b, _) => [2 * b, 2 * b + 1]
  | none => [p]

/-- The members of a VLAN other than the ingress port. -/
def floodPorts (s : State) (vid p : Nat) : List Nat :=
  (ones 7 (vlan s vid).member).filter fun q => !(backPorts s p).contains q

/-- Forward a frame by tables 0 and 1 (R582, R583): the ports it leaves by. -/
def bridgePorts (s : State) (vid dst p : Nat) : List Nat :=
  if dst = 0xFFFFFFFFFFFF then floodPorts s vid p
  else if isGroup dst then
    match mcFind s vid dst with
    | some (_, e) => (floodPorts s vid p).filter fun q => bit e.pmask q
    | none => if (vlan s vid).mcDrop then [] else floodPorts s vid p
  else match macFind s vid dst with
    | some (_, e) =>
      if (backPorts s p).contains e.port || !bit (vlan s vid).member e.port then [] else [e.port]
    | none => floodPorts s vid p

/-- Send a frame out of each of the ports. -/
def sendAll (s : State) (vid pcp src dst hop : Nat) (ps : List Nat) : State :=
  (onePerBox s ps).foldl (fun t p => sendOut t vid pcp src dst hop p) s

/-- Route or forward a frame of VLAN `vid` (R582 to R586). A next hop's port must be a member of its VLAN (R570). -/
def forward (s : State) (badF : List Nat) (f : SwFrame) (vid pcp : Nat) : State :=
  let c := sec06 s
  if c.rmac != 0 && f.dst = c.rmac then
    let hit := if f.etype = 0x86DD && c.routed.contains vid then (lpm s badF f.dip (lensDown s)).map (·.2.nh) else none
    match hit with
    | some n =>
      match s.fwd.nh.get? n with
      | some e =>
        if n != 0 && 1 < f.hop then if !bit (vlan s e.vid).member e.port then s else sendOut s e.vid pcp c.rmac e.mac (f.hop - 1) e.port
        else sendOut s vid pcp f.src f.dst f.hop 6
      | none => sendOut s vid pcp f.src f.dst f.hop 6
    | none => sendOut s vid pcp f.src f.dst f.hop 6
  else sendAll s vid pcp f.src f.dst f.hop (bridgePorts s vid f.dst f.port)

/-- The VID and priority of a frame (R568). -/
def classify (s : State) (f : SwFrame) : Nat × Nat :=
  let c := portCfg s f.port
  match f.tag with
  | none => (c.pvid, c.defpri)
  | some (0, p) => (c.pvid, p)
  | some (v, p) => (v, p)

/-- A tagged frame that its port's VLAN membership refuses (R569); the halves' ports are in no VLAN and are not checked. -/
def vlanRefuses (s : State) (f : SwFrame) : Bool :=
  match f.tag with
  | some (v, _) => v != 0 && decide (f.port < 7) && (v = 0xFFF || !bit (vlan s v).member f.port)
  | none => false

/-- The rest of a frame's way after the box: VLAN, learning, forwarding. -/
def switchIn (s : State) (badF : List Nat) (f : SwFrame) : State :=
  if vlanRefuses s f then s.inc Reg.FWD_CNT0_VLANDROP
  else
    let (vid, pcp) := classify s f
    forward (learn s f.port vid f.src) badF f vid pcp

/-- A partner frame: it goes to no other port (R748). -/
def partnerFrame (f : SwFrame) : Bool := f.port = 5 && f.etype = 0x88B5 && f.tag.isNone && f.dst = 0xFFFFFFFFFFFF

/-- SWITCH_FRAME_RECEIVED (R567 to R586, R602 to R605): a frame with a good FCS on an enabled port. `bad` names the entries
that fail parity at their reads. -/
def execSwitchFrameReceived (f : SwFrame) (bad : List (Nat × Nat)) (s : State) : Host.Outcome State Fault Refusal :=
  done s <|
    if !s.runs 5 || !f.fcsOk || (f.port < 6 && !(portCfg s f.port).en) || partnerFrame f then s
    else
      let badF := (bad.filter fun p => p.1 = 5).map (·.2)
      let s := parityHits (s.setFwd { s.fwd with egress := [] }) bad
      match boxOf s f.port with
      | none => switchIn s badF f
      | some (b, c) =>
        if c.mode = 2 && f.fromUs then s
        else
          let (s, fresh) := match f.seq with
            | some q => dupCheck s b c.ddlife f.src q
            | none => (s, true)
          if !fresh then s
          else
            let s := switchIn s badF f
            if c.mode = 2 && !f.toUs then
              let other := 4 * b + 1 - f.port
              let e : Egress :=
                { port := other, queue := (classify s f).2 % 8, tag := f.tag, src := f.src, dst := f.dst, hop := f.hop,
                  rct := f.seq.map fun q => (q, other % 2) }
              s.setFwd { s.fwd with egress := s.fwd.egress ++ [e] }
            else s

/-! ### Links (R561 to R565) and flushes (R598 to R601) -/

/-- Start a flush of port `p`: with VID 0 the port's generation advances, so that its older entries miss at once; the sweep
has the port's learned entries (of the VLAN) to remove. -/
def startSweep (s : State) (p vid : Nat) (tag : Option Nat) : State :=
  let f := s.fwd
  let todo := (f.mac.filter fun c => !c.2.fixed && c.2.port = p && (vid = 0 || c.2.vid = vid) && macLive s c.2).map (·.1)
  s.setFwd { f with
    gen := if vid = 0 then f.gen.set p ((portGen s p + 1) % 16) else f.gen,
    sweeps := f.sweeps.set p ⟨vid, tag, todo⟩ }

/-- A flush: at once, or after the sweep of the port that runs (R601). -/
def flush (s : State) (p vid : Nat) (tag : Option Nat) : State :=
  if s.fwd.sweeps.has p then s.setFwd { s.fwd with waiting := s.fwd.waiting ++ [(p, vid, tag)] }
  else startSweep s p vid tag

/-- The first waiting flush of port `p`, and the others. -/
def takeFlush (p : Nat) : List (Nat × Nat × Option Nat) → Option ((Nat × Nat × Option Nat) × List (Nat × Nat × Option Nat))
  | [] => none
  | w :: l => if w.1 = p then some (w, l) else (takeFlush p l).map fun r => (r.1, w :: r.2)

/-- FLUSH_SWEEP_DONE (R598 to R601): the sweep's entries are gone; the command is answered with COUNT; a flush of the port
that waited begins. -/
def execFlushSweepDone (port : Nat) (s : State) : Host.Outcome State Fault Refusal :=
  done s <|
    match s.fwd.sweeps.get? port with
    | none => s
    | some w =>
      let gone := w.todo.filter fun c => s.fwd.mac.has c
      let f := s.fwd
      let s := s.setFwd { f with
        mac := gone.foldl (fun m c => m.erase c) f.mac, sweeps := f.sweeps.erase port }
      let s := match w.tag with
        | some t => s.respond 0x0705 t 0 (le 4 gone.length)
        | none => s
      match takeFlush port s.fwd.waiting with
      | some ((p, v, t), rest) => startSweep (s.setFwd { s.fwd with waiting := rest }) p v t
      | none => s

/-- LINK_UP (R562, R563): an enabled port whose PCS has held for 10 ms. -/
def execLinkUp (port : Nat) (s : State) : Host.Outcome State Fault Refusal :=
  done s <|
    if !s.runs 5 || 6 ≤ port || !(portCfg s port).en || s.rd (Reg.FWD_PORTSTAT_LINK port) = 1 then s
    else
      ((((s.raise (Reg.FWD_PORTSTAT_LINK port)).raise (Reg.FWD_PORTSTAT_PCSOK port)).clr (Reg.FWD_PORTSTAT_RXLOS port)).raise
        Reg.FWD_EVT_LINKCHG).event
        7 Ev.LINK_UP 5 0 [port]

/-- LINK_DOWN (R562 to R564): one of the two conditions has failed for 1 ms; the port's learned entries are flushed as by FWD_FLUSH with
VID 0. -/
def execLinkDown (port : Nat) (pcs los : Bool) (s : State) : Host.Outcome State Fault Refusal :=
  done s <|
    if !s.runs 5 || 6 ≤ port || (pcs && !los) || s.rd (Reg.FWD_PORTSTAT_LINK port) = 0 then s
    else
      flush (((s.wrs [(Reg.FWD_PORTSTAT_LINK port, 0), (Reg.FWD_PORTSTAT_PCSOK port, b2n pcs), (Reg.FWD_PORTSTAT_RXLOS port, b2n los)]).raise
        Reg.FWD_EVT_LINKCHG).event
        7 Ev.LINK_DOWN 5 0 [port]) port 0 none

/-- TX_DIS of a cage is low only while its port is enabled and MOD_ABS is low (R565). -/
def driveTxDis (s : State) (p : Nat) : State :=
  let low := (portCfg s p).en && s.rd (Reg.FWD_PORTSTAT_MODABS p) = 0 && s.runs 5
  s.setFwd { s.fwd with txDis := putBit s.fwd.txDis p (!low) }

/-- MOD_ABS_CHANGE (R565). -/
def execModAbsChange (port : Nat) (absent : Bool) (s : State) : Host.Outcome State Fault Refusal :=
  done s <|
    if !s.runs 5 || 6 ≤ port then s
    else driveTxDis (s.wr (Reg.FWD_PORTSTAT_MODABS port) (b2n absent)) port

/-- MAC_ENTRY_AGE_OUT (R580): a learned entry not refreshed for AGE seconds goes. -/
def execMacEntryAgeOut (cursor : Nat) (s : State) : Host.Outcome State Fault Refusal :=
  done s <|
    match s.fwd.mac.get? cursor with
    | some e =>
      if !e.fixed && decide (e.at_ + s.rd Reg.FWD_AGE_AGE * 1000000000 ≤ s.now) then
        s.setFwd { s.fwd with mac := s.fwd.mac.erase cursor }
      else s
    | none => s

/-- PARITY_RESTORE (R604): an invalidated entry that has a shadow copy comes back. -/
def execParityRestore (table idx : Nat) (s : State) : Host.Outcome State Fault Refusal :=
  done s <|
    let f := s.fwd
    if !s.runs 5 then s
    else match table with
      | 0 => match f.shMac.get? idx with
        | some e => s.setFwd { f with mac := f.mac.set idx e }
        | none => s
      | 1 => match f.shMc.get? idx with
        | some e => s.setFwd { f with mc := f.mc.set idx e }
        | none => s
      | 2 => match f.shPfx.get? idx with
        | some e => s.setFwd { f with pfx := f.pfx.set idx e }
        | none => s
      | 3 => match f.shNh.get? idx with
        | some e => s.setFwd { f with nh := f.nh.set idx e }
        | none => s
      | _ => s

/-! ### Adding and deleting entries (R581, R587, R589, R595, R597) -/

/-- The oldest learned entry among cursors. -/
def oldestLearned (s : State) (cs : List Nat) : Option Nat :=
  (cs.foldl (fun (b : Option (Nat × Nat)) c =>
    match s.fwd.mac.get? c with
    | some e => if e.fixed then b else
        match b with
        | some (_, t) => if e.at_ < t then some (c, e.at_) else b
        | none => some (c, e.at_)
    | none => b) none).map (·.1)

/-- Add a static entry; `none` when its bucket or the length map is full (with the status). -/
def addEnt (s : State) (e : FwdEnt) : Except Nat State :=
  let f := s.fwd
  match e with
  | .mac vid mac port =>
    let x : MacE := ⟨vid, mac, port, true, 0, s.now⟩
    let put (c : Nat) : State :=
      s.setFwd { keepFromSweeps f c with mac := f.mac.set c x, shMac := f.shMac.set c x }
    match macFind s vid mac with
    | some (c, _) => .ok (put c)
    | none =>
      match macFree s (macWays vid mac) with
      | some c => .ok (put c)
      | none =>
        match oldestLearned s (macWays vid mac) with
        | some c => .ok (put c)
        | none => .error 0x81
  | .mc vid mac pmask =>
    let x : McE := ⟨vid, mac, pmask⟩
    let put (c : Nat) : State := s.setFwd { f with mc := f.mc.set c x, shMc := f.shMc.set c x }
    match mcFind s vid mac with
    | some (c, _) => .ok (put c)
    | none =>
      match (mcWays vid mac).find? fun c => !f.mc.has c with
      | some c => .ok (put c)
      | none => .error 0x81
  | .pfx pre len nh =>
    let x : PfxE := ⟨pre, len, nh⟩
    match pfxFind s len pre with
    | some (c, _) => .ok (s.setFwd { f with pfx := f.pfx.set c x, shPfx := f.shPfx.set c x })
    | none =>
      if !f.lens.has len && 32 ≤ f.lens.length then .error 0x82
      else match (pfxWays len pre).find? fun c => !f.pfx.has c with
        | some c =>
          let k := filtKey len pre
          .ok (s.setFwd { f with
            pfx := f.pfx.set c x, shPfx := f.shPfx.set c x,
            filt := f.filt.set k (min 15 (f.filt.getD k 0 + 1)), lens := f.lens.set len (f.lens.getD len 0 + 1) })
        | none => .error 0x81
  | .nh idx vid port mac => .ok (s.setFwd { f with nh := f.nh.set idx ⟨vid, port, mac⟩, shNh := f.shNh.set idx ⟨vid, port, mac⟩ })
  | .eui _ => .error 0x84

/-- Delete an entry; the status where it cannot be. -/
def delEnt (s : State) (e : FwdEnt) : Except Nat State :=
  let f := s.fwd
  match e with
  | .mac vid mac _ =>
    match macFind s vid mac with
    | some (c, _) => .ok (s.setFwd { f with mac := f.mac.erase c, shMac := f.shMac.erase c })
    | none => .error 0x80
  | .mc vid mac _ =>
    match mcFind s vid mac with
    | some (c, _) => .ok (s.setFwd { f with mc := f.mc.erase c, shMc := f.shMc.erase c })
    | none => .error 0x80
  | .pfx pre len _ =>
    match pfxFind s len pre with
    | some (c, x) => .ok (s.setFwd { pfxForget f x with pfx := f.pfx.erase c, shPfx := f.shPfx.erase c })
    | none => .error 0x80
  | .nh idx _ _ _ =>
    if !f.nh.has idx then .error 0x80
    else if f.pfx.any fun p => p.2.nh = idx then .error 0x83
    else .ok (s.setFwd { f with nh := f.nh.erase idx, shNh := f.shNh.erase idx })
  | .eui _ => .error 0x84

/-- The entries of section 0x06 go into the tables (R597). -/
def addAll (s : State) (l : List FwdEnt) : State :=
  l.foldl (fun t e => match addEnt t e with
    | .ok t' => t'
    | .error _ => t) s

/-- The table an entry or key belongs to. -/
def entTable : FwdEnt → Nat
  | .mac _ _ _ => 0 | .mc _ _ _ => 1 | .pfx _ _ _ => 2 | .nh _ _ _ _ => 3 | .eui _ => 4

/-- The fields of an entry lie within Table PBUS-4. -/
def entOk : FwdEnt → Bool
  | .mac vid mac port => decide (1 ≤ vid) && decide (vid ≤ 4094) && decide (mac < 2 ^ 48) && decide (port ≤ 6)
  | .mc vid mac pmask => decide (1 ≤ vid) && decide (vid ≤ 4094) && decide (mac < 2 ^ 48) && decide (pmask < 128)
  | .pfx pre len nh => decide (len ≤ 128) && decide (pre < 2 ^ 128) && decide (topBits pre len = pre) && decide (nh ≤ 1023)
  | .nh idx vid port mac =>
    decide (1 ≤ idx) && decide (idx ≤ 1023) && decide (1 ≤ vid) && decide (vid ≤ 4094) && decide (port ≤ 5) && decide (mac < 2 ^ 48)
  | .eui e => decide (e < 2 ^ 64)

/-- An entry in the form of Table PBUS-4. -/
def macBytes (s : State) (e : MacE) : List Byte :=
  be 6 e.mac ++ le 2 e.vid ++ le 1 e.port ++ le 1 (b2n e.fixed) ++
    le 2 (if e.fixed then 0 else min 0xFFFF ((s.now - e.at_) / 1000000000)) ++ zeros 4

@[inherit_doc macBytes] def mcBytes (e : McE) : List Byte := be 6 e.mac ++ le 2 e.vid ++ le 2 e.pmask ++ zeros 6

@[inherit_doc macBytes] def pfxBytes (e : PfxE) : List Byte := be 16 e.pre ++ le 1 e.len ++ zeros 1 ++ le 2 e.nh

@[inherit_doc macBytes] def nhBytes (i : Nat) (e : NhE) : List Byte := le 2 i ++ le 2 e.vid ++ le 1 e.port ++ zeros 1 ++ be 6 e.mac

@[inherit_doc macBytes] def lanternBytes (s : State) (ln : Nat) (n : Node) : List Byte :=
  be 8 n.rcd.eui ++ le 3 ln ++ le 1 (s.rd Reg.LNT_STAT_GEN % 256)

/-- The payload of FWD_SEARCH: the entry that a hardware lookup of the key finds (R592). -/
def searchEnt (s : State) (e : FwdEnt) : Option (List Byte) :=
  match e with
  | .mac vid mac _ => (macFind s vid mac).map fun r => macBytes s r.2
  | .mc vid mac _ => (mcFind s vid mac).map fun r => mcBytes r.2
  | .pfx addr _ _ => (lpm s [] addr (lensDown s)).map fun r => pfxBytes r.2
  | .nh idx _ _ _ => (s.fwd.nh.get? idx).map (nhBytes idx)
  | .eui x => (s.lnt.nodes.find? fun p => p.2.rcd.eui = x).map fun p => lanternBytes s p.1 p.2

/-- FWD_SEARCH (R592). -/
def execFwdSearch (tag table : Nat) (key : FwdEnt) (s : State) : Host.Outcome State Fault Refusal :=
  done s <| command s 0x0701 tag fun s =>
    if 4 < table || entTable key != table then deny s St.BAD_PARAM
    else match searchEnt s key with
      | some b => okay s b
      | none => deny s 0x80

/-- The valid entries of a table by cursor, in their form. -/
def tableRows (s : State) (t : Nat) : List (Nat × List Byte) :=
  match t with
  | 0 => (s.fwd.mac.filter fun p => macLive s p.2).map fun p => (p.1, macBytes s p.2)
  | 1 => s.fwd.mc.map fun p => (p.1, mcBytes p.2)
  | 2 => s.fwd.pfx.map fun p => (p.1, pfxBytes p.2)
  | 3 => s.fwd.nh.map fun p => (p.1, nhBytes p.1 p.2)
  | _ => s.lnt.nodes.map fun p => (p.1, lanternBytes s p.1 p.2)

/-- The NEXT limit and the last cursor of a table (Table PBUS-4). -/
def nextLimit (t : Nat) : Nat := if t < 2 then 14 else if t = 2 then 11 else 19

@[inherit_doc nextLimit] def lastCursor (t : Nat) : Nat :=
  match t with
  | 0 => 65535 | 1 => 4095 | 2 => 16383 | 3 => 1023 | _ => 131071

/-- FWD_NEXT (R593, R594). -/
def execFwdNext (tag table cursor mx : Nat) (s : State) : Host.Outcome State Fault Refusal :=
  done s <| command s 0x0702 tag fun s =>
    if 4 < table || mx = 0 || nextLimit table < mx || 2 ^ 32 ≤ cursor then deny s St.BAD_PARAM
    else
      let rows := (tableRows s table).filter fun r => cursor ≤ r.1
      let got := rows.take mx
      let next := if rows.length ≤ mx then
          (match got.getLast? with
            | some r => if mx ≤ rows.length && r.1 < lastCursor table then r.1 + 1 else 0xFFFFFFFF
            | none => 0xFFFFFFFF)
        else (match got.getLast? with
          | some r => r.1 + 1
          | none => 0xFFFFFFFF)
      okay s (le 4 next ++ le 1 got.length ++ zeros 3 ++ got.flatMap (·.2))

/-- FWD_ADD (R595, R597). -/
def execFwdAdd (tag table : Nat) (ent : FwdEnt) (s : State) : Host.Outcome State Fault Refusal :=
  done s <| command s 0x0703 tag fun s =>
    if table = 4 then deny s 0x84
    else if 4 < table || entTable ent != table || !entOk ent then deny s St.BAD_PARAM
    else match addEnt s ent with
      | .ok t => okay (edited t 6) []
      | .error e => deny s e

/-- FWD_DEL (R595). -/
def execFwdDel (tag table : Nat) (key : FwdEnt) (s : State) : Host.Outcome State Fault Refusal :=
  done s <| command s 0x0704 tag fun s =>
    if table = 4 then deny s 0x84
    else if 4 < table || entTable key != table then deny s St.BAD_PARAM
    else match delEnt s key with
      | .ok t => okay (edited t 6) []
      | .error e => deny s e

/-- FWD_FLUSH (R598, R599): the response follows at the end of the sweep. -/
def execFwdFlush (tag port vid : Nat) (s : State) : Host.Outcome State Fault Refusal :=
  done s <| command s 0x0705 tag fun s =>
    if 5 < port || 4094 < vid then deny s St.BAD_PARAM
    else later (flush s port vid (some tag))

/-! ### Section 0x06 (R561, R565, R597, Table BOOT-9) -/

/-- Load the registers of section 0x06 and drive TX_DIS of each cage. -/
def loadPorts (s : State) : State :=
  let s := (List.range 6).foldl (fun s p =>
    let c := portCfg s p
    driveTxDis (s.wrs [(Reg.FWD_PORTCFG_EN p, b2n c.en), (Reg.FWD_PORTCFG_SPEED p, c.speed), (Reg.FWD_PORTCFG_LEARN p, b2n c.learn),
      (Reg.FWD_PORTCFG_DEFPRI p, c.defpri), (Reg.FWD_PORTCFG_PVID p, c.pvid)]) p) s
  let s := (List.range 2).foldl (fun s b =>
    let c := (sec06 s).boxes.getD b ⟨0, 400⟩
    s.wrs [(Reg.FWD_RBOX_MODE b, c.mode), (Reg.FWD_RBOX_DDLIFE b, c.ddlife)]) s
  s.wr Reg.FWD_AGE_AGE (sec06 s).age

/-- Section 0x06 at a start of the module: its entries and no other. -/
def startForward (s : State) : State :=
  addAll (loadPorts (s.setFwd { txDis := s.fwd.txDis })) (sec06 s).statics

/-- The entries that the shadow copies hold, in the order of deletion. -/
def shadowEnts (s : State) : List FwdEnt :=
  (s.fwd.shPfx.map fun (p : Nat × PfxE) => FwdEnt.pfx p.2.pre p.2.len p.2.nh) ++
  (s.fwd.shNh.map fun (p : Nat × NhE) => FwdEnt.nh p.1 p.2.vid p.2.port p.2.mac) ++
  (s.fwd.shMc.map fun (p : Nat × McE) => FwdEnt.mc p.2.vid p.2.mac p.2.pmask) ++
  (s.fwd.shMac.map fun (p : Nat × MacE) => FwdEnt.mac p.2.vid p.2.mac p.2.port)

/-- The NET domain is loaded again without a start of the module: every entry of the shadow copies returns (R155, R597). -/
def reloadForward (s : State) : State :=
  let l := (shadowEnts s).reverse
  addAll (loadPorts (s.setFwd { txDis := s.fwd.txDis })) l

/-- One entry after another, as FWD_DEL and FWD_ADD do; `none` when one of them is refused. -/
def entsAll (f : State → FwdEnt → Except Nat State) : List FwdEnt → State → Option State
  | [], s => some s
  | e :: l, s => match f s e with
    | .ok t => entsAll f l t
    | .error _ => none

/-- A new section 0x06 in force at runtime: entries it does not have go, those it has and the tables do not are added. -/
def applyForward (s : State) : Option State :=
  let want := (sec06 s).statics
  let held := shadowEnts s
  let s := loadPorts s
  (entsAll delEnt (held.filter fun e => !want.contains e) s).bind fun s =>
    entsAll addEnt (want.filter fun e => !held.contains e) s

end Sys2Proof.Machine
end

