-- ==== Sys2Proof/Machine/Subscribe.lean ====
section
/-! DEFINITION. Sampled values and GOOSE on their way to the halves (the second half of 10_process_bus.md). -/
namespace Sys2Proof.Machine

/-- Fields of a kennel word: (low bit, width, value). -/
def kword (l : List (Nat × Nat × Nat)) : Nat := l.foldl (fun a f => a + (f.2.2 % 2 ^ f.2.1) * 2 ^ f.1) 0

/-- Bytes as 64-bit words, byte 0 in bits 7:0. -/
def words64 : Nat → List Byte → List Nat
  | 0, _ => []
  | n + 1, l => if l.isEmpty then [] else fromLe (l.take 8) :: words64 n (l.drop 8)

/-- The kennels of SV subscription `i` towards half A and half B (R612). -/
def svKennels (i : Nat) : Nat × Nat := (32 + i % 15, 48 + i % 15)

/-- Set or clear bit `i` of an array of 32-bit registers. -/
def putActive (s : State) (reg : Nat → Fld) (i : Nat) (b : Bool) : State :=
  s.wr (reg (i / 32)) (putBit (s.rd (reg (i / 32))) (i % 32) b)

/-- Section 0x07 in force. -/
def sec07 (s : State) : Sec07 := s.cfg.secs.s07.getD ⟨[], [], 0⟩

/-- An SV subscription at work. -/
def svRun (s : State) (i : Nat) : SvRun := s.fwd.sv.getD i {}

/-- Change an SV subscription at work. -/
def setSv (s : State) (i : Nat) (r : SvRun) : State := s.setFwd { s.fwd with sv := s.fwd.sv.set i r }

/-- A GOOSE subscription at work. -/
def goRun (s : State) (i : Nat) : GoRun := s.fwd.go.getD i {}

/-- Change a GOOSE subscription at work. -/
def setGo (s : State) (i : Nat) (r : GoRun) : State := s.setFwd { s.fwd with go := s.fwd.go.set i r }

/-- A u32 counter that wraps. -/
def up32 (n k : Nat) : Nat := (n + k) % 2 ^ 32

/-- The SAMPLE packet of an ASDU (Table PBUS-6). -/
def samplePkt (i deliv : Nat) (a : SvAsdu) : List Nat :=
  kword [(0, 7, 2 + a.chans.length), (7, 4, 1), (11, 4, a.port), (16, 7, i), (23, 3, a.idx), (26, 2, a.synch),
    (32, 16, a.smp), (48, 16, deliv)] :: (a.stamp % 2 ^ 64) ::
  a.chans.map fun c => kword [(0, 32, c.1), (32, 32, c.2)]

/-- The VERDICT packet of a delivered sample. -/
def verdictPkt (s : State) (i res : Nat) (c : SvCopy) : List Nat :=
  [kword [(0, 7, 2), (7, 4, 2), (16, 7, i), (24, 8, res), (32, 16, c.smp), (48, 16, c.deliv)], s.now % 2 ^ 64]

/-- The FRAME packet of an authenticated sample. -/
def framePkt (i : Nat) (c : SvCopy) (bytes : List Byte) : List Nat :=
  let ws := words64 62 bytes
  kword [(0, 7, 1 + ws.length), (7, 4, 3), (16, 7, i), (32, 11, bytes.length), (48, 16, c.deliv)] :: ws

/-- Deliver a new sample of subscription `i` by cut-through into both halves' kennels in the same cycle (R611). -/
def svDeliver (s : State) (i : Nat) (a : SvAsdu) (miss : Nat) : State :=
  let r := svRun s i
  let deliv := (r.deliv + 1) % 65536
  let pkt := samplePkt i deliv a
  let (s, ta) := kPost s (svKennels i).1 pkt
  let (s, tb) := kPost s (svKennels i).2 pkt
  let c : SvCopy := ⟨a.frame, a.smp, deliv, a.stamp, r.last, ta, tb, none⟩
  setSv s i { r with
    last := some a.smp, deliv := deliv, wait := r.wait ++ [c],
    nDeliv := up32 r.nDeliv 1, nMiss := up32 r.nMiss miss }

/-- Post a packet about sample `c` into the kennels that took it (R616). -/
def svTell (s : State) (i : Nat) (c : SvCopy) (pkt : List Nat) : State :=
  let s := if c.tookA then (kPost s (svKennels i).1 pkt).1 else s
  if c.tookB then (kPost s (svKennels i).2 pkt).1 else s

/-- The verdict of sample `c` (R613), without what becomes of a held copy. A CHECKED verdict renews the stream, and brings a
lost one back (R621); another leaves the sample not delivered for R609. -/
def svVerdict (s : State) (i : Nat) (sub : SvSub) (c : SvCopy) (res : Nat) (bytes : List Byte) : State :=
  let s := svTell s i c (verdictPkt s i res c)
  let r := svRun s i
  let wait := r.wait.filter fun w => w.deliv != c.deliv
  if res = 0 then
    let s := if sub.auth.isSome then svTell s i c (framePkt i c bytes) else s
    let back := r.lost
    let s := setSv s i { r with
      wait := wait, done := (c.smp :: r.done).take (sub.rate / 2), nChk := up32 r.nChk 1, since := s.now, lastT := c.stamp, seen := true,
      lost := false, nDup := up32 r.nDup (b2n c.held.isSome) }
    let s := putActive s Reg.FWD_SVACT_ACT i true
    if back then s.event 1 Ev.SV_STREAM_BACK 5 0 [i] else s
  else
    setSv s i { r with wait := wait, nFail := up32 r.nFail 1, last := if r.last = some c.smp then c.prev else r.last }

/-- The verdict of a sample and what follows for its held copy: it is delivered after a failing verdict, with its own verdict
at once where its frame has ended (R613, R614). -/
def svEnd (s : State) (i : Nat) (sub : SvSub) (c : SvCopy) (res : Nat) (bytes : List Byte) : State :=
  let s := svVerdict s i sub c res bytes
  if res = 0 then s
  else match c.held with
    | none => s
    | some h =>
      let s := svDeliver s i h.asdu 0
      match h.res, (svRun s i).wait.getLast? with
      | some (r2, b2), some c2 => svVerdict s i sub c2 r2 b2
      | _, _ => s

/-- Count a discard of a stream (R610, R620). -/
def svReject (s : State) (i : Nat) : State :=
  let r := svRun s i
  setSv s i { r with nRej := up32 r.nRej 1 }

/-- An ASDU of a matched stream (R609, R610, R614, R615). -/
def svTake (s : State) (i : Nat) (sub : SvSub) (a : SvAsdu) : State :=
  let r := svRun s i
  if a.confrev != sub.confrev || sub.rate ≤ a.smp || (a.trailer && 496 < a.len) then svReject s i
  else if r.wait.any fun w => w.smp = a.smp then
    setSv s i { r with wait := r.wait.map fun w =>
      if w.smp = a.smp && w.held.isNone then { w with held := some ⟨a, none⟩ } else w }
  else match r.last with
    | none => svDeliver s i a 0
    | some l =>
      let d := (a.smp + sub.rate - l % sub.rate) % sub.rate
      if d = 0 then setSv s i { r with nDup := up32 r.nDup 1 }
      else if d ≤ sub.rate / 2 then svDeliver s i a (d - 1)
      else if r.done.contains a.smp then setSv s i { r with nDup := up32 r.nDup 1 }
      else svReject s i

/-- The two copies of the subscription match table (R606): one failing costs nothing, both failing hide the frame. -/
def matchCopies (s : State) (badCopies : Nat) : State × Bool :=
  if badCopies = 0 then (s, true)
  else if badCopies = 1 then (parityNote s 6 0, true)
  else (parityNote (parityNote s 6 0) 6 1, false)

/-- A port lies in PORTS; a box counts as both of its ports (Table PBUS-5). -/
def inPorts (s : State) (ports p : Nat) : Bool := (backPorts s p).any (bit ports)

/-- SV_ASDU_RECEIVED (R608 to R615): the last channel byte of an ASDU has arrived. -/
def execSvAsduReceived (a : SvAsdu) (badCopies : Nat) (s : State) : Host.Outcome State Fault Refusal :=
  done s <|
    if !s.runs 5 then s
    else
      let (s, ok) := matchCopies s badCopies
      if !ok then s
      else match (sec07 s).sv.find? fun p =>
          p.2.dmac = a.dmac && p.2.appid = a.appid && p.2.vid = a.vid && inPorts s p.2.ports a.port && p.2.svid = a.svid with
        | some (i, sub) => svTake s i sub a
        | none => s

/-- The frame's end for one subscription: verdicts for its samples, results for held copies. -/
def svFrameEnd (s : State) (frame res : Nat) (bytes : List Byte) (i : Nat) (sub : SvSub) : State :=
  let r := svRun s i
  let mine := r.wait.filter fun w => w.frame = frame
  let s := setSv s i { r with wait := r.wait.map fun w =>
    match w.held with
    | some h => if h.asdu.frame = frame then { w with held := some { h with res := some (res, bytes) } } else w
    | none => w }
  mine.foldl (fun t c =>
    match (svRun t i).wait.find? fun w => w.deliv = c.deliv with
    | some c' => svEnd t i sub c' res bytes
    | none => t) s

/-- The frame's end for samples matched before a boundary: they complete under the old subscription (R627), and leave what is kept for
the new one as it is. -/
def svOldEnd (s : State) (frame res : Nat) (bytes : List Byte) (i : Nat) (x : SvSub × SvRun) : State :=
  let r := svRun s i
  let f := Reg.FWD_SVACT_ACT (i / 32)
  let act := s.rd f
  let s := svFrameEnd (setSv s i x.2) frame res bytes i x.1
  let o := svRun s i
  let s := (setSv s i r).wr f act
  s.setFwd { s.fwd with svOld := if o.wait.isEmpty then s.fwd.svOld.erase i else s.fwd.svOld.set i (x.1, o) }

/-- SV_FRAME_END (R613, R614, R627): the FCS, or the abort, of a frame. `result` is of Table PBUS-7. -/
def execSvFrameEnd (frame result : Nat) (bytes : List Byte) (s : State) : Host.Outcome State Fault Refusal :=
  done s <|
    if !s.runs 5 || 3 < result then s
    else
      let s := s.fwd.svOld.foldl (fun t p => svOldEnd t frame result bytes p.1 p.2) s
      (sec07 s).sv.foldl (fun t p => svFrameEnd t frame result bytes p.1 p.2) s

/-- SV_STREAM_LOST (R621): 10 ms without a CHECKED verdict. -/
def execSvStreamLost (sub : Nat) (s : State) : Host.Outcome State Fault Refusal :=
  done s <|
    let r := svRun s sub
    if !s.runs 5 || !(sec07 s).sv.has sub || r.lost || s.now < r.since + 10000000 then s
    else
      let s := setSv s sub { r with lost := true, last := none }
      ((putActive s Reg.FWD_SVACT_ACT sub false).raise Reg.FWD_EVT_SVLOST).event 1 Ev.SV_STREAM_LOST 5 0 [sub]

/-! ### GOOSE (R622 to R626) -/

/-- The GOOSE and GSTATE packets (Table PBUS-6). -/
def goosePkt (i : Nat) (m : GoMsg) : List Nat :=
  let ws := words64 61 m.frame
  kword [(0, 7, 2 + ws.length), (7, 4, 4), (16, 8, i), (24, 1, b2n m.trailer), (32, 11, m.len)] :: (m.stamp % 2 ^ 64) :: ws

@[inherit_doc goosePkt] def gstatePkt (s : State) (i : Nat) (lost : Bool) : List Nat :=
  [kword [(0, 7, 2), (7, 4, 5), (16, 8, i), (24, 1, b2n lost)], s.now % 2 ^ 64]

/-- Post a packet to both GOOSE kennels, from which the halves read it in the same step (DESIGN CHOICE, log entry 41: no row
is a half's read of a GOOSE packet). -/
def goPost (s : State) (pkt : List Nat) : State :=
  let s := (kPost (kPost s 47 pkt).1 63 pkt).1
  kTakeThrough (kTakeThrough s 47 fun x => x = pkt) 63 fun x => x = pkt

/-- A packet of kind `t` about delivery `deliv` of subscription `i` (Table PBUS-6). -/
def svPktIs (t i deliv : Nat) (p : List Nat) : Bool :=
  match p with
  | w :: _ => w / 2 ^ 7 % 16 = t && w / 2 ^ 16 % 128 = i && w / 2 ^ 48 % 65536 = deliv
  | [] => false

/-- Half `h` reads its kennel up to the packet of kind `t` about a sample. -/
def svHalfTakes (s : State) (h t i deliv : Nat) : State :=
  kTakeThrough s (if h = 0 then (svKennels i).1 else (svKennels i).2) (svPktIs t i deliv)

/-- Whether the halves act on a message of a subscription: with AUTH only after their HMAC check, and on key loss by the
policy, which CONTINUE records once (R626, R619). -/
def goActs (s : State) (i : Nat) (sub : GoSub) (m : GoMsg) : State × Bool :=
  match sub.auth with
  | none => (s, true)
  | some (k, cont) =>
    let (s, served) := keyServe s 2 k 3 .verify
    let r := goRun s i
    if served then
      if m.macOk then (setGo s i { r with skip := false }, true)
      else (setGo s i { r with nAuth := up32 r.nAuth 2, skip := false }, false)
    else if cont then
      if r.skip then (s, true)
      else ((setGo s i { r with skip := true }).event 3 Ev.GOOSE_AUTH_SKIPPED 5 0 [i], true)
    else (s, false)

/-- Accept a message: delivery, regained state, and the booleans the halves act on. -/
def goAccept (s : State) (i : Nat) (sub : GoSub) (m : GoMsg) : State :=
  let r := goRun s i
  let changed := match r.last with
    | some (st, _) => st != m.stnum
    | none => true
  let s := goPost s (goosePkt i m)
  let s := if r.lost then goPost s (gstatePkt s i false) else s
  let s := setGo s i { r with
    last := some (m.stnum, m.sqnum), lost := false, ttl := m.ttl, since := s.now, lastT := m.stamp,
    nDeliv := up32 r.nDeliv 1, nSt := up32 r.nSt (b2n changed) }
  let s := putActive s Reg.FWD_GOACT_ACT i true
  let (s, acts) := goActs s i sub m
  if acts then setGo s i { goRun s i with vals := m.vals } else s

/-- GOOSE_FRAME_RECEIVED (R622 to R624). -/
def execGooseFrameReceived (m : GoMsg) (badCopies : Nat) (s : State) : Host.Outcome State Fault Refusal :=
  done s <|
    if !s.runs 5 || !m.fcsOk then s
    else
      let (s, ok) := matchCopies s badCopies
      if !ok then s
      else match (sec07 s).goose.find? fun p =>
          p.2.dmac = m.dmac && p.2.appid = m.appid && p.2.vid = m.vid && inPorts s p.2.ports m.port && p.2.gocb = m.gocb with
        | none => s
        | some (i, sub) =>
          let r := goRun s i
          if m.seen then setGo s i { r with nDup := up32 r.nDup 1 }
          else if m.confrev != sub.confrev || 488 < m.len || (m.sim && !sub.test) then
            setGo s i { r with nRej := up32 r.nRej 1 }
          else
            let fresh := match r.last with
              | some (st, sq) => m.stnum != st || sq < m.sqnum
              | none => true
            if fresh then goAccept s i sub m else setGo s i { r with nDisc := up32 r.nDisc 1 }

/-- GOOSE_LOST (R625): no message accepted within the timeAllowedToLive of the last. -/
def execGooseLost (sub : Nat) (s : State) : Host.Outcome State Fault Refusal :=
  done s <|
    let r := goRun s sub
    if !s.runs 5 || !(sec07 s).goose.has sub || r.lost || r.last.isNone || s.now < r.since + r.ttl * 1000000 then s
    else
      let s := goPost s (gstatePkt s sub true)
      let s := setGo s sub { r with lost := true, nLoss := up32 r.nLoss 1 }
      ((putActive s Reg.FWD_GOACT_ACT sub false).raise Reg.FWD_EVT_GOLOST).event 1 Ev.GOOSE_LOST 5 0 [sub]

/-! ### Status and counters -/

/-- The payload of SUB_STATUS (Table PBUS-9). -/
def svStatus (r : SvRun) : List Byte :=
  le 1 (if r.lost then 2 else 1) ++ zeros 3 ++ le 8 r.lastT ++ le 4 r.nDeliv ++ le 4 r.nChk ++ le 4 r.nFail ++
    le 4 r.nDup ++ le 4 r.nMiss ++ le 4 r.nRej ++ le 4 r.nAuth ++ zeros 8

@[inherit_doc svStatus] def goStatus (r : GoRun) : List Byte :=
  le 1 (if r.lost then 2 else 1) ++ zeros 3 ++ le 8 r.lastT ++ le 4 r.nDeliv ++ le 4 r.nSt ++ le 4 r.nDisc ++
    le 4 r.nDup ++ le 4 r.nLoss ++ le 4 r.nRej ++ le 4 r.nAuth ++
    le 4 (match r.last with
      | some l => l.1
      | none => 0) ++
    le 4 (match r.last with
      | some l => l.2
      | none => 0)

/-- SUB_STATUS (Table PBUS-9). -/
def execSubStatus (tag kind idx : Nat) (s : State) : Host.Outcome State Fault Refusal :=
  done s <| command s 0x0706 tag fun s =>
    if 1 < kind || (kind = 0 && 127 < idx) || (kind = 1 && 255 < idx) then deny s St.BAD_PARAM
    else if kind = 0 then
      okay s (if (sec07 s).sv.has idx then svStatus (svRun s idx) else zeros 48)
    else okay s (if (sec07 s).goose.has idx then goStatus (goRun s idx) else zeros 48)

/-- Subscriptions of section 0x07 take effect: each stream starts with no last sample, its 10 ms counting from now (R609,
R621, R627). Subscriptions that did not change go on. -/
def subscribe (s : State) (old : Sec07) : State :=
  let c := sec07 s
  let sv := c.sv.map fun p =>
    (p.1, if old.sv.get? p.1 = some p.2 then svRun s p.1 else { since := s.now })
  let go := c.goose.map fun p =>
    (p.1, if old.goose.get? p.1 = some p.2 then goRun s p.1 else { since := s.now })
  let gone := old.sv.filterMap fun p =>
    if c.sv.get? p.1 = some p.2 || (svRun s p.1).wait.isEmpty then none else some (p.1, (p.2, { svRun s p.1 with lost := false }))
  let s := s.setFwd { s.fwd with sv := sv, go := go, svOld := gone.foldl (fun m p => KMap.set m p.1 p.2) s.fwd.svOld }
  let s := (List.range 128).foldl (fun t i =>
    if bit (t.rd (Reg.FWD_SVACT_ACT (i / 32))) (i % 32) && !((old.sv.get? i).isSome && old.sv.get? i = c.sv.get? i) then
      putActive t Reg.FWD_SVACT_ACT i false else t) s
  (List.range 256).foldl (fun t i =>
    if bit (t.rd (Reg.FWD_GOACT_ACT (i / 32))) (i % 32) && !((old.goose.get? i).isSome && old.goose.get? i = c.goose.get? i) then
      putActive t Reg.FWD_GOACT_ACT i false else t) s

end Sys2Proof.Machine
end

