-- ==== Sys2Proof/Machine/Protection.lean ====
section
/-! DEFINITION. The passes of a half: alignment and synthesis, the confirmation rule, gates, outputs, feeders and notices,
GOOSE publication (11_protection.md). -/
namespace Sys2Proof.Machine

/-- Samples in a nominal cycle (Table PROT-1). -/
def ncyc (c : Sec08) : Nat := if c.fnom = 0 then 0 else c.prate / c.fnom

/-- The streams that enabled instances name (the expected set of a pass). -/
def expected (c : Sec08) : List Nat :=
  ((c.insts.vals.filter (·.en)).flatMap fun i => i.ins.map (·.1)).eraseDups

/-- The sample time of SmpCnt `k`: the whole second that puts it within the second before `stamp`, plus k / PRATE (R289,
R631). -/
def sampleTime (c : Sec08) (k stamp : Nat) : Nat :=
  let f := if c.prate = 0 then 0 else k * 1000000000 / c.prate
  let t := stamp / 1000000000 * 1000000000 + f
  if stamp < t then t - 1000000000 else t

/-- A stream of a half. -/
def Half.stream (x : Half) (i : Nat) : Stream := x.streams.getD i {}

/-- Change a stream of a half. -/
def Half.setStream (x : Half) (i : Nat) (st : Stream) : Half := { x with streams := x.streams.set i st }

/-- The sections half `h` runs: in SUSPENDED the new ones of the handover (Table BRC-7), otherwise the running ones. -/
def secsFor (s : State) (h : Nat) : Secs :=
  match s.cfg.apply with
  | some a => if s.brace h = 3 then a.img.secs else s.cfg.secs
  | none => s.cfg.secs

@[inherit_doc secsFor] def State.s08For (s : State) (h : Nat) : Option Sec08 := (secsFor s h).s08

/-- The half runs passes: in RUN, and in IN_STEP or SUSPENDED. -/
def passing (s : State) (h : Nat) : Bool :=
  s.fuses.suiteP && s.runs (2 + h) && (s.brace h = 2 || s.brace h = 3) && (s.s08For h).isSome

/-! ### Alignment and synthesis (R630 to R640, R978) -/

/-- The value of a stream at SmpCnt `k`, real or synthesised, as it was last held. -/
def pastChans (st : Stream) (k : Nat) : List (Nat × Nat) :=
  match st.past.find? fun p => p.1 = k with
  | some p => p.2
  | none => []

/-- Keep the value of sample `k` for synthesis (R637). -/
def keepPast (c : Sec08) (st : Stream) (k : Nat) (ch : List (Nat × Nat)) : Stream :=
  { st with past := ((k, ch) :: st.past.filter fun p => p.1 != k).take (max 1 (ncyc c)) }

/-- Synthesise sample `k` of stream `i` from the sample one cycle earlier (R633, R636); SYNMAX in a row block the stream's
instances (R639). -/
def synthesise (s : State) (h : Nat) (c : Sec08) (k i : Nat) : State :=
  let x := s.hf h
  let st := x.stream i
  let ch := pastChans st ((k + c.prate - ncyc c % max 1 c.prate) % max 1 c.prate)
  let run := st.synRun + 1
  let blocks := decide (c.synmax ≤ run) && !st.noData
  let st := keepPast c { st with
    buf := st.buf.set k ⟨0, 0xFFFF, 0, false, false, 0, ch, []⟩, synRun := run, realRun := 0, noData := st.noData || blocks } k ch
  let s := s.setHf h { x.setStream i st with nSynth := up32 x.nSynth 1 }
  let s := s.inc (Reg.PR_CNT0_SYNTH h)
  if blocks && (expected c).contains i then s.raise (Reg.PR_EVT_BLOCKED h) else s

/-- The channels whose quality marks them invalid or carries the test bit (R635). PRESUMED (log entry 21): validity is quality
bits 1:0 with 01 invalid, test is bit 11. -/
def badChans (ch : List (Nat × Nat)) : Nat :=
  ch.zipIdx.foldl (fun m p => if p.1.2 % 4 = 1 || bit p.1.2 11 then m ||| one p.2 else m) 0

/-- The channels of a real sample with the missing ones replaced from one cycle earlier. -/
def mendChans (st : Stream) (c : Sec08) (k bad : Nat) (ch : List (Nat × Nat)) : List (Nat × Nat) :=
  let old := pastChans st ((k + c.prate - ncyc c % max 1 c.prate) % max 1 c.prate)
  ch.zipIdx.map fun p => if bit bad p.2 then old.getD p.2 p.1 else p.1

/-- Put a real sample in the buffer. -/
def bufferSample (s : State) (h : Nat) (c : Sec08) (x : HalfSample) (late : Bool) : State :=
  let v := s.hf h
  let st := v.stream x.stream
  let was := st.sync
  let bad := badChans x.chans
  let ch := mendChans st c x.smp bad x.chans
  let st := keepPast c { st with
    buf := st.buf.set x.smp ⟨x.deliv, bad, (if 128 ≤ x.stream then 1 else 0), false, late, x.stamp, ch, x.chans⟩,
    synRun := 0, newest := some x.smp, sync := x.synch != 2 } x.smp ch
  let n := b2n (bad != 0)
  let s := s.setHf h { v.setStream x.stream st with nSynth := up32 v.nSynth n }
  let s := s.add (Reg.PR_CNT0_SYNTH h) n
  if x.synch != 2 && !was && (expected c).contains x.stream then s.raise (Reg.PR_EVT_BLOCKED h) else s

/-- The SmpCnts strictly between `a` and `b`, at most `n` of them. -/
def between (m a b : Nat) : Nat → List Nat
  | 0 => []
  | n + 1 => let k := (a + 1) % max 1 m; if k = b then [] else k :: between m k b n

/-- A metering packet of sample `k` (kennels 76 to 79). -/
def mtrPktIs (k : Nat) (p : List Nat) : Bool := p.getD 0 0 / 2 ^ 11 % 2 ^ 16 = k

/-- HALF_SAMPLE_DELIVERED (R630 to R640, R978). A sample 64 or more sets ahead of the next pass, or of a pass whose provisional
results have expired, is discarded and counted; a later SmpCnt of a stream makes its skipped samples synthesised at once. -/
def execHalfSampleDelivered (h : Nat) (x : HalfSample) (s : State) : Host.Outcome State Fault Refusal :=
  done s <|
    match s.s08For h with
    | none => s
    | some c =>
      if 1 < h || !passing s h || c.prate = 0 || c.prate ≤ x.smp then s
      else
        let s := if x.stream < 128 then svHalfTakes s h 1 x.stream x.deliv
          else kTakeThrough s (76 + 2 * h + (x.stream - 128) / 4) (mtrPktIs x.smp)
        let v := s.hf h
        let s := if v.next.isNone then s.setHf h { v with next := some x.smp, tk := sampleTime c x.smp x.stamp } else s
        let v := s.hf h
        let k := v.next.getD x.smp
        let d := (x.smp + c.prate - k) % c.prate
        if d < c.prate / 2 then
          if 64 ≤ d then s.inc (Reg.PR_CNT1_LATE h)
          else
            let st := v.stream x.stream
            let gap := match st.newest with
              | some n => (between c.prate n x.smp 64).filter fun j =>
                  decide ((j + c.prate - k) % c.prate < c.prate / 2) && !st.buf.has j
              | none => []
            let s := gap.foldl (fun t j => synthesise t h c j x.stream) s
            let first := !(v.streams.any fun q => (q.2.buf.get? k).any (·.syn != 0xFFFF))
            let s := bufferSample s h c x false
            let v := s.hf h
            if x.smp = k && x.synch = 2 && first then s.setHf h { v with tk := sampleTime c k x.stamp } else s
        else if v.hist.any fun p => p.k = x.smp && !p.expired then
          let had := ((v.stream x.stream).buf.get? x.smp)
          let sub := match had with
            | some b => b.syn = 0xFFFF || b.chk = 2
            | none => true
          if sub then bufferSample s h c x true else s.inc (Reg.PR_CNT1_LATE h)
        else s.inc (Reg.PR_CNT1_LATE h)

/-! ### Signals, gates and outputs (R666 to R672, R701) -/

/-- A signal's value and P bit. -/
abbrev Sig := Bool × Bool

/-- The GOOSE input boolean `i` (0x1000 on): the subscribed member, or its substitute while the subscription is lost. -/
def goSignal (s : State) (c : Sec08) (i : Nat) : Bool :=
  match c.gomap.get? i with
  | none => false
  | some (sub, mem, alt) =>
    let r := goRun s sub
    if r.lost && alt < 2 then alt = 1 else r.vals.getD mem false

/-- A signal of Table PROT-4 as half `h` sees it, given the instances and the gate outputs of this pass and of the one
before: a gate of an index below `g` gives this pass's output, another the previous pass's. -/
def signal (s : State) (h : Nat) (c : Sec08) (insts : KMap InstSt) (old new : KMap GateSt) (g : Nat) (rst : Bool) (n : Nat) : Sig :=
  if n < 0x0C00 then
    let i := insts.getD (n / 16) {}
    (bit i.bits (n % 16), i.prov)
  else if n < 0x0C40 then (bit s.pins.bi (n - 0x0C00), false)
  else if 0x1000 ≤ n && n < 0x1400 then (goSignal s c (n - 0x1000), false)
  else if 0x1400 ≤ n && n < 0x1408 then ((s.bk.getD (n - 0x1400) {}).req, false)
  else if n = 0x1800 then (rst, false)
  else if n = 0x1801 then (s.isLead h, false)
  else if 0x2000 ≤ n && n < 0x2200 then
    let j := n - 0x2000
    let x := (if j < g then new else old).getD j {}
    (x.out, x.prov)
  else (n = 0xFFFF, false)

/-- Every assignment of values to the provisional ones among signals. -/
def assigns : List Sig → List (List Bool)
  | [] => [[]]
  | (v, p) :: l =>
    let r := assigns l
    if p then (r.map (true :: ·)) ++ r.map (false :: ·) else r.map (v :: ·)

/-- AND, OR and XOR. -/
def combine (op : Nat) (l : List Bool) : Bool :=
  match op with
  | 1 => l.all (·)
  | 2 => l.any (·)
  | _ => l.foldl xor false

/-- A latch: set-dominant (SRL, 7) or reset-dominant (RSL, 8). -/
def latchNext (op : Nat) (held st rs : Bool) : Bool :=
  if op = 7 then st || (held && !rs) else (held || st) && !rs

/-- Evaluate a gate on its (inverted) inputs at sample time `tk` (R667 to R669). -/
def evalGate (g : Gate) (old : GateSt) (ins : List Sig) (tk : Nat) : GateSt :=
  let inv := bit g.inv 4
  let t := g.time * 1000000
  let a := ins.getD 0 (false, false)
  let b := ins.getD 1 (false, false)
  if g.op ≤ 3 then
    let v := combine g.op (ins.map (·.1))
    { old with out := v != inv, prov := (assigns ins).any fun l => combine g.op l != v }
  else if g.op = 4 then
    let since := if a.1 && !old.inp then tk else old.since
    { old with out := (a.1 && decide (since + t ≤ tk)) != inv, prov := a.2, inp := a.1, since := since }
  else if g.op = 5 then
    let since := if !a.1 && old.inp then tk else old.since
    let held := old.held || a.1
    { old with out := (a.1 || (held && decide (tk < since + t))) != inv, prov := a.2, inp := a.1, since := since, held := held }
  else if g.op = 6 then
    let rise := a.1 && !old.inp
    let since := if rise then tk else old.since
    let held := old.held || rise
    { old with out := (held && decide (tk < since + t)) != inv, prov := a.2, inp := a.1, since := since, held := held }
  else if g.op ≤ 8 then
    let held := latchNext g.op old.held (a.1 && !a.2) (b.1 && !b.2)
    let v := latchNext g.op old.held a.1 b.1
    let p := (assigns [a, b]).any fun l => latchNext g.op held (l.getD 0 false) (l.getD 1 false) != held
    { old with out := (if p then v else held) != inv, prov := p, held := held }
  else { old with out := inv, prov := false }

/-- Evaluate the gates once, in index order (R666). -/
def evalGates (s : State) (h : Nat) (c : Sec08) (insts : KMap InstSt) (old : KMap GateSt) (rst : Bool) (tk : Nat) : KMap GateSt :=
  c.gates.zipIdx.foldl (fun new p =>
    let ins := p.1.ins.zipIdx.map fun q =>
      let v := signal s h c insts old new p.2 rst q.1
      (v.1 != bit p.1.inv q.2, v.2)
    new.set p.2 (evalGate p.1 (old.getD p.2 {}) ins tk)) []

/-- One logical output after a pass: FOLLOW and PULSE follow SRC, LATCH stays high until SRC is 0 in a pass with the host
reset, MINON keeps a set output high (Table PROT-6, R701). In an expired pass a provisional change is gone (R659, R672). -/
def evalOut (o : OutRec) (old : OutSt) (v : Sig) (rst expired : Bool) (tk : Nat) : OutSt :=
  let v := if expired && v.2 then (old.conf, false) else v
  let w : Sig := if o.mode = 1 && old.conf then (if rst && !v.1 then v else (true, false)) else v
  let w : Sig := if old.conf && !w.1 && decide (tk < old.minEnd) then (true, false) else w
  let conf := if w.2 then old.conf else w.1
  { val := w.1, prov := w.2, conf := conf, minEnd := if conf && !old.conf then tk + o.minOn * 1000000 else old.minEnd }

/-! ### Instances and the confirmation rule (R641, R648 to R662) -/

/-- Every sample that an instance uses on pass `k` is real and has passed the check (R657). -/
def inputsPass (v : Half) (i : Inst) (k : Nat) : Bool :=
  i.ins.all fun p =>
    match (v.stream p.1).buf.get? k with
    | some b => b.syn &&& p.2 = 0 && b.chk = 1 && !b.late
    | none => false

/-- An instance uses a questionable channel on pass `k` (R635). PRESUMED (log entry 21): validity 11 is questionable. -/
def questionable (v : Half) (i : Inst) (k : Nat) : Bool :=
  i.ins.any fun p =>
    match (v.stream p.1).buf.get? k with
    | some b => b.raw.zipIdx.any fun c => bit p.2 c.2 && !bit b.syn c.2 && c.1.2 % 4 = 3
    | none => false

/-- Why an instance is blocked: 1 NO_DATA, 2 SYNC, 3 HOST, 0 not (R639, R640, R702). -/
def blockOf (v : Half) (n : Nat) (i : Inst) : Nat :=
  if i.ins.any fun p => (v.stream p.1).noData then 1
  else if i.ins.any fun p => (v.stream p.1).sync then 2
  else if v.hostBlk.contains n then 3 else 0

/-- The element bits with the operate bits (1, 3, 5, …) left out. -/
def startBits (b : Nat) : Nat := b &&& 0x5555

/-- `e` held within `b` on either side of 0. -/
def clampTo (b : Nat) (e : Int) : Int := max (-(b : Int)) (min (b : Int) e)

/-- The level at which pickup `p` acts on the quantity `x`: its setting with an error of at most 2 % of it or 0.01 × In,
whichever is larger (R647). -/
def pickLevel (p : Pickup) (x : Nat) : Nat :=
  ((p.thr : Int) + clampTo (max (p.thr * 2 / 100) (if p.current then 100 else 0)) (Config.pickErr p.thr x)).toNat

/-- A pickup on the quantity `x`: an overfunction picks up at its level and resets below 0.95 of it, an underfunction picks up
at its level and resets above 1.05 of it (R647). -/
def pickNext (p : Pickup) (was : Bool) (x : Nat) : Bool :=
  let l := pickLevel p x
  if p.above then (if was then decide (l * 95 ≤ x * 100) else decide (l ≤ x))
  else if was then decide (x * 100 ≤ l * 105) else decide (x ≤ l)

/-- What a timer of `d` ms takes, in ns: its setting with an error of at most 1 % of it or 2 ms, whichever is larger (R647). -/
def timerNs (d : Nat) : Nat :=
  ((d * 1000000 : Nat) + clampTo (max (d * 10000) 2000000) (Config.timerErr d)).toNat

/-- Element `e` at place `s` on a pass at `tk`: from when it is picked up, if it is, and whether it operates. -/
def elemNext (e : Elem) (up : Option Nat) (s tk : Nat) (o : InstOut) : Option Nat × Bool :=
  let start := match e.pick with
    | some p => pickNext p up.isSome (o.meas.getD s 0)
    | none => bit o.bits (2 + 2 * s)
  let since := up.getD tk
  if start then
    (some since, match e.delay with
      | some d => decide (since + timerNs d ≤ tk)
      | none => bit o.bits (3 + 2 * s))
  else (none, false)

/-- The elements of an instance on a pass: which are picked up since when, and the 16 element bits. START and OPERATE are the
starts and the operates of any element, with what the function gives itself where not every element has its settings.
DEDUCED (log entry 92). -/
def elemsNext (i : Inst) (up : KMap Nat) (tk : Nat) (o : InstOut) : KMap Nat × Nat :=
  let r := i.elems.zipIdx.foldl (fun (r : KMap Nat × Nat) e =>
    let (t, op) := elemNext e.1 (up.get? e.2) e.2 tk o
    let b := putBit (putBit r.2 (2 + 2 * e.2) t.isSome) (3 + 2 * e.2) op
    (match t with
      | some t => r.1.set e.2 t
      | none => r.1, b)) ([], o.bits)
  let free := i.elems.isEmpty || i.elems.any fun e => e.pick.isNone
  let freeOp := i.elems.isEmpty || i.elems.any fun e => e.delay.isNone
  let any (odd : Nat) : Bool := (List.range i.elems.length).any fun s => bit r.2 (2 + odd + 2 * s)
  (r.1, putBit (putBit r.2 0 (any 0 || (free && bit o.bits 0))) 1 (any 1 || (freeOp && bit o.bits 1)))

/-- An instance after a pass. A blocked one shows no bits and loses its run (R641). A confirmed result counts towards N_CONF or
resets the run, a provisional one does neither (R653, R658); the operate bits stand only at N_CONF. -/
def evalInst (v : Half) (k tk : Nat) (expired : Bool) (old : InstSt) (n : Nat) (i : Inst) (o : InstOut) : InstSt :=
  let blk := blockOf v n i
  if !i.en then { old with bits := 0, up := [], conf := 0, prov := false, run := 0, q := false, blk := 0 }
  else if blk != 0 then { old with bits := 0, up := [], conf := 0, prov := false, run := 0, q := false, blk := blk }
  else
    let prov := !inputsPass v i k
    let (up, el) := elemsNext i old.up tk o
    let cond := el != 0
    let run := if prov then old.run else if cond then min 16 (old.run + 1) else 0
    let eff := if prov then old.run + 1 else run
    let bits := if i.nconf ≤ eff && cond then el else startBits el
    let bits := if expired && prov then old.conf else bits
    let conf := if prov then old.conf else bits
    { bits := bits, up := up, conf := conf, prov := prov && !expired, run := run, q := questionable v i k, blk := 0,
      lastOp := if bit conf 1 && !bit old.conf 1 then tk else old.lastOp,
      rise := if bit conf 0 && !bit old.conf 0 then tk else old.rise }

/-- Evaluate one pass from the half's present instance, gate and output states. -/
def evalPass (s : State) (h : Nat) (c : Sec08) (p : PassRec) : State :=
  let v := s.hf h
  let insts := c.insts.foldl (fun (m : KMap InstSt) q =>
    let o := (p.raw.find? fun o => o.inst = q.1).getD ⟨q.1, [], 0, none⟩
    m.set q.1 (evalInst v p.k p.tk p.expired (v.insts.getD q.1 {}) q.1 q.2 o)) []
  let gates := evalGates s h c insts v.gates p.rst p.tk
  let outs := c.outs.foldl (fun (m : KMap OutSt) q =>
    m.set q.1 (evalOut q.2 (v.outs.getD q.1 {}) (signal s h c insts gates gates 512 p.rst q.2.src) p.rst p.expired p.tk)) []
  let p := { p with insts := v.insts, gates := v.gates, outs := v.outs, res := insts.map fun q => (q.1, q.2.bits, q.2.prov) }
  s.setHf h { v with
    insts := insts, gates := gates, outs := outs, hist := (v.hist.filter fun q => q.k != p.k) ++ [p] }

/-- Take a half back to before pass `k` and run that pass and every later one again (R660 to R662). -/
def replay (s : State) (h : Nat) (c : Sec08) (k : Nat) : State :=
  let v := s.hf h
  let later := v.hist.dropWhile fun p => p.k != k
  match later with
  | [] => s
  | p :: _ =>
    let s := s.setHf h { v with insts := p.insts, gates := p.gates, outs := p.outs }
    later.foldl (fun t q => evalPass t h c q) s

/-! ### Which outputs need no agreement (R980, R981) -/

/-- The signals that feed signal `n`, through gates, `f` deep. -/
def fanIn (c : Sec08) : Nat → List Nat → List Nat
  | 0, l => l
  | f + 1, l =>
    let more := l.flatMap fun n => if 0x2000 ≤ n && n < 0x2200 then ((c.gates[n - 0x2000]?).map (·.ins)).getD [] else []
    let l' := (l ++ more).eraseDups
    if l'.length = l.length then l else fanIn c f l'

/-- Every signal that feeds `n`. -/
def feeds (c : Sec08) (n : Nat) : List Nat := fanIn c (c.gates.length + 1) [n]

/-- A signal depends on "this half holds LEASH". -/
def dependsLead (c : Sec08) (n : Nat) : Bool := (feeds c n).contains 0x1801

/-- The disagreement policy of output `n` (Table BRC-3); by default DEPEND for TRIP and FOLLOW for CONTROL. -/
def policy (s : State) (n : Nat) (o : OutRec) : Nat :=
  match s.cfg.secs.s09 with
  | some c => c.pol.getD n (b2n o.trip)
  | none => b2n o.trip

/-- A TRIP output that needs no brace agreement (R981). -/
def leadAlone (s : State) (c : Sec08) (n : Nat) (o : OutRec) : Bool :=
  o.leadAlone || policy s n o = 0 || dependsLead c o.src

/-- The heel counts as failed for R654: it is not in IN_STEP (R725, R739, R757). -/
def heelOut (s : State) (h : Nat) : Bool := s.brace (1 - h) != 2

/-! ### Feeder notices (R37, R674 to R678) -/

/-- A feeder notice or forecast packet. DESIGN CHOICE (log entry 22): the spec names the content and not the word layout. -/
def noticePkt (n : FeederNotice) : List Nat :=
  [kword [(0, 7, 3), (8, 8, n.feeder), (16, 8, n.state), (24, 8, n.shot), (32, 32, n.seq)], n.t % 2 ^ 64, n.close % 2 ^ 64]

/-- Post a notice with the next sequence number and keep the feeder's state: 0 OPEN, 1 CLOSED, 2 RECLOSE_PENDING, with the close time
and the shot of its forecast. -/
def postNotice (s : State) (h f st close shot : Nat) : State :=
  let v := s.hf h
  let n := up32 v.nseq 1
  let s := s.setHf h { v with nseq := n, feeders := v.feeders.set f st,
                              fcst := if st = 2 then v.fcst.set f (close, shot) else v.fcst.erase f }
  (kPost s (64 + h) (noticePkt ⟨f, st, n, s.now, close, shot⟩)).1

/-- The feeder's state in a half: at the start from POSBI, or CLOSED (R674). -/
def feederState (s : State) (h : Nat) (f : Nat) (p : FeedP) : Nat :=
  match (s.hf h).feeders.get? f with
  | some x => x
  | none => match p.posbi with
    | some b => b2n (bit s.pins.bi b)
    | none => 1

/-! ### FLOC (R690 to R695) -/

/-- The body of a FLOC_RESULT report (Table PROT-8). -/
def flocBody (f tf stage flags nrep : Nat) (dz : Option Nat) (sect : List Nat) : List Byte :=
  let d := dz.getD 0xFFFFFFFF
  let u := match dz with
    | some z => z / 20 + 200
    | none => 0xFFFFFFFF
  [0xFF, 0xFF, 0xFF] ++ le 1 f ++ le 8 tf ++ le 1 stage ++ le 1 flags ++ le 2 nrep ++ le 4 d ++ le 4 u ++
    (padTo 4 0xFF sect).map (fun x => BitVec.ofNat 8 x) ++ zeros 28

/-- Issue a FLOC_RESULT: report, event flag, and the L1 record of the lead (R695, R703). -/
def flocIssue (s : State) (h f stage flags nrep : Nat) (fl : FlocSt) (sect : List Nat) : State :=
  let body := flocBody f fl.tf stage flags nrep fl.dz sect
  let v := s.hf h
  let s := s.setHf h { v with floc := v.floc.set f { fl with last := some body } }
  if !s.isLead h then s
  else
    let s := (s.report 0x0802 0 body).raise (Reg.PR_EVT_FLOCDONE h)
    let par2 := if stage = 1 then fl.dz.getD 0xFFFFFFFF
      else fromLe ((padTo 4 0xFF sect).map (fun x => BitVec.ofNat 8 x))
    s.event 1 Ev.FLOC_RESULT (2 + h) f [f, stage + flags * 256 + nrep * 65536, par2]

/-- FLOC at a trip of feeder `f`: inception time and stage 1 (R690). -/
def flocTrip (s : State) (h f : Nat) (p : FeedP) (tk : Nat) (dz : Option Nat) : State :=
  match s.s08For h, p.floc with
  | some c, some _ =>
    let v := s.hf h
    let rises := (c.insts.filter fun q => q.2.bay = p.bay && bit (v.insts.getD q.1 {}).conf 0).map fun q => (v.insts.getD q.1 {}).rise
    let tf := match rises with
      | [] => tk
      | r :: l => l.foldl min r
    flocIssue s h f 1 (if dz.isNone then 4 else 0) 0 { tf := tf, trip := some s.now, dz := dz, reps := [], last := none } []
  | _, _ => s

/-! ### Publications (R685 to R689) -/

/-- The confirmed values of a publication's members; a provisional one keeps its last value, and so does a TRIPCLASS member
that still waits for agreement. -/
def pubValues (s : State) (h : Nat) (c : Sec08) (p : PubCfg) (old : List Bool) (agreed : Bool) : List Bool :=
  let v := s.hf h
  p.members.zipIdx.map fun m =>
    let x := signal s h c v.insts v.gates v.gates 512 v.rstNow m.1.1
    let prev := old.getD m.2 false
    if x.2 || (m.1.2 && !agreed) then prev else x.1

/-- Send a message of a publication through the half's switch port (R686, R687, R689): nothing while its key blocks it. -/
def pubSend (s : State) (h i : Nat) (p : PubCfg) (st : PubSt) : State :=
  let put (t : State) (x : PubSt) : State := t.setHf h { t.hf h with pubs := (t.hf h).pubs.set i x }
  let msg (tag : Bool) : PubMsg :=
    ⟨p.dmac, p.appid, p.vid, p.gocb, p.datset, p.confrev, st.st, st.sq, st.ttl, false, false, false, st.vals, tag⟩
  let frame : SwFrame :=
    ⟨7 + h, true, some (p.vid, 4), 0, p.dmac, 0x88B8, none, false, false, 0, 0⟩
  let emit (t : State) : State := if t.runs 5 then switchIn t [] frame else t
  match p.auth with
  | none => emit (put s { st with blocked := false, msg := some (msg false) })
  | some (k, cont) =>
    let (s, ok) := keyServe s (2 + h) k 3 .mac
    if ok then emit (put s { st with blocked := false, unauth := false, msg := some (msg true) })
    else if cont then
      let s := emit (put s { st with unauth := true, blocked := false, msg := some (msg false) })
      if st.unauth then s else s.event 3 Ev.GOOSE_PUB_UNAUTH (2 + h) i [i]
    else
      let s := put s { st with blocked := true }
      if st.blocked then s else s.event 3 Ev.GOOSE_PUB_BLOCKED (2 + h) i [i]

/-- The lead brings one publication up to its members' values: a change takes the next stNum with sqNum 0 and is sent, the next
message 2 ms later (R686). -/
def pubUpdate (s : State) (h : Nat) (c : Sec08) (agreed : Bool) (i : Nat) (p : PubCfg) : State :=
  let st := (s.hf h).pubs.getD i {}
  let vals := pubValues s h c p st.vals agreed
  if st.started && vals = st.vals then s
  else
    let st := { st with
      vals := vals, st := if st.started then up32 st.st 1 else st.st, sq := 0, intv := 2, next := s.now + 2000000, ttl := 4,
      started := true }
    pubSend s h i p st

/-- Bring every publication up to date (R685). -/
def pubsUpdate (s : State) (h : Nat) (c : Sec08) (agreed : Bool) : State :=
  c.pubs.foldl (fun t q => pubUpdate t h c agreed q.1 q.2) s

/-- CRC-32 over the members' confirmed values of every publication, one byte each (Table BRC-2); members that depend on signal
0x1801 are left out (R980). DESIGN CHOICE (log entry 22): one byte a member. -/
def gooseCrc (s : State) (h : Nat) (c : Sec08) : Nat :=
  crc32 (c.pubs.flatMap fun q =>
    let vals := pubValues s h c q.2 ((s.hf h).pubs.getD q.1 {}).vals true
    (q.2.members.zip vals).filterMap fun m => if dependsLead c m.1.1 then none else some (BitVec.ofNat 8 (b2n m.2)))

/-! ### The end of a pass (R664, R665, R670 to R673) -/

/-- Commit PICKUP, OPERATE and DROPOUT of one instance on one pass (R665). -/
def tellInst (s : State) (h k n bits : Nat) : State :=
  let v := s.hf h
  let old := v.told.getD n 0
  let s := s.setHf h { v with told := v.told.set n bits }
  let par := [n, k, bits]
  let s := if bit bits 0 && !bit old 0 then s.event 1 Ev.PICKUP (2 + h) n par else s
  let s := if bit bits 1 && !bit old 1 then s.event 1 Ev.OPERATE (2 + h) n par else s
  if !bit bits 0 && bit old 0 then s.event 1 Ev.DROPOUT (2 + h) n par else s

/-- A REC instance's confirmed start of a dead time: the reclose forecast of its feeder, whose close time is that start plus the dead time of
the shot (R677). -/
def tellDead (s : State) (h : Nat) (c : Sec08) (p : PassRec) (n : Nat) : State :=
  match (p.raw.find? fun o => o.inst = n).bind (·.dead), c.feeders.find? fun f => f.2.recI = some n with
  | some shot, some (f, _) =>
    postNotice s h f 2 (p.tk + (((c.insts.get? n).bind fun i => i.deads[shot - 1]?).getD 0) * 1000000) shot
  | _, _ => s

/-- Commit what a pass's confirmed results call for, once for each instance. -/
def tellPass (s : State) (h : Nat) (c : Sec08) (p : PassRec) : State :=
  let new := p.res.filter fun r => !r.2.2 && !p.told.contains r.1
  let s := new.foldl (fun t r => tellDead (tellInst t h p.k r.1 r.2.1) h c p r.1) s
  let v := s.hf h
  s.setHf h { v with hist := v.hist.map fun q => if q.k = p.k then { q with told := q.told ++ new.map (·.1) } else q }

/-- The instances whose confirmed OPERATE feeds a signal, ascending. -/
def operated (s : State) (h : Nat) (c : Sec08) (src : Nat) : List Nat :=
  let v := s.hf h
  sortBy (fun a b => decide (a < b)) (((feeds c src).filter fun n => decide (n < 0x0C00) && n % 2 = 1 &&
    bit (v.insts.getD (n / 16) {}).conf (n % 16)).map (· / 16)).eraseDups

/-- The lead's trips: TRIP records, one PROT_TRIP report, open notices and FLOC's first stage (R673, R675, R690). -/
def tellTrips (s : State) (h : Nat) (c : Sec08) (k tk up : Nat) (imp : List (Nat × Option Nat)) : State :=
  let trips := (ones 32 up).filter fun n => ((c.outs.get? n).map (·.trip)).getD false
  if trips.isEmpty then s
  else
    let insts (n : Nat) : List Nat := operated s h c (((c.outs.get? n).map (·.src)).getD 0xFFFE)
    let s := trips.foldl (fun t n =>
      t.event 1 Ev.TRIP (2 + h) n [n, k, fromLe ((padTo 4 0xFF (insts n)).map fun x => BitVec.ofNat 8 x)]) s
    let all := sortBy (fun a b => decide (a < b)) (trips.flatMap insts).eraseDups
    let mask := trips.foldl (fun m n => m ||| one n) 0
    let s := s.report 0x0801 0 (le 4 mask ++ le 8 s.now ++ le 2 k ++ le 1 h ++ zeros 1 ++
      (padTo 24 0xFF all).map (fun x => BitVec.ofNat 8 x) ++ zeros 16)
    c.feeders.foldl (fun t f =>
      if trips.contains f.2.trip then
        let t := if feederState t h f.1 f.2 = 0 then t else postNotice t h f.1 0 0 0
        flocTrip t h f.1 f.2 tk (((imp.find? fun q => q.1 = f.1).map (·.2)).getD none)
      else t) s

/-- The outputs of a mask-valued reading of a half's logical outputs. -/
def outMask (v : Half) (p : OutSt → Bool) : Nat := v.outs.foldl (fun m q => if p q.2 then m ||| one q.1 else m) 0

/-- The confirmed vector that the lead may present now, and the TRIP changes that still wait for agreement (R654, R671, Table
BRC-3): a waiting output, and a SECURE one while the halves disagree on it, keeps its present value. -/
def allowed (s : State) (h : Nat) (c : Sec08) (k : Nat) : Nat × Nat :=
  let v := s.hf h
  let conf := outMask v (·.conf)
  let cur := s.pins.vec
  c.outs.foldl (fun (r : Nat × Nat) q =>
    let n := q.1
    let want := bit conf n
    let agreed := (s.brc.vecs.getD (1 - h) []).any fun x => x.smp = k && !bit x.prov n && bit x.val n = want
    let secure := policy s n q.2 = 2 && !q.2.leadAlone && (s.brc.disRun.getD n 0 != 0 || s.rd Reg.BRC_STAT_SPLIT = 1)
    if secure then (putBit r.1 n (bit s.brc.agreed n), r.2)
    else if want != bit cur n && q.2.trip && !leadAlone s c n q.2 && !heelOut s h && !agreed then
      (putBit r.1 n (bit cur n), putBit r.2 n true)
    else (putBit r.1 n want, r.2)) (0, 0)

/-- The lead presents what it may, with the pre-arms, tells its trips and its close outputs (R671, R673, R675, R676). -/
def presentLead (s : State) (h : Nat) (c : Sec08) (k tk : Nat) : State :=
  let (vec, wait) := allowed s h c k
  let v := s.hf h
  let arm := outMask v fun o => o.prov && o.val != o.conf
  let up := andNot 32 vec s.pins.vec
  let first := !s.pins.first || s.rd Reg.OUT_STAT_HOLD = 1
  let s := if vec != s.pins.vec || first then presentVector s vec arm true else presentVector s vec arm false
  let s := trackQuiet s
  let s := { s with brc := { s.brc with await := if wait = 0 then none else some (k, wait, vec) } }
  let s := tellTrips s h c k tk up v.imp
  c.feeders.foldl (fun t f =>
    if f.2.posbi.isNone && bit up f.2.close && feederState t h f.1 f.2 != 1 then postNotice t h f.1 1 0 0 else t) s

/-- Form the half's vector after pass `k` (R670), and as lead commit, present and publish (R664, R671, R685). -/
def finishPass (s : State) (h : Nat) (c : Sec08) (k tk : Nat) : State :=
  let v := s.hf h
  let s := s.setHf h { v with
    vec := outMask v (·.val), vecP := outMask v (·.prov), vecC := outMask v (·.conf), vecK := k,
    gcrc := gooseCrc s h c, vecSec := tk / 1000000000, vecAt := if v.vecK = k && v.vecSec = tk / 1000000000 then v.vecAt else s.now }
  if !s.isLead h then s
  else
    let s := (s.hf h).hist.foldl (fun t p => tellPass t h c p) s
    let s := presentLead s h c k tk
    pubsUpdate s h c s.brc.await.isNone

/-- Re-run a pass whose samples have now passed or been replaced, and finish with the newest pass. -/
def reconfirm (s : State) (h : Nat) (c : Sec08) (k : Nat) : State :=
  if (s.hf h).hist.any fun p => p.k = k then
    let s := replay s h c k
    match (s.hf h).hist.getLast? with
    | some p => finishPass s h c p.k p.tk
    | none => s
  else s

/-! ### Verdicts (R617 to R619, R639, R651, R656) -/

/-- A real sample passes the check: the stream's run of passed samples grows, and after Ncyc of them a NO_DATA block lifts; the
results of its pass are confirmed. -/
def samplePasses (s : State) (h : Nat) (c : Sec08) (i k : Nat) : State :=
  let v := s.hf h
  let st := v.stream i
  match st.buf.get? k with
  | none => s
  | some b =>
    let run := st.realRun + 1
    let st := { st with
      buf := st.buf.set k { b with chk := 1, hmac := false }, realRun := run,
      noData := st.noData && decide (run < ncyc c) }
    reconfirm (s.setHf h (v.setStream i st)) h c k

/-- A real sample fails the check. -/
def sampleFails (s : State) (h i k : Nat) : State :=
  let v := s.hf h
  let st := v.stream i
  match st.buf.get? k with
  | none => s
  | some b => s.setHf h (v.setStream i { st with buf := st.buf.set k { b with chk := 2, hmac := false }, realRun := 0 })

/-- The subscription's key policy applies: the chuck would refuse its slot (R619). -/
def keyLost (s : State) (h slot : Nat) : Bool := !keyServes s (2 + h) slot 3 .verify

/-- HALF_VERDICT (R651, R656, R617, R619). -/
def execHalfVerdict (h stream smp deliv result : Nat) (s : State) : Host.Outcome State Fault Refusal :=
  done s <|
    match s.s08For h with
    | none => s
    | some c =>
      if 1 < h || !passing s h then s
      else
        let s := svHalfTakes s h 2 stream deliv
        match ((s.hf h).stream stream).buf.get? smp with
        | none => s
        | some b =>
          if b.deliv != deliv || b.syn = 0xFFFF || b.chk != 0 then s
          else if result != 0 then sampleFails s h stream smp
          else match ((sec07 s).sv.get? stream).bind (·.auth) with
            | none => samplePasses s h c stream smp
            | some (k, cont) =>
              if !keyLost s h k then
                let v := s.hf h
                let st := v.stream stream
                s.setHf h (v.setStream stream { st with buf := st.buf.set smp { b with hmac := true } })
              else if cont then
                let r := svRun s stream
                let s := if r.skip then s
                  else (setSv s stream { r with skip := true }).event 3 Ev.SV_AUTH_SKIPPED (2 + h) stream [stream]
                samplePasses s h c stream smp
              else
                let r := svRun s stream
                sampleFails (setSv s stream { r with nAuth := up32 r.nAuth 1 }) h stream smp

/-- HALF_HMAC_DONE (R617, R618): the half's own check of an authenticated sample's FRAME packet. -/
def execHalfHmacDone (h sub deliv : Nat) (ok : Bool) (s : State) : Host.Outcome State Fault Refusal :=
  done s <|
    match s.s08For h, ((sec07 s).sv.get? sub).bind (·.auth) with
    | some c, some (k, _) =>
      if 1 < h || !passing s h then s
      else
        let s := svHalfTakes s h 3 sub deliv
        match (((s.hf h).stream sub).buf.find? fun p => p.2.deliv = deliv && p.2.hmac).map (·.1) with
        | none => s
        | some smp =>
          let (s, served) := keyServe s (2 + h) k 3 .verify
          let r := svRun s sub
          let s := setSv s sub { r with skip := false }
          if ok && served then samplePasses s h c sub smp
          else
            let s := setSv s sub { svRun s sub with nAuth := up32 r.nAuth 1 }
            let due := match r.authAt with
              | some t => decide (t + 1000000000 ≤ s.now)
              | none => true
            let s := if due then
                (setSv s sub { svRun s sub with authAt := some s.now }).event 3 Ev.SV_AUTH_FAIL (2 + h) sub [sub]
              else s
            sampleFails s h sub smp
    | _, _ => s

/-! ### Passes (R632, R633, R642 to R645) -/

/-- PASS_DUE (R632, R633, R643): every expected stream has a sample of k, or t_k + PALIGN has come; the missing ones are
synthesised and the pass starts. -/
def execPassDue (h : Nat) (s : State) : Host.Outcome State Fault Refusal :=
  done s <|
    match s.s08For h with
    | none => s
    | some c =>
      let v := s.hf h
      match v.next with
      | none => s
      | some k =>
        let missing := (expected c).filter fun i => !(v.stream i).buf.has k
        if 1 < h || !passing s h || v.running.isSome || (!missing.isEmpty && s.now < v.tk + c.palign * 100000) then s
        else
          let s := missing.foldl (fun t i => synthesise t h c k i) s
          let v := s.hf h
          let hit := v.rst = some k || v.rst = some 0xFFFF
          s.setHf h { v with running := some (k, s.now), rstNow := hit, rst := if hit then none else v.rst }

/-- The VEC packet of the half's last pass (Table BRC-2). -/
def vecOf (s : State) (h : Nat) (dig : Nat) : VecPkt :=
  let v := s.hf h
  ⟨s.isLead h, v.vecK, v.vecSec % 2 ^ 32, v.vec, v.vecP, v.gcrc, v.nseq, dig % 65536⟩

/-- The STATE packet of the lead after its pass (R708): what the series of notices and publications have come to, the latched outputs and the ends
of MINON. -/
def stateOf (s : State) (h : Nat) (c : Sec08) : StatePkt :=
  let v := s.hf h
  let latch (n : Nat) : Bool := (c.outs.get? n).map (·.mode) = some 1
  { nseq := v.nseq
    pubs := (v.pubs.filter fun q => q.2.started).map fun q => (q.1, (q.2.st, q.2.sq, q.2.next, q.2.intv))
    latched := v.outs.foldl (fun m q => if latch q.1 && q.2.conf then m ||| one q.1 else m) 0
    minOn := v.outs.map fun q => (q.1, q.2.minEnd) }

/-- Send the STATE packet; one that the kennel cannot take goes with the next pass (R708, R771). Its two words are a header and the notice number
(log entry 22), the content stands in `stOut`. -/
def sendState (s : State) (h : Nat) (c : Sec08) : State :=
  let n := if h = 0 then 81 else 85
  let p := stateOf s h c
  let t := (kPost s n [kword [(0, 7, 2), (7, 4, 2)], p.nseq]).1
  if (s.knl n).wrStall || !s.runs (kCons n) then t else t.setHf h { t.hf h with stOut := some p }

/-- A VEC packet as kennel words. -/
def vecWords (p : VecPkt) : List Nat :=
  [kword [(0, 7, 4), (7, 4, 1), (11, 1, b2n p.lead), (16, 16, p.smp), (32, 32, p.sec)],
   kword [(0, 32, p.val), (32, 32, p.prov)], kword [(0, 32, p.gcrc), (32, 32, p.nseq)], kword [(0, 16, p.dig)]]

/-- The settings digest (Table BRC-6): CRC-32 over the body CRC-32s of sections 0x07, 0x08 and the output part of 0x0F. -/
def settingsDigest (c : Secs) : Nat :=
  crc32 (le 4 ((c.s07.map (·.crc)).getD 0) ++ le 4 ((c.s08.map (·.crc)).getD 0) ++ le 4 ((c.s0f.map (·.outCrc)).getD 0))

/-- LOAD: the mean length of the last second's passes in ‰ of PASSMAX (Table PROT-7). -/
def loadOf (v : Half) : Nat := (v.durs.map (·.2)).sum * 1000 / (64 * max 1 v.durs.length)

/-- The last pass's time goes into MAXPASS, the load and the overrun count and record (R645). -/
def passTime (s : State) (h durUs : Nat) : State :=
  let v := s.hf h
  let s := s.setHf h { v with passes := up32 v.passes 1, maxPass := max v.maxPass durUs
                              durs := (s.now, durUs) :: v.durs.filter fun d => s.now < d.1 + 1000000000 }
  let s := s.wr (Reg.PR_PASS_MAXPASS h) (max (s.rd (Reg.PR_PASS_MAXPASS h)) (min durUs 0xFFFF))
  if durUs ≤ 64 then s
  else
    let s := (s.inc (Reg.PR_CNT0_OVERRUN h)).raise (Reg.PR_EVT_OVERRUN h)
    let due := match v.ovrAt with
      | some t => decide (t + 1000000000 ≤ s.now)
      | none => true
    if due && s.isLead h then (s.setHf h { s.hf h with ovrAt := some s.now }).event 1 Ev.PASS_OVERRUN (2 + h) 0 [durUs] else s

/-- Keep the 64 newest sample sets of each stream, and the passes whose results may still change (R637, R659). -/
def prune (c : Sec08) (v : Half) (k : Nat) : Half :=
  { v with
    streams := v.streams.map fun p => (p.1, { p.2 with
      buf := p.2.buf.filter fun b => (k + c.prate - b.1) % max 1 c.prate < 64 || c.prate / 2 < (k + c.prate - b.1) % max 1 c.prate })
    hist := v.hist.drop (v.hist.length - 8) }

/-- PASS_END (R642 to R645, R657 to R659, R664 to R677, R685, R707, R708). `outs` is what each instance computed on the pass,
`durUs` how long the pass took, `imp` the impedance result of each feeder that trips. -/
def execPassEnd (h : Nat) (outs : List InstOut) (durUs : Nat) (imp : List (Nat × Option Nat)) (s : State) :
    Host.Outcome State Fault Refusal :=
  done s <|
    match s.s08For h, (s.hf h).running with
    | some c, some (k, start) =>
      if 1 < h || !passing s h then s
      else
        let v := s.hf h
        let p : PassRec := ⟨k, v.tk, start, outs, [], v.insts, v.gates, v.outs, false, [], v.rstNow⟩
        let s := evalPass (passTime s h durUs) h c p
        let s := finishPass (s.setHf h { s.hf h with imp := imp }) h c k v.tk
        let s := s.wr (Reg.PR_PASS_LASTK h) k
        let v := s.hf h
        let nx := (k + 1) % max 1 c.prate
        let stamps := (expected c).filterMap fun i => ((v.stream i).buf.get? nx).bind fun b =>
          if b.syn = 0xFFFF || (v.stream i).sync then none else some b.stamp
        let tk := match stamps with
          | t :: l => sampleTime c nx (l.foldl min t)
          | [] => v.tk + periodNs s
        let s := s.setHf h (prune c { v with running := none, next := some nx, tk := tk } k)
        let s := (kPost s (if h = 0 then 80 else 84) (vecWords (vecOf s h (settingsDigest (secsFor s h))))).1
        if s.isLead h then sendState s h c else s
    | _, _ => s

/-- PROVISIONAL_EXPIRY (R655, R659, R661, R672): two sample periods after its start, a pass's provisional results go; what
they pre-armed is disarmed, and a failed sample that was not replaced counts as missing. -/
def execProvisionalExpiry (h k : Nat) (s : State) : Host.Outcome State Fault Refusal :=
  done s <|
    match s.s08For h, (s.hf h).hist.find? fun p => p.k = k with
    | some c, some p =>
      if 1 < h || !passing s h || p.expired || s.now < p.start + 2 * periodNs s then s
      else
        let v := s.hf h
        let prov := p.res.any fun r => r.2.2
        let s := if prov then (s.setHf h { v with nExp := up32 v.nExp 1 }).inc (Reg.PR_CNT0_EXPIRED h) else s
        let failed := (v.streams.filter fun q => match q.2.buf.get? k with
          | some b => b.chk = 2
          | none => false).map (·.1)
        let s := failed.foldl (fun t i => synthesise t h c k i) s
        let v := s.hf h
        let s := s.setHf h { v with hist := v.hist.map fun q => if q.k = k then { q with expired := true } else q }
        if prov then reconfirm s h c k else s
    | _, _ => s

/-- The streams whose sample of pass `p` has been replaced since it ran: a real or held sample came late (R660), or a failed one has
expired (R661). -/
def replaced (v : Half) (p : PassRec) : List Nat :=
  (v.streams.filter fun q => (q.2.buf.get? p.k).any fun b => b.late || (p.expired && b.syn = 0xFFFF)).map (·.1)

/-- REEVALUATION (R652, R660 to R663): the pass, and each later one, with what the instances that used the replaced sample compute on the
new one (`outs` by pass). One that cannot finish before the results expire is dropped and counted. -/
def execReevaluation (h k : Nat) (outs : List (Nat × List InstOut)) (fits : Bool) (s : State) : Host.Outcome State Fault Refusal :=
  done s <|
    match s.s08For h, (s.hf h).hist.find? fun p => p.k = k with
    | some c, some p =>
      let new := replaced (s.hf h) p
      let uses (n : Nat) : Bool := (c.insts.get? n).any fun i => i.ins.any fun x => new.contains x.1
      if 1 < h || !passing s h || new.isEmpty then s
      else if !fits && !p.expired then
        let v := s.hf h
        (s.setHf h { v with nRedrop := up32 v.nRedrop 1 }).inc (Reg.PR_CNT1_REDROP h)
      else
        let s := s.inc (Reg.PR_CNT1_REEVAL h)
        let v := s.hf h
        let streams := v.streams.map fun q => (q.1, match q.2.buf.get? k with
          | some b => if p.expired then q.2 else { q.2 with buf := q.2.buf.set k { b with late := false } }
          | none => q.2)
        let hist := v.hist.map fun q => match outs.find? fun o => o.1 = q.k with
          | some o =>
            let l := o.2.filter fun x => uses x.inst
            { q with raw := l ++ q.raw.filter fun r => !l.any fun x => x.inst = r.inst }
          | none => q
        reconfirm (s.setHf h { v with streams := streams, hist := hist }) h c k
    | _, _ => s

/-- GOOSE_RETRANSMIT (R686 to R689): sqNum one higher, the interval doubling up to MAXT. -/
def execGooseRetransmit (h pub : Nat) (s : State) : Host.Outcome State Fault Refusal :=
  done s <|
    match (s.s08For h).bind (fun c => c.pubs.get? pub) with
    | none => s
    | some p =>
      let st := (s.hf h).pubs.getD pub {}
      if 1 < h || !passing s h || !s.isLead h || !st.started || s.now < st.next then s
      else
        let step := min (max 1 st.intv) (max 1 p.maxt)
        pubSend s h pub p { st with
          sq := up32 st.sq 1, intv := st.intv + step, next := st.next + step * 1000000, ttl := 2 * step }

/-! ### FLOC's second stage (R691 to R694) -/

/-- HALF_UVOLT_RECEIVED (R692): a report whose dip starts within 50 ms of t_f and that arrives within 35 s of the trip. -/
def execHalfUvoltReceived (h ln t vres : Nat) (_lost : Bool) (s : State) : Host.Outcome State Fault Refusal :=
  done s <|
    match s.s08For h with
    | none => s
    | some c =>
      if 1 < h || !passing s h then s
      else
        let s := kTakeThrough s (66 + h) fun p => p.getD 0 0 / 2 ^ 7 % 2 ^ 17 = ln && p.getD 1 0 = t % 2 ^ 64
        c.feeders.foldl (fun u f =>
        match f.2.floc, (u.hf h).floc.get? f.1 with
        | some cfg, some fl =>
          match fl.trip, cfg.lns.find? fun p => p.1 = ln with
          | some tr, some (_, sec) =>
            let near := decide (t ≤ fl.tf + 50000000) && decide (fl.tf ≤ t + 50000000)
            if near && decide (u.now ≤ tr + 35000000000) then
              u.setHf h { u.hf h with floc := (u.hf h).floc.set f.1 { fl with reps := fl.reps ++ [(sec, vres)] } }
            else u
          | _, _ => u
        | _, _ => u) s

/-- The ancestors of a section, nearest first. -/
def ancestors (secs : List (Option Nat × Nat)) : Nat → Nat → List Nat
  | 0, _ => []
  | f + 1, i => match (secs[i]?).bind (·.1) with
    | some p => p :: ancestors secs f p
    | none => []

/-- The distance of a section's start. -/
def sectionStart (secs : List (Option Nat × Nat)) (i : Nat) : Nat :=
  ((ancestors secs secs.length i).map fun a => ((secs[a]?).map (·.2)).getD 0).sum

/-- The candidates of R691. -/
def flocCands (cfg : FlocCfg) (dz : Option Nat) : List Nat :=
  (List.range cfg.secs.length).filter fun i => match dz with
    | none => true
    | some d =>
      let u := d / 20 + 200
      let a := sectionStart cfg.secs i
      decide (a ≤ d + u) && decide (d - u ≤ a + ((cfg.secs[i]?).map (·.2)).getD 0)

/-- The procedure floc_locate: the sections named, nearest the source first, and whether the impedance disagrees. -/
def flocLocate (cfg : FlocCfg) (dz : Option Nat) (reps : List (Nat × Nat)) : List Nat × Bool :=
  let ids := List.range cfg.secs.length
  let v (i : Nat) : Option Nat := (reps.filter fun r => r.1 = i).foldl (fun m r => some (match m with
    | some x => min x r.2
    | none => r.2)) none
  let vmin := (reps.map (·.2)).foldl (fun m x => some (match m with
    | some y => min y x
    | none => x)) (none : Option Nat)
  let hits := ids.filter fun i => match v i, vmin with
    | some x, some m => decide (x ≤ m + cfg.vmargin * cfg.vnom / 10)
    | _, _ => false
  let roots := hits.filter fun i => !(ancestors cfg.secs cfg.secs.length i).any fun a => hits.contains a
  let res := roots.filter fun i => (flocCands cfg dz).contains i
  let pick (l : List Nat) : List Nat := (sortBy (fun a b => decide (sectionStart cfg.secs a < sectionStart cfg.secs b)) l).take 4
  if res.isEmpty then (pick roots, true) else (pick res, false)

/-- FLOC_LOCATE (R694, R695): 35 s after the trip. -/
def execFlocLocate (h feeder : Nat) (s : State) : Host.Outcome State Fault Refusal :=
  done s <|
    match (s.s08For h).bind (fun c => (c.feeders.get? feeder).bind (·.floc)), (s.hf h).floc.get? feeder with
    | some cfg, some fl =>
      match fl.trip with
      | none => s
      | some tr =>
        if 1 < h || !passing s h || s.now < tr + 35000000000 then s
        else
          let r := flocLocate cfg fl.dz fl.reps
          let flags := b2n r.2 + (if fl.reps.isEmpty then 2 else 0) + (if fl.dz.isNone then 4 else 0)
          flocIssue s h feeder 2 flags fl.reps.length { fl with trip := none } r.1
    | _, _ => s

/-! ### Commands of range 0x08 -/

/-- A command of range 0x08, NOT_IN_SERVICE (0x81) while protection is not in service. -/
def protCommand (s : State) (code tag : Nat) (bad : Bool) (f : State → Answer) : State :=
  command s code tag fun s =>
    if bad then deny s St.BAD_PARAM else if !s.sup.inServ then deny s 0x81 else f s

/-- PROT_STATUS (Table PROT-7). -/
def execProtStatus (tag h : Nat) (s : State) : Host.Outcome State Fault Refusal :=
  done s <| protCommand s 0x0801 tag (decide (1 < h)) fun s =>
    let v := s.hf h
    okay s (le 2 (((s.s08For h).map (·.prate)).getD 0) ++ le 2 (s.rd (Reg.PR_PASS_LASTK h)) ++ le 4 v.passes ++ le 2 v.maxPass ++
      le 2 (loadOf v) ++ le 4 v.nSynth ++ le 4 v.nExp ++ le 4 v.nRedrop)

/-- INST_STATUS (Table PROT-7, R979). -/
def execInstStatus (tag h inst : Nat) (s : State) : Host.Outcome State Fault Refusal :=
  done s <| protCommand s 0x0802 tag (decide (1 < h) || decide (191 < inst)) fun s =>
    match (s.s08For h).bind (fun c => c.insts.get? inst) with
    | none => deny s 0x80
    | some i =>
      let x := (s.hf h).insts.getD inst {}
      okay s (le 1 i.func ++ le 1 i.bay ++ le 2 x.bits ++ le 1 (b2n x.prov) ++ le 1 x.run ++ le 1 x.blk ++ zeros 1 ++ le 8 x.lastOp)

/-- The next pass that neither half has started: the pass of PROT_RESET (R701). -/
def resetPass (s : State) : Nat :=
  let m := ((s.s08).map (·.prate)).getD 0
  let nx (h : Nat) : Option Nat :=
    if !passing s h then none
    else match (s.hf h).running with
      | some (k, _) => some ((k + 1) % max 1 m)
      | none => (s.hf h).next
  match nx 0, nx 1 with
  | some a, some b => if (b + m - a) % max 1 m < m / 2 then b else a
  | some a, none => a
  | none, some b => b
  | none, none => 0xFFFF

/-- PROT_RESET (R701): signal 0x1800 is 1 for the whole of the next pass, of the same SmpCnt in both halves. -/
def execProtReset (tag : Nat) (s : State) : Host.Outcome State Fault Refusal :=
  done s <| protCommand s 0x0803 tag false fun s =>
    let k := resetPass s
    okay ((s.setHf 0 { s.hf 0 with rst := some k }).setHf 1 { s.hf 1 with rst := some k }) []

/-- INST_BLOCK of one half (R702). -/
def blockInst (s : State) (h inst on : Nat) : State :=
  let v := s.hf h
  let l := v.hostBlk.filter (· != inst)
  let x := v.insts.getD inst {}
  let insts := if v.insts.has inst && x.prov then v.insts.set inst { x with bits := x.conf, prov := false } else v.insts
  let hist := v.hist.map fun p => { p with res := p.res.filter fun r => !(r.1 = inst && r.2.2) }
  s.setHf h { v with hostBlk := if on = 1 then l ++ [inst] else l, insts := insts, hist := hist }

/-- INST_BLOCK (R702). -/
def execInstBlock (tag inst on : Nat) (s : State) : Host.Outcome State Fault Refusal :=
  done s <| protCommand s 0x0804 tag (decide (191 < inst) || decide (1 < on)) fun s =>
    match (s.s08).bind (fun c => c.insts.get? inst) with
    | none => deny s 0x80
    | some _ => okay (edited (blockInst (blockInst s 0 inst on) 1 inst on) 8) []

/-- FLOC_GET (R695): the body of the feeder's last FLOC_RESULT, bytes 12 to 55. -/
def execFlocGet (tag feeder : Nat) (s : State) : Host.Outcome State Fault Refusal :=
  done s <| protCommand s 0x0805 tag (decide (31 < feeder)) fun s =>
    match ((s.hf (s.lead.getD 0)).floc.get? feeder).bind (·.last) with
    | some b => okay s (b.drop 12)
    | none => deny s 0x82

end Sys2Proof.Machine
end

