-- ==== Sys2Proof/Machine/Access.lean ====
section
/-! DEFINITION. How a write of the host reaches a register: the domain that answers, and the policy of the path
(04_host_registers.md). -/
namespace Sys2Proof.Machine

/-- Accesses to block `b` are answered: the block's domain runs, and APP runs for every block outside AON (R32, R203, R204). -/
def blockRuns (s : State) (b : Nat) : Bool :=
  let d := blockDom b
  d = 0 || (s.runs 1 && s.runs d)

/-- The access policy of path `p` lets it write block `b` (R249). -/
def pathMay (s : State) (p b : Nat) : Bool := p < 5 && bit (s.rd (Reg.HBR_BLKPOL_WE p)) b

/-- The path reaches the module: path 0 ends in the PCIe endpoint, which PERST_N holds in reset (R78); the tunnel ends in APP (paths 1
to 4). -/
def pathOpen (s : State) (p : Nat) : Bool := if p = 0 then !s.pwr.perst else p < 5 && s.runs 1

/-- A host write to block `b` with effect `f`: discarded while the block's domain does not run, discarded and counted in DENY
when the path's policy forbids it (R32, R249). -/
def hostWrite (s : State) (p b : Nat) (f : State → State) : State :=
  if !pathOpen s p || !blockRuns s b then s
  else if !pathMay s p b then s.inc Reg.HBR_CNT2_DENY
  else f s

/-- A host read of block `b` over the endpoint, that answers `v` and has effect `f`: 0xFFFF_FFFF while the block's domain does not run
(R32); none arrives while PERST_N holds the endpoint in reset (R78). -/
def hostRead (s : State) (b : Nat) (f : State → Nat × State) : State :=
  if !pathOpen s 0 then s
  else if !blockRuns s b then { s with mbx := { s.mbx with lastRead := some 0xFFFFFFFF } }
  else
    let r := f s
    { r.2 with mbx := { r.2.mbx with lastRead := some (BitVec.ofNat 32 r.1) } }

/-- An RC read of several fields of one register: the word that the fields make, each then holding only its same-cycle update
(R67, R207). -/
def rcReadAll (s : State) (fs : List Fld) (upd : List Nat) : Nat × State :=
  fs.zipIdx.foldl (fun r p =>
    let (v, t) := rcRead r.2 p.1 (upd.getD p.2 0)
    (r.1 + v * 2 ^ p.1.lo, t)) (0, s)

end Sys2Proof.Machine
end

