-- ==== Sys2Proof/Machine/Domains.lean ====
section
/-! DEFINITION. The reset of a domain: its blocks' registers, its kennels and the state it holds (01_architecture.md,
03_startup_configuration.md). -/
namespace Sys2Proof.Machine

/-- The blocks of domain `d` (Table HOST-2). -/
def blocksOf (d : Nat) : List Nat := (List.range 21).filter fun b => blockDom b = d

/-- The keys of the fields that a warm restart keeps. -/
def stickyKeys : List Nat :=
  (allRows.filter fun r => r.flds.any fun f => f.keep != .none).flatMap fun r =>
    (r.all.filter fun f => f.keep != .none).map fun f => f.fld.key

/-- The keys of the fields held in MRAM. -/
def mramKeys : List Nat :=
  (allRows.filter fun r => r.flds.any fun f => f.keep = .mram).flatMap fun r =>
    (r.all.filter fun f => f.keep = .mram).map fun f => f.fld.key

/-- A register key lies in one of the blocks `bs`. -/
def inBlocks (bs : List Nat) (key : Nat) : Bool := bs.contains (key / 32 / 0x10000)

/-- Give every register of the blocks `bs` its reset value, but for the keys in `kept`. -/
def regReset (s : State) (bs kept : List Nat) : State :=
  let old := s.regs.filter fun p => !inBlocks bs p.1 || kept.contains p.1
  let rst := resetRegs.filter fun p => inBlocks bs p.1 && !kept.contains p.1
  { s with regs := rst.foldl (fun r p => KMap.set r p.1 p.2) old }

/-- What a reset of the half of side `i` leaves of the bridges' near sides (R773): nothing of its own, and of the others no request into its
memory. Their reads stay open until the reader abandons them (R772). -/
def crossDrop (m : KMap Side) (i : Nat) : KMap Side :=
  (m.erase i).map fun p => (p.1, { p.2 with
    far := p.2.far.filter fun q => match q with
      | .read r => r.mem != i
      | .write _ m _ => m != i
    lock := p.2.lock.filter fun l => l.mem != i })

/-- The state that domain `d` loses when it is reset, apart from registers and kennels. APP loses the mailbox rings, what its
bridge holds, the segment but for its counters in MRAM, lighting but for the feeders' states (R552), the metering back end but for
its save slots, the archive but for the shelf, and the messages of the crypto engines; NET disarms the compare units and sets CMPLOST (R283) and keeps the shadow copies of R597; the backup elements keep their requests through a reset of MFE (R31). -/
def domainClear (s : State) (d : Nat) : State :=
  match d with
  | 1 => { s with
      mbx := { s.mbx with cmds := [], rsps := [], rpts := [], evs := [], prog := [], held := [], ovfl := [] }
      hbr := { s.hbr with sides := s.hbr.sides.erase 0, reply := none, late := [] }
      arb := { wgt := (arbDefaults.zipIdx).map fun p => (p.2, p.1) }
      lnt := { ctr := s.lnt.ctr, gceil := s.lnt.gceil }
      lux := { feeders := s.lux.feeders.map fun p => (p.1, { st := p.2.st }) }
      arc := { extents := s.arc.extents, shelf := s.arc.shelf, extno := s.arc.extno, free := s.arc.free, total := s.arc.total,
               dist := s.arc.dist.filter (·.closed), did := s.arc.did }
      key := { s.key with engs := [], old := [] }
      mtr := { slots := s.mtr.slots, trial := s.mtr.trial, lastSave := s.mtr.lastSave, modAt := s.mtr.modAt } }
  | 2 => { s with hbr := { s.hbr with sides := crossDrop s.hbr.sides 1 } }.setHf 0 { cores := (s.hf 0).cores }
  | 3 => { s with hbr := { s.hbr with sides := crossDrop s.hbr.sides 2 } }.setHf 1 { cores := (s.hf 1).cores }
  | 4 => { s with rad := { failed := s.rad.failed, dead := s.rad.dead, bound := s.rad.bound, calTag := s.rad.calTag } }
  | 5 => { s with
      fwd := { shMac := s.fwd.shMac, shMc := s.fwd.shMc, shPfx := s.fwd.shPfx, shNh := s.fwd.shNh, txDis := s.fwd.txDis }
      tb := { s.tb with qHeld := s.tb.q, ppsIn := none, ppsFrozen := none, incNew := false, adjRem := 0, slewAcc := 0, slewNs := 0 }
    }.raise Reg.TB_STAT_CMPLOST
  | 6 => ({ s with mtr := { s.mtr with modAt := [], winUp := none },
                   bk := s.bk.map fun p => (p.1, { p.2 with picked := false, since := s.up }) } : State).clr Reg.OUT_BKSTAT_PICKUP
  | _ => s

/-- APP has left RUN: each loop in use keeps its last set point (R136). -/
def loopsHold (s : State) : State :=
  (List.range 8).foldl (fun s n => s.wr (Reg.OUT_LPSTAT_HOLDING n) (s.rd (Reg.OUT_LPCFG_EN n))) s

/-- Reset domain `d` and hold it in reset (R34, R155); the loops hold when APP leaves RUN. -/
def domainReset (s : State) (d : Nat) : State :=
  let s := if d = 1 && s.runs 1 then loopsHold s else s
  domainClear (kReset (regReset (s.setDom d 1) (blocksOf d) stickyKeys) d) d

/-- The supervisor's marks of a domain's watchdog reset (R33, R149): the domain's bit of DWDOG, and DOMAIN_RESET. -/
def watchdogMark (s : State) (d : Nat) : State :=
  let s := s.wr Reg.SUP_RSTCAUSE_DWDOG (s.rd Reg.SUP_RSTCAUSE_DWDOG ||| one (d - 1))
  s.event 0 Ev.DOMAIN_RESET 0 0 [d]

/-- Take the first packet from a kennel, as its consumer reads it whole (R42). -/
def kTake (s : State) (n : Nat) : State :=
  let k := s.knl n
  match k.pkts with
  | [] => s
  | x :: l => s.setKn n { k with pkts := l, rd := 0, rdStall := false, out := (x, false) }

/-- Give a domain back to RUN. -/
def domainRun (s : State) (d : Nat) : State := s.setDom d 2

end Sys2Proof.Machine
end

