-- ==== Sys2Proof/Machine/Time.lean ====
section
/-! DEFINITION. Time: the spindle and its servo, compare units, PTP and PPS, the RTC and its epoch, operating time, UTC
(05_time.md). -/
namespace Sys2Proof.Machine

/-- Section 0x02 in force, with the defaults of Table BOOT-7 when it is absent. -/
def sec02 (s : State) : Sec02 :=
  s.cfg.secs.s02.getD ⟨0, 100, 300, none, 0, [], 0, [], false, false, 0, [], false, 0, 0, 0, false, false, 128, 128, 0⟩

/-- The time source: 0 PTP, 1 PPS, 2 and 3 none. -/
def timeSrc (s : State) : Nat := s.rd Reg.TB_CFG_SRC

/-- Change the timebase. -/
def State.setTb (s : State) (t : Tb) : State := { s with tb := t }

/-! ### The spindle (R254 to R262) -/

/-- An increment within 2.5 ns ± 5,000 ppm (R256). -/
def clampInc (n : Nat) : Nat := clamp 0x027CCCCCCD 0x0283333333 n

/-- Move the count by a signed number of 2^−32 ns, modulo 2^64 ns (R253). -/
def Tb.move (t : Tb) (d : Int) : Tb :=
  let sum := ((t.ns : Int) * 2 ^ 32 + t.frac + d) % 2 ^ 96
  { t with ns := (sum / 2 ^ 32).toNat, frac := (sum % 2 ^ 32).toNat }

/-- One tick of the spindle clock: the increment, and the slew while TB_ADJREM is not 0 (R254, R255, R260). DESIGN CHOICE (log entry 26):
what SLEWPPM × 2.5 × 10^−6 ns has below 2^−32 ns is carried to the next tick. While NET does not run its replicas go on by their last
increment (R274). -/
def spindleTick (s : State) : State :=
  let t := s.tb
  if !s.runs 5 then s.setTb (t.move t.inc)
  else
    let inc := if t.incNew then clampInc (s.rd Reg.TB_INC_NS_NS * 2 ^ 32 + s.rd Reg.TB_INC_FR_FR) else t.inc
    let sg := t.adjRem.sign
    let acc := t.slewAcc + s.rd Reg.TB_CFG_SLEWPPM * 25 * 2 ^ 32
    let d := sg * (acc / 10000000 : Nat)
    let whole := if 2 ^ 32 ≤ sg * (t.slewNs + d) then sg else 0
    let left := t.adjRem - whole
    s.setTb { t.move (inc + d) with
      inc := inc, incNew := false, adjRem := left
      slewAcc := if left = 0 then 0 else acc % 10000000
      slewNs := if left = 0 then 0 else t.slewNs + d - whole * 2 ^ 32 }

/-- Store a whole-nanosecond increment: the pair applies from the next tick (R255, R259). -/
def writeIncNs (s : State) (v : Nat) : State :=
  let s := s.wr Reg.TB_INC_NS_NS v
  s.setTb { s.tb with incNew := true, hostInc := timeSrc s < 2 }

/-- Store an increment fraction (R255, R259). -/
def writeIncFr (s : State) (v : Nat) : State :=
  let s := s.wr Reg.TB_INC_FR_FR v
  s.setTb { s.tb with hostInc := timeSrc s < 2 }

/-- TB_INC_NS_WRITE. -/
def execTbIncNsWrite (path : Nat) (val : Word) (s : State) : Host.Outcome State Fault Refusal :=
  done s (hostWrite s path 2 fun s => writeIncNs s val.toNat)

/-- A read of TB_NOW_LO loads the host shadow (R257). -/
def readNowLo (s : State) : Nat × State :=
  (s.tb.ns % 2 ^ 32, s.setTb { s.tb with shHi := s.tb.ns / 2 ^ 32 % 2 ^ 32, shFr := s.tb.frac })

/-- TB_NOW_LO_READ (R257). -/
def execTbNowLoRead (s : State) : Host.Outcome State Fault Refusal := done s (hostRead s 2 readNowLo)

/-- The limits of an s32. -/
def satS32 (i : Int) : Int := clampI (-2147483648) 2147483647 i

/-- Add to TB_ADJREM with saturation; `dec` is a decrement of the same cycle (R261, R262). -/
def addAdj (s : State) (a : Int) (dec : Bool) : State :=
  let r := satS32 (s.tb.adjRem + a)
  let r := if !dec || r = 0 then r else if r < 0 then r + 1 else r - 1
  s.setTb { s.tb with adjRem := r }

/-- TB_ADJ_WRITE (R261, R262). -/
def execTbAdjWrite (path : Nat) (val : Word) (dec : Bool) (s : State) : Host.Outcome State Fault Refusal :=
  done s (hostWrite s path 2 fun s => addAdj s (toS 32 val.toNat) dec)

/-! ### Quality, steps, the epoch (R263 to R265, R271, R308, R309) -/

/-- Change the quality (R271). -/
def setQual (s : State) (q : Nat) : State :=
  if s.tb.q = q then s
  else
    let old := s.tb.q
    let s := s.setTb { s.tb with q := q, qSince := s.now }
    (s.raise Reg.TB_STAT_QCHG).event 7 Ev.TIME_QUALITY 5 0 [old, q]

/-- The domains that read the spindle through a replica: every one but NET (R25). -/
def replicas : List Nat := [0, 1, 2, 3, 4, 6]

/-- Step the spindle and every replica by `d` (R264), with a notice to each domain that reads a replica (R265). -/
def stepSpindle (s : State) (d : Int) : State :=
  let v := ofS 64 d
  let s := (s.raise Reg.TB_STAT_STEP).event 7 Ev.TIME_STEP 5 0 [v % 2 ^ 32, v / 2 ^ 32]
  s.setTb { s.tb with
    ns := (((s.tb.ns : Int) + d) % 2 ^ 64).toNat, adjRem := 0, slewAcc := 0, slewNs := 0, stepNotes := replicas.map fun k => (k, d) }

/-- The RTC rate error between two anchors, in parts per 10^9 (R309). -/
def rtcDrift (e : Epoch) (tick tai : Nat) : Int :=
  let dn := toS 48 (tick + 2 ^ 48 - e.tick % 2 ^ 48) * 1000000000 / 32768
  let dt : Int := (tai : Int) - e.tai
  if dt = 0 then 0 else (dn - dt) * 1000000000 / dt

/-- Re-anchor the RTC epoch at a count and a spindle time (R303, R308, R309). -/
def anchorAt (s : State) (tick tai : Nat) : State :=
  let e := s.tb.rtcEpoch
  let drift := if e.valid && e.qual = 4 && s.tb.q = 4 && e.tai + 3600000000000 ≤ tai then rtcDrift e tick tai else e.drift
  s.setTb { s.tb with rtcEpoch := { valid := true, tick := tick, tai := tai, qual := s.tb.q, drift := drift } }

/-- Re-anchor the RTC epoch now. -/
def anchor (s : State) : State := anchorAt s s.tb.rtc s.tb.ns

/-- RTC count to TAI nanoseconds: the procedure rtc_to_tai. -/
def rtcToTai (e : Epoch) (tick : Nat) : Nat :=
  let ns := (toS 48 (tick + 2 ^ 48 - e.tick % 2 ^ 48) * 1000000000).tdiv 32768
  (((e.tai : Int) + (ns - (ns * e.drift).tdiv 1000000000)) % 2 ^ 64).toNat

/-- The spindle's value and quality at a start: the RTC through its epoch, or 0 and NONE (R270). -/
def fromRtc (s : State) : Nat × Nat :=
  if s.rd Reg.RTC_STAT_OSF = 1 || !s.tb.rtcEpoch.valid then (0, 0) else (rtcToTai s.tb.rtcEpoch s.tb.rtc, 1)

/-- The spindle at a start of the module (R270): no change of quality under R271. -/
def startSpindle (s : State) : State :=
  let (ns, q) := fromRtc s
  s.setTb { s.tb with
    ns := ns, frac := 0, inc := 0x0280000000, incNew := false, slewAcc := 0, slewNs := 0, adjRem := 0, q := q, qSince := ns, qHeld := q,
    lockRun := 0, lockOmit := false, lossRun := 0, lastOff := none, incHist := [], ppsIn := none, ppsFrozen := none, ppsSet := false,
    ppsOut := 0, setPps := none, gmid := 0, steps := 0xFF, port := 0xFF, mpd := 0, ptpUtc := none, ptpLeap := 0, ann := [],
    hostInc := false, shHi := 0, shFr := 0, stepNotes := [], fires := [] }

/-! ### The servo (R266 to R268, R272) -/

/-- Give the increment a value, as the servo does: it overrides what the host wrote (R259). -/
def servoSetInc (s : State) (n : Nat) : State :=
  let n := clampInc n
  let s := s.wrs [(Reg.TB_INC_NS_NS, n / 2 ^ 32), (Reg.TB_INC_FR_FR, n % 2 ^ 32)]
  let s := if s.tb.hostInc then s.raise (Reg.CMN_LOST_UPD 2) else s
  s.setTb { s.tb with incNew := true, hostInc := false }

/-- The increment the registers hold. -/
def regInc (s : State) : Nat := s.rd Reg.TB_INC_NS_NS * 2 ^ 32 + s.rd Reg.TB_INC_FR_FR

/-- Enter HOLDOVER: the increment takes its mean over the last 64 s in LOCKED and stays (R272). -/
def enterHoldover (s : State) : State :=
  let h := s.tb.incHist
  let s := if h.isEmpty then s else servoSetInc s (h.sum / h.length)
  setQual ((s.wr Reg.TB_QUAL_SERVO 3).setTb { s.tb with lockRun := 0, lossRun := 0 }) 3

/-- The servo's corrections for an offset (R266): the slew, unless it is omitted (`skip`), and the rate. While the slew is omitted the
error is the change of offset alone; in HOLDOVER the rate stays. -/
def servoRate (s : State) (off : Int) (skip : Bool) : State :=
  let err := if skip then s.tb.lastOff.map (off - ·) else some off
  let s := if skip then s else s.setTb { s.tb with adjRem := satS32 (-off) }
  match err with
  | some e => if s.tb.q = 3 then s else servoSetInc s (Config.servoInc 64 e (regInc s))
  | none => s

/-- The lock reached (R267): the step where the slew was omitted, and LOCKED. -/
def servoLock (s : State) (off : Int) (skip : Bool) : State :=
  let s := if skip then stepSpindle s (-off) else s
  anchor (setQual ((s.wr Reg.TB_QUAL_SERVO 2).setTb { s.tb with lossRun := 0, incHist := [] }) 4)

/-- The quality after `lock` offsets in range and `loss` out of range (R267, R268, R272). -/
def servoQual (s : State) (off : Int) (skip : Bool) (lock loss : Nat) : State :=
  if s.tb.q != 4 then
    if 8 ≤ lock && (timeSrc s != 1 || s.tb.ppsSet) then servoLock s off skip
    else if s.tb.q = 3 then s else s.wr Reg.TB_QUAL_SERVO 1
  else
    let s := s.setTb { s.tb with incHist := (regInc s :: s.tb.incHist).take 64 }
    if 8 ≤ loss then enterHoldover s else s

/-- The servo takes an offset (R263, R266 to R268): the phase slew holds the negated offset, and the rate is corrected with a time constant
of 64 s, from the offset or, while the slew is omitted, from its change alone. -/
def servo (s : State) (off : Int) : State :=
  let t := s.tb
  let skip := t.q ≤ 1 && 1000000 ≤ off.natAbs
  let near := if skip then (match t.lastOff with
    | some o => decide ((off - o).natAbs ≤ 200)
    | none => false) else decide (off.natAbs ≤ 200)
  let lock := if !near then 0 else if skip = t.lockOmit then t.lockRun + 1 else 1
  let loss := if 1000 < off.natAbs then t.lossRun + 1 else 0
  let s := servoRate s off skip
  let s := s.setTb { s.tb with lockRun := min lock 8, lockOmit := skip, lossRun := min loss 8, lastOff := some off }
  servoQual s off skip lock loss

/-- A PTP timestamp of port `p` corrected by its asymmetry (R285). PRESUMED (log entry 30): a positive ASYMp comes off a receive stamp. -/
def ptpStamp (s : State) (p : Nat) (t : Int) : Int := t - (sec02 s).asym.getD p 0

/-- The offset from the master (R266): the corrected receive stamp of a Sync, less its origin timestamp, the correction it carries and the
mean path delay. PRESUMED (log entry 30): IEEE 1588's sum. -/
def ptpOffset (s : State) (port rx origin : Nat) (corr : Int) (mpd : Nat) : Int := ptpStamp s port rx - origin - corr - mpd

/-- PTP_SYNC_RECEIVED (R266, R285): a Sync of the selected master, received at `rx` on the port's own stamp. -/
def execPtpSyncReceived (port rx origin : Nat) (corr : Int) (mpd : Nat) (s : State) : Host.Outcome State Fault Refusal :=
  done s <|
    if !s.runs 5 || timeSrc s != 0 || s.tb.port != port || 4 < port then s
    else servo (s.setTb { s.tb with mpd := mpd % 2 ^ 32 }) (ptpOffset s port rx origin corr mpd)

/-! ### PTP (R286, R313) -/

/-- The keys by which the default BMCA orders Announce data: a smaller list is better. -/
def annKey (a : Announce) (port : Nat) : List Nat :=
  [a.prio1, a.clockClass, a.accuracy, a.variance, a.prio2, a.gmid, a.steps, port]

/-- The module's own data set when it may be master (Table TIME-4). -/
def ownKey (s : State) : List Nat :=
  [(sec02 s).prio1, 248, 0xFE, 0xFFFF, (sec02 s).prio2, s.fuses.unitId % 2 ^ 64, 0, 0]

/-- Lexicographic order. -/
def lexLt : List Nat → List Nat → Bool
  | _, [] => false
  | [], _ => true
  | a :: l, b :: m => a < b || (a = b && lexLt l m)

/-- The best master among the ports' Announce data. -/
def bestMaster (s : State) : Option (Nat × Announce) :=
  let best := s.tb.ann.foldl (fun (b : Option (Nat × Announce)) p => match b with
    | some q => if lexLt (annKey p.2 p.1) (annKey q.2 q.1) then some p else b
    | none => some p) none
  match best with
  | some p => if (sec02 s).masterCapable && lexLt (ownKey s) (annKey p.2 p.1) then none else some p
  | none => none

/-- TAI − UTC: the master's while it marks it valid, else section 0x02's, else the last saved (R313). -/
def utcOffset (s : State) : Int :=
  match s.tb.ptpUtc with
  | some v => v
  | none => (sec02 s).utcOff.getD s.tb.utcSaved

/-- Take UTCOFF and LEAP from what holds now. -/
def refreshUtc (s : State) : State :=
  let s := s.wrs [(Reg.TB_QUAL_UTCOFF, ofS 16 (utcOffset s)), (Reg.TB_QUAL_LEAP, s.tb.ptpLeap)]
  s.setTb { s.tb with utcSaved := utcOffset s }

/-- Select the master and the slave port afresh. -/
def selectMaster (s : State) : State :=
  match bestMaster s with
  | some (p, a) =>
    let new := s.tb.port != p || s.tb.gmid != a.gmid
    refreshUtc (s.setTb { s.tb with
      port := p, gmid := a.gmid, steps := a.steps, ptpUtc := if a.utcValid then some a.utcOff else none, ptpLeap := a.leap % 4,
      lockRun := if new then 0 else s.tb.lockRun, lossRun := if new then 0 else s.tb.lossRun,
      lastOff := if new then none else s.tb.lastOff })
  | none => refreshUtc (s.setTb { s.tb with port := 0xFF, steps := 0xFF, ptpUtc := none, ptpLeap := 0 })

/-- Load the registers of section 0x02; a start and an apply never step the spindle (Table BOOT-9). -/
def loadTime (s : State) : State :=
  let c := sec02 s
  refreshUtc <| s.wrs [(Reg.TB_CFG_SRC, c.src), (Reg.TB_CFG_SLEWPPM, c.slewPpm), (Reg.TB_CFG_HOLDLIM, c.holdLim),
    (Reg.TB_PPSCFG_OUTEN, b2n c.ppsOutEn), (Reg.TB_PPSCFG_OUTQ, b2n c.ppsOutQ), (Reg.TB_PPSCFG_INDLY, c.ppsInDly),
    (Reg.RTC_TCH_EN, b2n c.tchEn), (Reg.RTC_TCH_RSEL, c.rsel), (Reg.RTC_TCH_DSEL, c.dsel), (Reg.RTC_TCH_VMAX, c.vmax)]

/-- Step 3 of an apply waits no longer: an announce interval begins (Table BOOT-9). -/
def timeDue (s : State) : State := ((dueTake s 3).map loadTime).getD s

/-- PTP_ANNOUNCE_RECEIVED (R286, R313): the default BMCA over P0 to P4. -/
def execPtpAnnounceReceived (port : Nat) (ann : Announce) (s : State) : Host.Outcome State Fault Refusal :=
  done s <|
    if !s.runs 5 || timeSrc s != 0 || 4 < port then s
    else timeDue (selectMaster (s.setTb { s.tb with ann := s.tb.ann.set port ann }))

/-- SYNC_TIMEOUT (Table TIME-2, R272): no Sync from the selected master for 3 announce intervals. -/
def execSyncTimeout (s : State) : Host.Outcome State Fault Refusal :=
  done s <|
    if !s.runs 5 || timeSrc s != 0 then s
    else
      let s := selectMaster (s.setTb { s.tb with ann := s.tb.ann.erase s.tb.port })
      if s.tb.port != 0xFF then s
      else if s.tb.q = 4 then enterHoldover s
      else s

/-- HOLDOVER_LIMIT_EXPIRY (Table TIME-2): HOLDLIM seconds in HOLDOVER. -/
def execHoldoverLimitExpiry (s : State) : Host.Outcome State Fault Refusal :=
  done s <|
    if !s.runs 5 || s.tb.q != 3 || s.now < s.tb.qSince + s.rd Reg.TB_CFG_HOLDLIM * 1000000000 then s
    else (setQual s 2).wr Reg.TB_QUAL_SERVO (if s.tb.port = 0xFF && timeSrc s = 0 then 0 else 1)

/-- What time does when the NET domain is back in RUN without a warm restart: the APP replica goes on, fraction and all, or the RTC is loaded
when APP does not run (R275, R276). Nothing has changed the quality while NET was down. -/
def netTimeReturn (s : State) : State :=
  let held := s.tb.qHeld
  let s := (dueTake s 3).getD s
  let s := loadTime (s.setTb { s.tb with
    inc := 0x0280000000, incNew := false, adjRem := 0, slewAcc := 0, slewNs := 0, lockRun := 0, lossRun := 0, lastOff := none,
    gmid := 0, steps := 0xFF, port := 0xFF, ptpUtc := none, ptpLeap := 0, ann := [], hostInc := false, shHi := 0, shFr := 0 })
  if s.runs 1 then
    let s := s.setTb { s.tb with q := held }
    if held = 4 then enterHoldover s
    else if held = 3 then
      let h := s.tb.incHist
      (if h.isEmpty then s else servoSetInc s (h.sum / h.length)).wr Reg.TB_QUAL_SERVO 3
    else s
  else
    let (ns, q) := fromRtc s
    setQual (s.setTb { s.tb with ns := ns, frac := 0, q := held, incHist := [] }) q

/-! ### Compare units (R277 to R284) -/

/-- The target of a unit. -/
def cmpTarget (s : State) (n : Nat) : Nat := s.rd (Reg.TB_CMP_THI_TGT_HI n) * 2 ^ 32 + s.rd (Reg.TB_CMP_TLO_TGT_LO n)

/-- A unit's target is reached (R277). -/
def cmpReached (s : State) (n : Nat) : Bool := decide (0 ≤ toS 48 (s.now % 2 ^ 48 + 2 ^ 48 - cmpTarget s n))

/-- Release the RTC count with its load value; an armed release re-anchors the epoch to the spindle time of its event in FREERUN or better,
any other release makes it invalid (R299 to R303). -/
def rtcRelease (s : State) (armed : Option Nat) : State :=
  let s := s.setTb { s.tb with rtc := s.rd Reg.RTC_LOAD_HI_LOAD_HI * 2 ^ 32 + s.rd Reg.RTC_LOAD_LO_LOAD_LO }
  let s := ((s.clr Reg.RTC_CTL_HALT).clr Reg.RTC_CTL_ARM).clr Reg.RTC_STAT_HALTED
  match armed.filter fun _ => 2 ≤ s.tb.q with
  | some t => anchorAt s s.tb.rtc t
  | none => s.setTb { s.tb with rtcEpoch := { s.tb.rtcEpoch with valid := false } }

/-- A fire: FIRED, ARM cleared, the event to the owner; a host unit may release the RTC (R280, R300). The owner of a unit from 4 on takes its
event at its next tick. -/
def cmpFire (s : State) (n : Nat) : State :=
  let s := (s.raise (Reg.TB_CMP_CTL_FIRED n)).clr (Reg.TB_CMP_CTL_ARM n)
  if 4 ≤ n then s.setTb { s.tb with fires := s.tb.fires ++ [n] }
  else if s.rd Reg.RTC_CTL_ARM = 1 && s.rd Reg.RTC_CTL_RELSRC = 1 && s.rd Reg.RTC_CTL_RELCMP = n then rtcRelease s (some s.now) else s

/-- COMPARE_FIRE (R277, R278, R280). -/
def execCompareFire (n : Nat) (s : State) : Host.Outcome State Fault Refusal :=
  done s <|
    if 32 ≤ n || !s.runs 5 || s.rd (Reg.TB_CMP_CTL_ARM n) = 0 || !cmpReached s n then s else cmpFire s n

/-- A write to a target half (R281, R284); `firing` when it falls in the tick of a fire. -/
def writeTarget (s : State) (n : Nat) (hi : Bool) (v : Nat) (firing : Bool) : State :=
  if 4 ≤ n then s
  else
    let s := if firing && s.rd (Reg.TB_CMP_CTL_ARM n) = 1 then cmpFire s n else s
    (s.wr (if hi then Reg.TB_CMP_THI_TGT_HI n else Reg.TB_CMP_TLO_TGT_LO n) v).clr (Reg.TB_CMP_CTL_ARM n)

/-- COMPARE_TARGET_WRITE (R281, R284). -/
def execCompareTargetWrite (path n : Nat) (hi : Bool) (val : Word) (firing : Bool) (s : State) : Host.Outcome State Fault Refusal :=
  done s (hostWrite s path 2 fun s => writeTarget s n hi val.toNat firing)

/-- Arm a unit: in the tick of a fire the unit stays armed and that fire is not reported (R282, R284). -/
def armUnit (s : State) (n : Nat) : State := if 4 ≤ n then s else s.raise (Reg.TB_CMP_CTL_ARM n)

/-- COMPARE_ARM (R278, R282, R284). -/
def execCompareArm (path n : Nat) (_firing : Bool) (s : State) : Host.Outcome State Fault Refusal :=
  done s (hostWrite s path 2 fun s => armUnit s n)

/-! ### PPS (R290 to R294, R318 to R321) -/

/-- The signed offset of a stamp from the nearest whole second. -/
def ppsOffset (stamp : Nat) : Int :=
  let r := stamp % 1000000000
  if r < 500000000 then r else (r : Int) - 1000000000

/-- Carry out a TIME_SET: the step, the quality, the epoch, the response (R318, R320). -/
def timeSetDone (s : State) (tag : Nat) (d : Int) (keep : Bool) : State :=
  let s := stepSpindle s d
  let s := if keep && 3 ≤ s.tb.q then s else setQual s 2
  let s := anchor s
  (s.setTb { s.tb with setPps := none, lockRun := if s.tb.q = 2 then 0 else s.tb.lockRun }).respond 0x0302 tag 0 []

/-- The TIME_SET that waits for an edge takes effect at it. DESIGN CHOICE (log entry 25): where the quality has become LOCKED or HOLDOVER
meanwhile, R319 answers it BUSY at the edge. -/
def ppsTimeSet (s : State) (stamp : Nat) : State :=
  match s.tb.setPps with
  | none => s
  | some (tag, tai, _) =>
    if timeSrc s = 1 then
      timeSetDone (s.setTb { s.tb with ppsSet := true }) tag ((tai : Int) - (stamp - ppsOffset stamp)) true
    else if 3 ≤ s.tb.q then (s.setTb { s.tb with setPps := none }).respond 0x0302 tag St.BUSY []
    else timeSetDone s tag ((tai : Int) - stamp) false

/-- PPS_IN_EDGE (R291 to R294, R300, R318, R320): a rising edge after `lowNs` ns of low. -/
def execPpsInEdge (t lowNs : Nat) (s : State) : Host.Outcome State Fault Refusal :=
  done s <|
    if lowNs < 1000 || !s.runs 5 then s
    else
      let stamp := t - s.rd Reg.TB_PPSCFG_INDLY
      let old := s.tb.ppsIn
      let s := s.setTb { s.tb with ppsIn := some stamp }
      let s := if s.rd Reg.RTC_CTL_ARM = 1 && s.rd Reg.RTC_CTL_RELSRC = 2 then rtcRelease s (some stamp) else s
      let bad := match old with
        | some o => timeSrc s = 1 && 10000 < ((stamp : Int) - o - 1000000000).natAbs
        | none => false
      let s := if bad then (s.raise Reg.TB_STAT_PPSBAD).event 7 Ev.PPS_BAD 5 0 [] else s
      let s := ppsTimeSet s stamp
      if timeSrc s = 1 && !bad then servo s (ppsOffset stamp) else s

/-- PPS_TIMEOUT (R292): no accepted edge within 1.5 s of the previous one. -/
def execPpsTimeout (s : State) : Host.Outcome State Fault Refusal :=
  done s <|
    match s.tb.ppsIn with
    | some t => if timeSrc s != 1 || !s.runs 5 || s.now < t + 1500000000 || s.tb.q != 4 then s else enterHoldover s
    | none => s

/-- PPS_OUT is high. -/
def ppsHigh (s : State) : Bool := decide (s.now < s.tb.ppsOut)

/-- PPS_OUT_SECOND (R290, Table IF-4): in the tick in which the spindle crosses a whole second PPS_OUT rises for 100 ms, where it is enabled
and the quality serves. -/
def execPpsOutSecond (s : State) : Host.Outcome State Fault Refusal :=
  done s <|
    if !s.runs 5 || 3 ≤ s.now % 1000000000 then s
    else
      let s := timeDue s
      let on := s.rd Reg.TB_PPSCFG_OUTEN = 1 && (s.rd Reg.TB_PPSCFG_OUTQ = 1 || s.tb.q = 3 || s.tb.q = 4)
      s.setTb { s.tb with ppsOut := if on then s.now + 100000000 else 0 }

/-- A read of TB_PPSIN_LO freezes the high half until it is read. -/
def readPpsLo (s : State) : Nat × State :=
  let v := s.tb.ppsIn.getD 0
  (v % 2 ^ 32, s.setTb { s.tb with ppsFrozen := some (v / 2 ^ 32 % 2 ^ 32) })

/-- A read of TB_PPSIN_HI. -/
def readPpsHi (s : State) : Nat × State :=
  (s.tb.ppsFrozen.getD (s.tb.ppsIn.getD 0 / 2 ^ 32 % 2 ^ 32), s.setTb { s.tb with ppsFrozen := none })

/-- TB_PPSIN_LO_READ (R291). -/
def execTbPpsinLoRead (s : State) : Host.Outcome State Fault Refusal := done s (hostRead s 2 readPpsLo)

/-- TB_PPSIN_HI_READ (R291). -/
def execTbPpsinHiRead (s : State) : Host.Outcome State Fault Refusal := done s (hostRead s 2 readPpsHi)

/-! ### The RTC (R295 to R305) -/

/-- A read of RTC_TICK_LO by the host (R295). -/
def readTickLo (s : State) : Nat × State :=
  (s.tb.rtc % 2 ^ 32, s.setTb { s.tb with rtcHost := some (s.tb.rtc / 2 ^ 32 % 2 ^ 16) })

/-- A read of RTC_TICK_HI by the host (R295, R296). -/
def readTickHi (s : State) : Nat × State :=
  (s.tb.rtcHost.getD (s.tb.rtc / 2 ^ 32 % 2 ^ 16), s.setTb { s.tb with rtcHost := none })

/-- RTC_TICK_LO_READ, by the host or the supervisor (R295, R297). -/
def execRtcTickLoRead (sup : Bool) (s : State) : Host.Outcome State Fault Refusal :=
  done s <|
    if sup then s.setTb { s.tb with rtcSup := some (s.tb.rtc / 2 ^ 32 % 2 ^ 16), supRead := s.tb.rtc % 2 ^ 32 }
    else hostRead s 3 readTickLo

/-- RTC_TICK_HI_READ (R295 to R297). -/
def execRtcTickHiRead (sup : Bool) (s : State) : Host.Outcome State Fault Refusal :=
  done s <|
    if sup then s.setTb { s.tb with supRead := s.tb.rtcSup.getD (s.tb.rtc / 2 ^ 32 % 2 ^ 16), rtcSup := none }
    else hostRead s 3 readTickHi

/-- A write of HALT = 1; `releasing` when it falls in the cycle of an armed release (R298, R302). -/
def writeHalt (s : State) (releasing : Bool) : State :=
  let lost := releasing && s.rd Reg.RTC_CTL_ARM = 1
  let s := (s.raise Reg.RTC_CTL_HALT).raise Reg.RTC_STAT_HALTED
  if lost then (s.clr Reg.RTC_CTL_ARM).raise (Reg.CMN_LOST_UPD 3) else s

/-- RTC_HALT (R298, R302). -/
def execRtcHalt (path : Nat) (releasing : Bool) (s : State) : Host.Outcome State Fault Refusal :=
  done s (hostWrite s path 3 fun s => writeHalt s releasing)

/-- A write of HALT = 0: it releases a halted count (R299, R301). DESIGN CHOICE (log entry 27): with RELSRC 01 or 10 and nothing
armed it does too. -/
def writeRelease (s : State) : State := if s.rd Reg.RTC_STAT_HALTED = 0 then s.clr Reg.RTC_CTL_HALT else rtcRelease s none

/-- RTC_RELEASE (R299, R301, R303). -/
def execRtcRelease (path : Nat) (s : State) : Host.Outcome State Fault Refusal := done s (hostWrite s path 3 writeRelease)

/-- A write of ARM = 1 (R300, R301). -/
def writeArm (s : State) : State :=
  let src := s.rd Reg.RTC_CTL_RELSRC
  if s.rd Reg.RTC_CTL_HALT = 1 && (src = 1 || src = 2) then s.raise Reg.RTC_CTL_ARM else s

/-- RTC_ARM (R300, R301). -/
def execRtcArm (path : Nat) (s : State) : Host.Outcome State Fault Refusal := done s (hostWrite s path 3 writeArm)

/-- RTC_OSF (R304, R305). -/
def execRtcOsf (s : State) : Host.Outcome State Fault Refusal :=
  done s <|
    let s := s.setTb { s.tb with rtcEpoch := { s.tb.rtcEpoch with valid := false } }
    (s.raise Reg.RTC_STAT_OSF).event 0 Ev.RTC_OSF 0 0 []

/-- RTC_EPOCH_REANCHOR (R308): 3,600 s after the last anchor, while LOCKED. -/
def execRtcEpochReanchor (s : State) : Host.Outcome State Fault Refusal :=
  done s <|
    if s.tb.q != 4 || (s.tb.rtcEpoch.valid && s.now < s.tb.rtcEpoch.tai + 3600000000000) then s else anchor s

/-! ### Operating time, UTC (R310 to R316) -/

/-- OPSEC_TICK (R310): one more operating second; the RTC has counted 32,768 ticks unless it is halted or its oscillator has
stopped. -/
def execOpsecTick (s : State) : Host.Outcome State Fault Refusal :=
  done s <|
    let s := s.wr Reg.RTC_OPSEC_OPSEC (s.opsec + 1)
    if s.rd Reg.RTC_STAT_HALTED = 1 || s.rd Reg.RTC_STAT_OSF = 1 then s
    else s.setTb { s.tb with rtc := (s.tb.rtc + 32768) % 2 ^ 48 }

/-- OPSEC_SAVE (R311): 10 s after the last save. -/
def execOpsecSave (s : State) : Host.Outcome State Fault Refusal :=
  done s (if s.opsec < s.tb.opsecSaved + 10 then s else s.setTb { s.tb with opsecSaved := s.opsec })

/-- UTC in whole seconds. -/
def utcSec (s : State) : Int := (s.sec : Int) - toS 16 (s.rd Reg.TB_QUAL_UTCOFF)

/-- What TB_QUAL.LEAP shows: the PTP leap flags, else the leap second that the table of section 0x02 has at the next start of a UTC day:
1 positive, 2 negative, 0 none (R314). -/
def leapNow (s : State) : Nat :=
  if s.rd Reg.TB_QUAL_LEAP != 0 then s.rd Reg.TB_QUAL_LEAP
  else if s.tb.lastLeap.any fun l => decide (s.sec < l.1 + 86400) then 0
  else match (sec02 s).leaps.find? fun p => decide (utcSec s ≤ (p.1 : Int) + 1) && decide ((p.1 : Int) ≤ utcSec s + 86400) with
    | some p => if p.2 then 1 else 2
    | none => 0

/-- The leap second that is pending: +1, −1 or none (R314). -/
def leapDue (s : State) : Option Int :=
  match leapNow s with
  | 1 => some 1
  | 2 => some (-1)
  | _ => none

/-- LEAP_SECOND (R314): at 00:00:00 UTC of the day after, UTCOFF takes the new value. -/
def execLeapSecond (s : State) : Host.Outcome State Fault Refusal :=
  done s <|
    match leapDue s with
    | none => s
    | some d =>
      let off := toS 16 (s.rd Reg.TB_QUAL_UTCOFF) + d
      if ((s.sec : Int) - off) % 86400 != 0 || !s.runs 5 then s
      else
        let s := s.wrs [(Reg.TB_QUAL_UTCOFF, ofS 16 off), (Reg.TB_QUAL_LEAP, 0)]
        s.setTb { s.tb with utcSaved := off, lastLeap := some (s.sec, d), ptpLeap := 0, ptpUtc := s.tb.ptpUtc.map fun _ => off }

/-- TZ_WARN (R316): within 60 days of a non-zero VALID_UNTIL. -/
def execTzWarn (s : State) : Host.Outcome State Fault Refusal :=
  done s <|
    let v := (sec02 s).validUntil
    if v = 0 || !s.runs 5 || utcSec s + 5184000 < v then s else s.raise Reg.TB_STAT_TZWARN

/-- The local offset in minutes at a UTC instant (R315, R316). -/
def localOffset (s : State) (utc : Int) : Int :=
  let c := sec02 s
  let at_ := if c.validUntil != 0 && (c.validUntil : Int) < utc then (c.validUntil : Int) else utc
  c.trans.foldl (fun o p => if p.1 ≤ at_ then p.2 else o) c.std

/-- TAI − UTC at a spindle time: before the last leap second it was another. -/
def utcOffAt (s : State) (t : Nat) : Int :=
  let off := toS 16 (s.rd Reg.TB_QUAL_UTCOFF)
  match s.tb.lastLeap with
  | some (at_, d) => if t / 1000000000 < at_ then off - d else off
  | none => off

/-- UTC seconds of a spindle time; a positive leap second has those of the second that follows it. -/
def utcAt (s : State) (t : Nat) : Int := ((t / 1000000000 : Nat) : Int) - utcOffAt s t

/-- A spindle time lies in a positive leap second, which is 23:59:60 UTC (R314). -/
def inLeap (s : State) (t : Nat) : Bool := match s.tb.lastLeap with
  | some (at_, d) => decide (t / 1000000000 + 1 = at_) && decide (d = 1)
  | none => decide (leapDue s = some 1) && decide ((utcAt s t) % 86400 = 0) && decide (t / 1000000000 = s.sec)

/-- TIME_STATUS (R317, Table TIME-6). -/
def execTimeStatus (tag : Nat) (s : State) : Host.Outcome State Fault Refusal :=
  done s <| command s 0x0301 tag fun s =>
    let t := s.tb
    let e := t.rtcEpoch
    okay s (le 1 t.q ++ le 1 (s.rd Reg.TB_QUAL_SERVO) ++ le 2 (s.rd Reg.TB_QUAL_UTCOFF) ++ le 2 (ofS 16 (localOffset s (utcSec s))) ++
      le 1 (leapNow s) ++ le 1 t.steps ++ (le 8 t.gmid).reverse ++ le 4 (ofS 32 (t.lastOff.getD 0)) ++ le 4 t.mpd ++
      le 1 t.port ++ zeros 3 ++ le 4 ((s.now - t.qSince) / 1000000000) ++ le 6 e.tick ++ le 1 (if e.valid then e.qual else 0) ++
      zeros 1 ++ le 8 e.tai ++ le 4 (ofS 32 e.drift) ++ le 4 s.opsec ++ le 3 (s.rd Reg.RTC_PCYC_PCYC) ++ zeros 1)

/-- TIME_SET (R318 to R321). DESIGN CHOICE (log entry 25): a second one while one waits for its edge is answered BUSY, and so is any while NET,
which holds the spindle, does not run. -/
def execTimeSet (tag tai mode : Nat) (s : State) : Host.Outcome State Fault Refusal :=
  done s <| command s 0x0302 tag fun s =>
    if mode != 1 && mode != 2 then deny s St.BAD_PARAM
    else if mode = 2 && tai % 1000000000 != 0 then deny s St.BAD_PARAM
    else if !s.runs 5 || (3 ≤ s.tb.q && !(mode = 2 && timeSrc s = 1)) then deny s St.BUSY
    else if s.tb.setPps.isSome then deny s St.BUSY
    else if mode = 1 then later (timeSetDone s tag ((tai : Int) - s.tb.ns) false)
    else later (s.setTb { s.tb with setPps := some (tag, tai, s.now) })

/-- TIME_SET_PPS_TIMEOUT (R321): no accepted edge within 2 s of execution. -/
def execTimeSetPpsTimeout (s : State) : Host.Outcome State Fault Refusal :=
  done s <|
    match s.tb.setPps with
    | some (tag, _, t) =>
      if s.now < t + 2000000000 then s else (s.setTb { s.tb with setPps := none }).respond 0x0302 tag St.LATE []
    | none => s

end Sys2Proof.Machine
end

