-- ==== Sys2Proof/Machine/Windows.lean ====
section
/-! DEFINITION. The bridge unit, in its two instances, the host bridge and the crossing of the halves: windows, their policy and byte
lanes, reads, posted writes, and the locked line (R234 to R238, R242 to R252, 04_host_registers.md; R768 to R775, 12_brace.md). -/
namespace Sys2Proof.Machine

/-- The size of window `n` in bytes. -/
def winSize (s : State) (n : Nat) : Nat := 4096 * 2 ^ s.rd (Reg.HBR_WIN_MAP_SIZE n)

/-- The DDR5 address of window `n`. -/
def winBase (s : State) (n : Nat) : Nat := 4096 * s.rd (Reg.HBR_WIN_MAP_BASE n)

/-- Window `n` is open: EN, a size and a lane mode that are not reserved, a base aligned to the size. -/
def winOpen (s : State) (n : Nat) : Bool :=
  n < 8 && s.rd (Reg.HBR_WIN_POL_EN n) = 1 && s.rd (Reg.HBR_WIN_MAP_SIZE n) ≤ 13 && s.rd (Reg.HBR_WIN_POL_LANE n) != 3 &&
  winBase s n % winSize s n = 0

/-- The policy of window `n` lets path `p` write, or read (R248). -/
def winMay (s : State) (p n : Nat) (write : Bool) : Bool :=
  p < 5 && bit (s.rd (Reg.HBR_WIN_POL_PATH n)) p && s.rd (if write then Reg.HBR_WIN_POL_WR n else Reg.HBR_WIN_POL_RD n) = 1

/-- The offset at which the module holds the byte of host offset `a` (R251): the granule reversed in the modes DI32 and DI64. -/
def laneMap (mode a : Nat) : Nat :=
  match mode with
  | 1 => a - a % 4 + (3 - a % 4)
  | 2 => a - a % 8 + (7 - a % 8)
  | _ => a

/-! ### Memories and near sides -/

/-- Near side `i` of a bridge: 0 the host's, 1 half A's of the crossing, 2 half B's. -/
def State.side (s : State) (i : Nat) : Side := s.hbr.sides.getD i {}

/-- Change a near side. -/
def State.setSide (s : State) (i : Nat) (x : Side) : State := { s with hbr := { s.hbr with sides := s.hbr.sides.set i x } }

/-- Memory `m`: 0 application DDR5, 1 and 2 the LPDDR5 of half A and B. -/
def State.mem (s : State) (m : Nat) : Mem := if m = 0 then s.hbr.ddr else s.hbr.lp.getD (m - 1) []

/-- Write bytes to a memory, each at its address. -/
def memPut (s : State) (m : Nat) (bs : List (Nat × Byte)) : State :=
  let x := bs.foldl (fun m b => Mem.write 0 m b.1 b.2) (s.mem m)
  if m = 0 then { s with hbr := { s.hbr with ddr := x } } else { s with hbr := { s.hbr with lp := s.hbr.lp.set (m - 1) x } }

/-- The addresses that host offsets `a` to `a + len - 1` of a window stand for. -/
def laneAddrs (base mode a len : Nat) : List Nat := (List.range len).map fun i => base + laneMap mode (a + i)

/-- Read `len` bytes of DDR5 from `base` on in a lane mode, from host offset `a`. -/
def laneRead (s : State) (base mode a len : Nat) : List Byte := (laneAddrs base mode a len).map fun x => Mem.read 0 s.hbr.ddr x

/-- Read `len` bytes of window `n` from host offset `a`. DESIGN CHOICE (log entry 87): a read of the locked line by the side that holds it
returns the bytes from before the held writes. -/
def winRead (s : State) (n a len : Nat) : List Byte := laneRead s (winBase s n) (s.rd (Reg.HBR_WIN_POL_LANE n)) a len

/-- The data of a read. -/
def BrRead.data (r : BrRead) (s : State) : List Byte :=
  (laneAddrs r.base r.lane r.off r.len).map fun x => Mem.read 0 (s.mem r.mem) x

/-! ### Verdicts (R246 to R248, R775) -/

/-- A window that the module reads a message from on a command (R922): windows 0–6, open, readable by the path that owns the
rings, within the size. -/
def winCommand (s : State) (n a len : Nat) : Bool :=
  n < 7 && winOpen s n && winMay s (s.rd Reg.MBX_OWNER_PATH) n false && a + len ≤ winSize s n

/-- Count a refused access in DENY, with the record HOST_DENY at most once a second and window (R248). -/
def winDeny (s : State) (p n : Nat) : State :=
  let s := s.inc Reg.HBR_CNT2_DENY
  let due := match s.hbr.denyAt.get? n with
    | some t => t != s.sec
    | none => true
  if due then ({ s with hbr := { s.hbr with denyAt := s.hbr.denyAt.set n s.sec } }).event 3 Ev.HOST_DENY 1 n [p, n] else s

/-- The verdict on an access of path `p` to window `n`: 0 allowed, 1 DENY, 2 BOUNDS. -/
def winVerdict (s : State) (p n a len : Nat) (write : Bool) : Nat :=
  if !winOpen s n then 2 else if !winMay s p n write then 1 else if winSize s n < a + len then 2 else 0

/-- The size, base and openness of crossing window `n`. -/
def xwinSize (s : State) (n : Nat) : Nat := 4096 * 2 ^ s.rd (Reg.BRC_XWIN_MAP_SIZE n)
@[inherit_doc xwinSize] def xwinBase (s : State) (n : Nat) : Nat := 4096 * s.rd (Reg.BRC_XWIN_MAP_BASE n)
@[inherit_doc xwinSize] def xwinOpen (s : State) (n : Nat) : Bool :=
  n < 8 && s.rd (Reg.BRC_XWIN_POL_EN n) = 1 && xwinBase s n % xwinSize s n = 0

/-- The verdict on an access of half side `i` (1 A, 2 B): windows 0–3 lead B to A's LPDDR5, 4–7 lead A to B's, and 8 stands for
application DDR5 (32 GiB), which has no window (R774, R775). -/
def xVerdict (s : State) (i n a len : Nat) (write : Bool) : Nat :=
  if n = 8 then (if 2 ^ 35 < a + len then 2 else 0)
  else if !xwinOpen s n || n / 4 != 2 - i then 2
  else if s.rd (if write then Reg.BRC_XWIN_POL_WR n else Reg.BRC_XWIN_POL_RD n) = 0 then 1
  else if xwinSize s n < a + len then 2 else 0

/-- The verdict on an access of near side `i`. -/
def sideVerdict (s : State) (i p n a len : Nat) (write : Bool) : Nat :=
  if i = 0 then winVerdict s p n a len write else xVerdict s i n a len write

/-- Count a refused access. -/
def sideRefuse (s : State) (i p n v : Nat) : State :=
  if i = 0 then (if v = 1 then winDeny s p n else s.inc Reg.HBR_CNT2_BOUNDS)
  else s.inc (if v = 1 then Reg.BRC_XCNT1_DENY else Reg.BRC_XCNT1_BOUNDS)

/-- The memory, address and lane mode of window `n` as side `i` sees it. -/
def sideMap (s : State) (i n : Nat) : Nat × Nat × Nat :=
  if i = 0 then (0, winBase s n, s.rd (Reg.HBR_WIN_POL_LANE n))
  else if n = 8 then (0, 0, 0)
  else (if n < 4 then 1 else 2, xwinBase s n, 0)

/-- The near side works: the host bridge with APP, a side of the crossing with its half, and its target with its domain. -/
def sideRuns (s : State) (i : Nat) : Bool := if i = 0 then s.runs 1 else i < 3 && s.runs (i + 1)
@[inherit_doc sideRuns] def memRuns (s : State) (m : Nat) : Bool := s.runs (m + 1)

/-- Counter fields of the instance that side `i` belongs to. -/
def orphanFld (i : Nat) : Fld := if i = 0 then Reg.HBR_CNT0_ORPHAN else Reg.BRC_XCNT0_ORPHAN
@[inherit_doc orphanFld] def fallFld (i : Nat) : Fld := if i = 0 then Reg.HBR_CNT1_FALLBK else Reg.BRC_XCNT0_FALLBK
@[inherit_doc orphanFld] def lockabFld (i : Nat) : Fld := if i = 0 then Reg.HBR_CNT2_LOCKAB else Reg.BRC_XCNT1_LOCKAB
@[inherit_doc orphanFld] def epabFld (i : Nat) : Fld := if i = 0 then Reg.HBR_CNT2_EPAB else Reg.BRC_XCNT1_EPAB
@[inherit_doc orphanFld] def denyFld (i : Nat) : Fld := if i = 0 then Reg.HBR_CNT2_DENY else Reg.BRC_XCNT1_DENY

/-! ### The locked line (R242 to R246) -/

/-- An address lies on the line of a lock. -/
def Lock.hits (l : Lock) (m a : Nat) : Bool := l.mem = m && l.line = a / 64

/-- Another side's locked sequence defers an access of side `i` to these addresses (R242, R770). -/
def deferred (s : State) (i m : Nat) (as_ : List Nat) : Bool :=
  s.hbr.sides.any fun p => p.1 != i && (match p.2.lock with
    | some l => as_.any (l.hits m)
    | none => false)

/-- The bytes of a write reach the memory; those on the line that side `i` itself has locked are held (R243). -/
def landWrite (s : State) (i epoch m : Nat) (bs : List (Nat × Byte)) : State :=
  match (s.side i).lock with
  | some l =>
    let p := bs.partition fun b => l.hits m b.1
    memPut (s.setSide i { s.side i with lock := some { l with held := l.held ++ p.1.map fun b => (epoch, b) } }) m p.2
  | none => memPut s m bs

/-- The module's own writing of results into window `n` at offset `a`, without lanes: DDR5 from BASE. What lies on a locked line waits for
the end of the sequence (R242). -/
def winStore (s : State) (n a : Nat) (bs : List Byte) : State :=
  let at_ := bs.zipIdx.map fun b => (winBase s n + a + b.2, b.1)
  let p := at_.partition fun b => deferred s 3 0 [b.1]
  memPut { s with hbr := { s.hbr with late := s.hbr.late ++ p.1 } } 0 p.2

/-- The module's own writes that no locked line defers any more. -/
def landLate (s : State) : State :=
  let p := s.hbr.late.partition fun b => deferred s 3 0 [b.1]
  memPut { s with hbr := { s.hbr with late := p.1 } } 0 p.2

/-- Set STATE of HBR_LKCTL: 0 IDLE, 1 HELD, 2 COMMITTED, 3 ABORTED. Only the host bridge shows it. -/
def lockState (s : State) (i : Nat) (l : Option Lock) (v : Nat) : State :=
  let s := s.setSide i { s.side i with lock := l }
  if i = 0 then s.wr Reg.HBR_LKCTL_STATE v else s

/-- A write of 1 to ACQ (R242, R245, R246), for line `line` of window `w`: an open window whose policy has LOCK. `tie`: the other side of
the instance asks for the same line in this cycle, which the lower-numbered side wins; the other retries. -/
def lockTake (s : State) (i w line : Nat) (tie : Bool) : State :=
  let ok := if i = 0 then winOpen s w && s.rd (Reg.HBR_WIN_POL_LOCK w) = 1
    else xwinOpen s w && w / 4 = 2 - i && s.rd (Reg.BRC_XWIN_POL_LOCK w) = 1
  if (s.side i).lock.isSome || !ok then s.inc (denyFld i)
  else if tie && i = 2 then s
  else
    let (m, base, _) := sideMap s i w
    lockState s i (some ⟨m, base / 64 + line, []⟩) 1

/-- A write of 1 to ACQ of the host bridge: the line of HBR_LKADDR. -/
def lockAcquire (s : State) : State := lockTake s 0 (s.rd Reg.HBR_LKADDR_WIN) (s.rd Reg.HBR_LKADDR_LINE) false

/-- A write of 1 to REL (R243): the held writes take effect together, and what the sequence deferred follows. -/
def lockRelease (s : State) (i : Nat) : State :=
  match (s.side i).lock with
  | some l => landLate (memPut (lockState s i none 2) l.mem (l.held.map (·.2)))
  | none => s

/-- The break of a lock (R244). -/
def lockAbort (s : State) (i : Nat) : State :=
  match (s.side i).lock with
  | some _ => landLate ((lockState s i none 3).inc (lockabFld i))
  | none => s

/-! ### Reads and posted writes (R234 to R238) -/

/-- Keep the bytes that a read returned to side `i`. -/
def gave (s : State) (i : Nat) (bs : List Byte) : State :=
  if i = 0 then { s with mbx := { s.mbx with lastBytes := bs } } else s.setSide i { s.side i with got := bs }

/-- The lowest tag that no bulk-class read of the side has. -/
def Side.freeTag (x : Side) : Nat := ((List.range 256).find? fun t => !x.txns.any (·.tag = some t)).getD 0

/-- A read may be issued: the near read channel is free, or a tag is (R234, R235). -/
def Side.mayIssue (x : Side) (r : BrRead) : Bool := if r.len ≤ 8 then x.chan.isNone else x.txns.length < 64

/-- The read is in the far queue: the far side has not accepted it. -/
def Side.queued (x : Side) (r : BrRead) : Bool := x.far.contains (.read r)

/-- Take a read off the near side's books. -/
def Side.without (x : Side) (r : BrRead) : Side :=
  { x with
    chan := if x.chan = some r then none else x.chan, txns := x.txns.erase r
    far := x.far.filter fun q => q != .read r }

/-- Issue a read on side `i`: it enters the far queue, or the far side, which is free, accepts it at once. A register-class read then has its
data. -/
def issue (s : State) (i : Nat) (r : BrRead) : State :=
  let x := s.side i
  let free := x.far.isEmpty && memRuns s r.mem && !deferred s i r.mem (laneAddrs r.base r.lane r.off r.len)
  if r.len ≤ 8 then
    if free then gave s i (r.data s) else s.setSide i { x with chan := some r, far := x.far ++ [.read r] }
  else
    let r := { r with tag := some x.freeTag }
    s.setSide i { x with txns := x.txns ++ [r], far := if free then x.far else x.far ++ [.read r] }

/-- Issue the reads that wait, in order, `n` at most. -/
def promote (i : Nat) : Nat → State → State
  | 0, s => s
  | n + 1, s =>
    match (s.side i).wait with
    | [] => s
    | r :: l => if (s.side i).mayIssue r then promote i n (issue (s.setSide i { s.side i with wait := l }) i r) else s

/-- A read of side `i` ends with these bytes, and what waited for its channel or tag goes on. -/
def readEnds (s : State) (i : Nat) (r : BrRead) (bs : List Byte) : State :=
  let s := gave (s.setSide i ((s.side i).without r)) i bs
  promote i (s.side i).wait.length s

/-- A read of side `i` arrives: behind those that wait, or issued. -/
def sideRead (s : State) (i : Nat) (r : BrRead) : State :=
  let x := s.side i
  if x.wait.isEmpty && x.mayIssue r then issue s i r else s.setSide i { x with wait := x.wait ++ [r] }

/-- A posted write of side `i` (R236, R237, R773): into a half that does not run it has no effect; else behind what stands in the far queue, past a blocked read after the fall-back. -/
def sideWrite (s : State) (i m : Nat) (bs : List (Nat × Byte)) : State :=
  let x := s.side i
  let e := s.rd Reg.SUP_FEPOCH_FEPOCH
  let free := x.far.all fun q => x.pass && (match q with
    | .read _ => true
    | .write .. => false)
  if !memRuns s m then s
  else if free && !deferred s i m (bs.map (·.1)) then landWrite s i e m bs
  else s.setSide i { x with far := x.far ++ [.write e m bs] }

/-- The far side takes requests of side `i` in order, `n` at most, up to one that a locked line defers. -/
def drainSide (i : Nat) : Nat → State → State
  | 0, s => s
  | n + 1, s =>
    let x := s.side i
    match x.far with
    | [] => s.setSide i { x with pass := false }
    | .read r :: l =>
      if deferred s i r.mem (laneAddrs r.base r.lane r.off r.len) || !memRuns s r.mem then s
      else
        let s := s.setSide i { x with far := l }
        drainSide i n (if r.tag.isNone then readEnds s i r (r.data s) else s)
    | .write e m bs :: l =>
      if deferred s i m (bs.map (·.1)) then s
      else
        let s := s.setSide i { x with far := l }
        drainSide i n (if memRuns s m then landWrite s i e m bs else s)

/-- The bulk-class reads that the far side has accepted return their data, in order. -/
def collectSide (s : State) (i : Nat) : State :=
  let x := s.side i
  (x.txns.filter fun r => !x.queued r && memRuns s r.mem).foldl (fun s r => readEnds s i r (r.data s)) s

/-- What stands at the bridges goes on: the far queues, then the data of the bulk-class reads. -/
def collect (s : State) : State :=
  s.hbr.sides.keys.foldl (fun s i =>
    if sideRuns s i then collectSide (drainSide i ((s.side i).far.length + 1) s) i else s) s

/-- The posted writes of side `i` pass the read at the head of its far queue (R236): `n` requests at most. -/
def passWrites (i : Nat) : Nat → State → State
  | 0, s => s
  | n + 1, s =>
    let x := s.side i
    match x.far.find? fun q => match q with
      | .write .. => true
      | .read _ => false with
    | some (.write e m bs) =>
      if deferred s i m (bs.map (·.1)) then s
      else passWrites i n (landWrite (s.setSide i { x with far := x.far.erase (.write e m bs) }) i e m bs)
    | _ => s

/-- An access of side `i` to window `n`: refused and counted, or carried by the bridge. A refused read returns ones, a refused write is
discarded (R247, R248). -/
def sideAccess (s : State) (i p n a len : Nat) (data : Option (List Byte)) : State :=
  let v := sideVerdict s i p n a len data.isSome
  let ones := List.replicate len (0xFF : Byte)
  let (m, base, lane) := sideMap s i n
  match data with
  | none =>
    if v != 0 then sideRefuse (gave s i ones) i p n v
    else sideRead s i ⟨none, s.rd Reg.SUP_FEPOCH_FEPOCH, m, base, lane, a, len⟩
  | some bs =>
    if v != 0 then sideRefuse s i p n v
    else sideWrite s i m (bs.zipIdx.map fun b => (base + laneMap lane (a + b.2), b.1))

/-! ### Fabric epochs: the bridge's part (R177, R250, R775) -/

/-- Section 0x0E in force: windows 0 to 6, the write policies, the tunnel slots. -/
def loadWindows (s : State) (c : Option Sec0E) : State :=
  let c := c.getD ⟨[], [], []⟩
  let s := (List.range 7).foldl (fun s n =>
    let w := c.wins.getD n ⟨0, 0, false, false, false, false, 0, 0⟩
    s.wrs [(Reg.HBR_WIN_MAP_SIZE n, w.size), (Reg.HBR_WIN_MAP_BASE n, w.base), (Reg.HBR_WIN_POL_EN n, b2n w.en),
      (Reg.HBR_WIN_POL_RD n, b2n w.rd), (Reg.HBR_WIN_POL_WR n, b2n w.wr), (Reg.HBR_WIN_POL_LOCK n, b2n w.lock),
      (Reg.HBR_WIN_POL_LANE n, w.lane), (Reg.HBR_WIN_POL_PATH n, w.path)]) s
  let s := (List.range 5).foldl (fun s p => s.wr (Reg.HBR_BLKPOL_WE p) (c.blkpol.getD p (if p = 0 then 0x1FFFFF else 0))) s
  (List.range 4).foldl (fun s n => s.wrs [(Reg.HBR_TUN_EN n, b2n (c.tuns.has n)), (Reg.HBR_TUN_KSLOT n, c.tuns.getD n 0)]) s

/-- The registers of window 7 for staging area `k`: 1 the configuration buffer, 2 and 3 the billet pages, 0 closed (R180, R931). -/
def mapWin7 (s : State) (k : Nat) : State :=
  let on := b2n (k != 0)
  s.wrs [(Reg.HBR_WIN_MAP_SIZE 7, 13 * on), (Reg.HBR_WIN_MAP_BASE 7, if k = 0 then 0 else Config.stagePage (k - 1) % 1024 * 8192),
    (Reg.HBR_WIN_POL_EN 7, on), (Reg.HBR_WIN_POL_RD 7, 0), (Reg.HBR_WIN_POL_WR 7, on), (Reg.HBR_WIN_POL_LOCK 7, 0),
    (Reg.HBR_WIN_POL_LANE 7, 0), (Reg.HBR_WIN_POL_PATH 7, on)]

/-- The crossing windows of section 0x09. -/
def loadXwins (s : State) (l : KMap XWin) : State :=
  (List.range 8).foldl (fun t n =>
    let w := l.getD n ⟨0, 0, false, false, false, false⟩
    t.wrs [(Reg.BRC_XWIN_MAP_SIZE n, w.size), (Reg.BRC_XWIN_MAP_BASE n, w.base), (Reg.BRC_XWIN_POL_EN n, b2n w.en),
      (Reg.BRC_XWIN_POL_RD n, b2n w.rd), (Reg.BRC_XWIN_POL_WR n, b2n w.wr), (Reg.BRC_XWIN_POL_LOCK n, b2n w.lock)]) s

/-- Items of the older fabric epoch on a near side. -/
def Side.old (x : Side) (e : Nat) : Bool :=
  (x.chan.toList ++ x.txns ++ x.wait).any (fun r => r.epoch != e) ||
  x.far.any (fun q => match q with
    | .read r => r.epoch != e
    | .write e' .. => e' != e) ||
  (match x.lock with
    | some l => l.held.any fun h => h.1 != e
    | none => false)

/-- Work tagged with the older fabric epoch is still in flight. -/
def oldFabric (s : State) : Bool :=
  let e := s.rd Reg.SUP_FEPOCH_FEPOCH
  s.hbr.sides.any (fun p => p.2.old e) ||
  s.key.engs.vals.any (fun g => g.rt.any (fun j => j.epoch != e) || g.bulk.any (fun j => j.epoch != e))

/-- The drain limit of the bridges on side `i` (R250): reads of the older epoch complete with ones, writes of it are discarded, those held
for a locked line too, and each transaction is counted. -/
def drainEpoch (s : State) (i : Nat) : State :=
  let e := s.rd Reg.SUP_FEPOCH_FEPOCH
  let x := s.side i
  let reads := (x.chan.toList ++ x.txns ++ x.wait).filter fun r => r.epoch != e
  let late (q : BrReq) : Bool := match q with
    | .write e' .. => e' != e
    | .read _ => false
  let heldOld : List (Nat × Nat × Byte) := match x.lock with
    | some l => l.held.filter fun h => h.1 != e
    | none => []
  let lock := x.lock.map fun l => { l with held := l.held.filter fun h => h.1 = e }
  let n := reads.length + (x.far.filter late).length + heldOld.length
  let s := s.setSide i { x with far := x.far.filter (!late ·), wait := x.wait.filter (·.epoch = e), lock := lock }
  let s := reads.foldl (fun s r => readEnds s i r (List.replicate r.len 0xFF)) s
  if n = 0 then s else s.add (epabFld i) n

/-! ### Rows of the bridge -/

/-- LOCK_ACQUIRE (R242, R245, R246, R770): of the host, by HBR_LKCTL and the line of HBR_LKADDR; of a half (`side` 1, 2), line `line` of
crossing window `win`. -/
def execLockAcquire (side path win line : Nat) (tie : Bool) (s : State) : Host.Outcome State Fault Refusal :=
  done s <|
    if side = 0 then hostWrite s path 19 lockAcquire
    else if sideRuns s side then lockTake s side win line tie else s

/-- LOCK_RELEASE (R243). -/
def execLockRelease (side path : Nat) (s : State) : Host.Outcome State Fault Refusal :=
  done s <| if side = 0 then hostWrite s path 19 fun s => lockRelease s 0 else if sideRuns s side then lockRelease s side else s

/-- LOCK_ABORT (R244). -/
def execLockAbort (side : Nat) (s : State) : Host.Outcome State Fault Refusal := done s <| lockAbort s side

/-- BULK_READ (R235, R247, R248, R250): a read of 9 to 4,096 bytes; its data comes when the block next idles. -/
def execBulkRead (side path win off len : Nat) (s : State) : Host.Outcome State Fault Refusal :=
  done s <|
    if len < 9 || 4096 < len || (side = 0 && !pathOpen s path) then s
    else if !sideRuns s side then (if side = 0 then gave s 0 (List.replicate len 0xFF) else s)
    else sideAccess s side path win off len none

/-- BAR4_WINDOW_ACCESS (R204, R234 to R237, R247, R248, R251), and the same access of a half through the crossing (R774, R775). -/
def execBar4WindowAccess (side path win off : Nat) (write : Bool) (len : Nat) (data : List Byte) (s : State) :
    Host.Outcome State Fault Refusal :=
  done s <|
    if write && data.length != len then s
    else if side = 0 && !pathOpen s path then s
    else if !sideRuns s side then (if write || side != 0 then s else gave s 0 (List.replicate len 0xFF))
    else sideAccess s side path win off len (if write then some data else none)

/-- POSTED_WRITE_FALLBACK (R236): a read has been blocked at the far queue's head for 2 µs; the posted writes behind it pass. -/
def execPostedWriteFallback (side : Nat) (s : State) : Host.Outcome State Fault Refusal :=
  done s <|
    if !sideRuns s side then s
    else
      let x := s.side side
      passWrites side x.far.length ((s.setSide side { x with pass := !x.far.isEmpty }).inc (fallFld side))

/-- READ_DATA_ORPHAN (R238, R772): the data of a bulk-class read that nobody collected is discarded and its tag freed; `none`: data that came
late for a register-class read. -/
def execReadDataOrphan (side : Nat) (tag : Option Nat) (s : State) : Host.Outcome State Fault Refusal :=
  done s <|
    if !sideRuns s side then s
    else
      let s := s.inc (orphanFld side)
      let x := s.side side
      match tag.bind fun t => x.txns.find? (·.tag = some t) with
      | some r => promote side x.wait.length (s.setSide side (x.without r))
      | none => s

end Sys2Proof.Machine
end

