-- ==== Sys2Proof/Machine/Archive.lean ====
section
/-! DEFINITION. The archive writer: staging and shedding, chunks and extents, tiers, disturbance windows, and the commands of
range 0x0C (the second half of 14_records_archive.md). -/
namespace Sys2Proof.Machine

/-- Change the archive writer. -/
def State.setArc (s : State) (a : Arc) : State := { s with arc := a }

/-- Section 0x0C in force, in a module with an archive. -/
def sec0C (s : State) : Option Sec0C := if s.fuses.arch then s.cfg.secs.s0c else none

/-- ARKSLOT can encrypt for the writer (R873). -/
def arcKeyOk (s : State) : Bool :=
  match sec0C s with
  | some c => keyServes s 1 c.arkSlot 2 .encrypt && keyServes s 1 c.arkSlot 2 .decrypt
  | none => false

/-- The state of ARC_STAT: an archive that has started is ONLINE, PAUSED under THROTTLE, DEGRADED with a failed namespace. -/
def arcStat (s : State) : State :=
  let st := s.rd Reg.ARC_STAT_STATE
  if st < 2 then s
  else s.wr Reg.ARC_STAT_STATE
    (if s.rd Reg.PWR_STAT_THROTTLE = 1 then 3 else if s.arc.nsFailed.isEmpty then 2 else 4)

/-- Keep KEYOK, and record the loss of ARKSLOT (R873). -/
def arcKey (s : State) : State :=
  if !s.runs 1 || (sec0C s).isNone || s.rd Reg.ARC_STAT_STATE = 0 then s
  else
    let ok := arcKeyOk s
    let s' := s.wr Reg.ARC_STAT_KEYOK (b2n ok)
    if s.rd Reg.ARC_STAT_KEYOK = 1 && !ok then (s'.raise Reg.ARC_EVT_KEYLOST).event 0 Ev.ARC_KEY_LOST 1 0 [] else s'

/-- Bytes in staging. -/
def stagedBytes (s : State) : Nat := (s.arc.staged.map itemSize).sum

/-- An ARC_GAP of subscription `sub` at time `t` (R866, R867, R872). -/
def arcGap (s : State) (sub t : Nat) : State :=
  let s := s.setArc { s.arc with gaps := s.arc.gaps + 1 }
  (s.raise Reg.ARC_EVT_GAP).event 0 Ev.ARC_GAP 1 sub [sub, t, t / 2 ^ 32]

/-- The ARC_GAP of a start: its subscription, and the span from the last sample kept to the first of the new start, in spindle seconds (R872; DESIGN
CHOICE, log entry 99: the spec gives no parameters). -/
def arcSpan (s : State) (sub t0 t1 : Nat) : State :=
  let s := s.setArc { s.arc with gaps := s.arc.gaps + 1, resume := s.arc.resume.erase sub }
  (s.raise Reg.ARC_EVT_GAP).event 0 Ev.ARC_GAP 1 sub [sub, t0 / 1000000000, t1 / 1000000000]

/-- Put a sample among the staged ones, before later ones of its subscription. -/
def stageSample (i : ArcItem) : List ArcItem → List ArcItem
  | [] => [i]
  | x :: l => if x.cls = 0 && x.stream = i.stream && decide (i.t < x.t) then i :: x :: l else x :: stageSample i l

/-- Count bytes that enter staging in the present second: IN is what entered in the last whole one. -/
def arcIn (s : State) (bytes : Nat) : State :=
  let a := s.arc
  if a.inSec = s.sec then s.setArc { a with inBytes := a.inBytes + bytes }
  else
    let last := if a.inSec + 1 = s.sec then a.inBytes else 0
    (s.setArc { a with inSec := s.sec, inBytes := bytes }).wr Reg.ARC_RATE_IN (min 0xFFFF (last / 10000))

/-- A sample accepted: the newest time of its subscription, staging, and the copy kept for disturbance windows. -/
def arcAccept (s : State) (i : ArcItem) : State :=
  let a := s.arc
  let s := s.setArc { a with
    lastT := a.lastT.set i.stream (max (a.lastT.getD i.stream 0) i.t), staged := stageSample i a.staged,
    recent := (a.recent.filter fun r => decide (i.t ≤ r.t + 132000000000)) ++ [i] }
  arcIn s (itemSize i)

/-- A sample of half `h` for the archive (R853, R854, R865 to R867): only the lead's checked samples of a subscription in SVMASK, one for
each sample time; while class 0 is shed a refused sample opens a gap, which the next accepted one ends. -/
def arcPost (s : State) (h sub t : Nat) (chans : List (Nat × Nat)) : State :=
  match sec0C s with
  | none => s
  | some c =>
    let i : ArcItem := ⟨0, sub, sub, t, chans, []⟩
    let dup := s.arc.recent.any fun r => r.stream = sub && r.t = t
    if !s.runs 1 || s.rd Reg.ARC_STAT_STATE = 0 || 1 < h || !s.runs (2 + h) || !s.isLead h || !bit c.svMask sub || dup then s
    else
      let full := decide (9 * 2 ^ 32 ≤ 10 * (stagedBytes s + itemSize i))
      let s := if full then s.setArc { s.arc with shed := true } else s
      let open_ := s.arc.gapSubs.contains sub
      if s.arc.shed then
        if open_ then s else arcGap (s.setArc { s.arc with gapSubs := sub :: s.arc.gapSubs }) sub t
      else
        let s := if open_ then arcGap (s.setArc { s.arc with gapSubs := s.arc.gapSubs.filter (· != sub) }) sub t else s
        arcAccept (match s.arc.resume.get? sub with
          | some t0 => arcSpan s sub t0 t
          | none => s) i

/-- The time of a sample of SmpCnt `k` in the archive: its sample time, or its stamp for a stream that is not globally synchronised (log entry
99). -/
def arcTime (c : Sec08) (x : Stream) (k : Nat) (b : BufSmp) : Nat := if x.sync then b.stamp else sampleTime c k b.stamp

/-- A sample of an alignment buffer that has passed the check: a real one (R853). -/
def arcChecked (b : BufSmp) : Bool := b.chk = 1 && b.syn != 0xFFFF

/-- ARCHIVE_SAMPLE_POST (R853): half `h` posts the sample of SmpCnt `k` of subscription `sub` from its alignment buffer, when it has passed the
check. -/
def execArchiveSamplePost (h sub k : Nat) (s : State) : Host.Outcome State Fault Refusal :=
  done s <|
    let x := (s.hf h).stream sub
    match s.s08For h, x.buf.get? k with
    | some c, some b => if 128 ≤ sub || !arcChecked b then s else arcPost s h sub (arcTime c x k b) b.raw
    | _, _ => s

/-- A half that gains LEASH posts again, from its alignment buffer, every checked sample newer than the last one accepted of its
subscription, in order of time (R855). -/
def arcRepost (s : State) (h : Nat) : State :=
  match s.s08For h with
  | none => s
  | some c =>
    (s.hf h).streams.foldl (fun s q =>
      if 128 ≤ q.1 then s
      else
        let newer (t : Nat) : Bool := match s.arc.lastT.get? q.1 with
          | some t' => decide (t' < t)
          | none => true
        let l := ((q.2.buf.filter fun b => arcChecked b.2).map fun b => (arcTime c q.2 b.1 b.2, b.2.raw)).filter fun x => newer x.1
        (sortBy (fun a b => decide (a.1 < b.1)) l).foldl (fun s x => arcPost s h q.1 x.1 x.2) s) s

/-! ### Extents (R857 to R864, R869 to R872) -/

/-- The namespaces that take new extents. -/
def arcNs (s : State) (c : Sec0C) : List Nat := c.nsids.filter fun n => !s.arc.nsFailed.contains n

/-- The key of ARKSLOT: its value and its version. -/
def arcKeyVal (s : State) (c : Sec0C) : Nat × Nat := ((s.key.slots.get? c.arkSlot).map fun k => (k.key, k.ver)).getD (0, 0)

/-- The channels, the rate and the configuration revision of a class and stream (Table REC-8): those of the subscription for class 0,
of the items otherwise. -/
def streamMeta (s : State) (cls stream : Nat) (items : List ArcItem) : Nat × Nat × Nat :=
  let sub (u : Nat) := (sec07 s).sv.get? u
  let nch := max 1 (items.foldl (fun m i => max m i.chans.length) 0)
  let u := if cls = 4 then (items.head?.map (·.sub)).getD 0 else stream
  match sub u with
  | some x => if cls = 0 then (x.nch, x.rate, x.confrev) else if cls = 4 then (nch, x.rate, 0) else (nch, 0, 0)
  | none => (nch, 0, 0)

/-- The open extent of a class, stream and tier that has room: 64 chunks, of which chunk 0 is the header's. -/
def arcOpen (a : Arc) (cls stream tier : Nat) : Option Extent :=
  a.extents.find? fun e => !e.isSealed && !e.failedNs && e.cls = cls && e.stream = stream && e.tier = tier && e.chunks < 64

/-- Open an extent for items: its header is written as chunk 0. -/
def openExtent (s : State) (c : Sec0C) (ns cls stream tier rate : Nat) (items : List ArcItem) : State × Extent :=
  let (nch, full, rev) := streamMeta s cls stream items
  let (key, ver) := arcKeyVal s c
  let no := s.arc.extno + 1
  let tf := (items.head?.map (·.t)).getD 0
  let e : Extent := ⟨no, cls, tier, stream, ns, tf, tf, 1, false, false, nch, if rate = 0 then full else rate, rev, ver, []⟩
  (s.setArc { s.arc with extno := no, extents := s.arc.extents ++ [e], free := s.arc.free - 2 ^ 20, shelf := s.arc.shelf.set (64 * no) (chunkZero key e) }, e)

/-- Write items as the next chunk of an extent (R858, R859). -/
def addChunk (s : State) (c : Sec0C) (no : Nat) (items : List ArcItem) : State :=
  match s.arc.extents.find? fun e => e.no = no with
  | none => s
  | some e =>
    let tl := items.foldl (fun m i => max m i.t) 0
    let e' := { e with tlast := max e.tlast tl, chunks := e.chunks + 1, data := e.data ++ [items] }
    s.setArc { s.arc with
      extents := s.arc.extents.map fun x => if x.no = no then e' else x
      shelf := s.arc.shelf.set (64 * no + e.chunks) (sealBytes (arcKeyVal s c).1 e e.chunks (chunkPlain e items)) }

/-- The staged items of one class and stream that fill a chunk of 1 MiB, in order. -/
def takeChunk (cls stream : Nat) : Nat → List ArcItem → List ArcItem × List ArcItem
  | _, [] => ([], [])
  | room, x :: l =>
    if x.cls = cls && x.stream = stream && itemCost x ≤ room then
      let r := takeChunk cls stream (room - itemCost x) l
      (x :: r.1, r.2)
    else
      let r := takeChunk cls stream room l
      (r.1, x :: r.2)

/-- The chunks written in the last second, and those the budget lets a second take (R864). -/
def recentWrites (s : State) : List Nat := s.arc.writes.filter fun t => decide (s.up < t + 1000000000)
@[inherit_doc recentWrites] def budget (c : Sec0C) : Nat := c.arcBw * 1000000 / 2 ^ 20

/-- Note the writing of `n` chunks, one by one as the budget lets them. -/
def noteWrites (s : State) (c : Sec0C) (n : Nat) : State :=
  let gap := 1000000000 / max 1 (budget c) + 1
  let l := recentWrites s
  let t0 := match l with
    | t :: _ => max s.up (t + if n = 1 then 0 else gap)
    | [] => s.up
  s.setArc { s.arc with writes := ((List.range n).map fun i => t0 + i * gap).reverse ++ l }

/-- Below RESERVE. -/
def arcLow (s : State) (c : Sec0C) : Bool := decide (s.arc.free * 100 < s.arc.total * c.reserve)

/-- Remove an extent; its chunks become free space. -/
def freeExtent (s : State) (no : Nat) : State :=
  match s.arc.extents.find? fun e => e.no = no with
  | none => s
  | some e =>
    s.setArc { s.arc with
      extents := s.arc.extents.filter fun x => x.no != no, shelf := s.arc.shelf.filter fun p => p.1 / 64 != no, free := min s.arc.total (s.arc.free + e.chunks * 2 ^ 20) }

/-- Free the oldest extents while free space is below RESERVE (R871): tier 1 first, then classes 1 and 2; never DIST or LOG. -/
def arcReclaim : Nat → State → Sec0C → State
  | 0, s, _ => s
  | n + 1, s, c =>
    if !arcLow s c then s
    else
      let t1 := s.arc.extents.find? fun e => e.isSealed && e.tier = 1
      let c12 := s.arc.extents.find? fun e => e.isSealed && (e.cls = 1 || e.cls = 2)
      match t1.or c12 with
      | some e => arcReclaim n (freeExtent s e.no) c
      | none =>
        if s.arc.stopped then s
        else ((s.setArc { s.arc with stopped := true, shed := true }).raise Reg.ARC_EVT_FULL).event 0 Ev.ARC_FULL 1 0 []

/-- ARCHIVE_CHUNK_WRITE (R857 to R860, R864, R867, R873): a chunk of the oldest staged class and stream goes to the shelf within
ARCBW; not while the archive is not online, paused, or without its key. -/
def execArchiveChunkWrite (s : State) : Host.Outcome State Fault Refusal :=
  done s <|
    match sec0C s, s.arc.staged with
    | some c, x :: _ =>
      let st := s.rd Reg.ARC_STAT_STATE
      let ns := arcNs s c
      if !s.runs 1 || !(st = 2 || st = 4) || ns.isEmpty || s.rd Reg.PWR_STAT_QUIESCE = 1 || s.arc.free < 2 ^ 20 ||
          budget c ≤ (recentWrites s).length then s
      else
        let (s, ok) := keyServe s 1 c.arkSlot 2 .encrypt
        let s := arcKey s
        if !ok then s
        else
          let (got, rest) := takeChunk x.cls x.stream (2 ^ 20 - 16) s.arc.staged
          let got := if got.isEmpty then [x] else got
          let rest := if rest.length = s.arc.staged.length then rest.drop 1 else rest
          let (s, no) := match arcOpen s.arc x.cls x.stream 0 with
            | some e => (s, e.no)
            | none => let r := openExtent s c (ns.getD ((s.arc.extno + 1) % ns.length) 0) x.cls x.stream 0 0 got; (r.1, r.2.no)
          let s := addChunk s c no got
          let s := noteWrites (s.setArc { s.arc with staged := rest, free := s.arc.free - 2 ^ 20 }) c 1
          let s := arcReclaim (s.arc.extents.length + 1) s c
          if s.arc.shed && !s.arc.stopped && decide (4 * stagedBytes s < 3 * 2 ^ 32) then s.setArc { s.arc with shed := false }
          else s
    | _, _ => s

/-- The archive stops acting full once space is free again. -/
def arcResume (s : State) (c : Sec0C) : State :=
  if s.arc.stopped && !arcLow s c then
    s.setArc { s.arc with stopped := false, shed := decide (3 * 2 ^ 32 ≤ 4 * stagedBytes s) && s.arc.shed }
  else s

/-- Seal an extent: its index joins its header (R862). -/
def sealExtent (s : State) (c : Sec0C) (no : Nat) : State :=
  s.setArc { s.arc with
    extents := s.arc.extents.map fun e => if e.no = no then { e with isSealed := true } else e
    shelf := match s.arc.extents.find? fun e => e.no = no with
      | some e => s.arc.shelf.set (64 * no) (chunkZero (arcKeyVal s c).1 { e with isSealed := true })
      | none => s.arc.shelf }

/-- The start of the archive writer: STARTING in a module with an archive and section 0x0C. A module with an archive releases the root
port, an archive 0 module keeps it in reset (R12). -/
def arcStart (s : State) : State :=
  let s := s.setArc { s.arc with
    portRst := !s.fuses.arch
    resume := (s.arc.extents.filter fun e => !e.isSealed && e.cls = 0 && e.tier = 0).foldl (fun m e => KMap.set m e.stream e.tlast) [] }
  if (sec0C s).isNone then s
  else (s.wr Reg.ARC_STAT_STATE 1).wr Reg.ARC_STAT_KEYOK (b2n (arcKeyOk s))

/-- Step 11 of an apply waits no longer: an archive extent has ended (Table BOOT-9). -/
def arcDue (s : State) : State :=
  let was := (sec0C s).isNone
  ((dueTake s 11).map fun t => if was then arcStart t else arcKey t).getD s

/-- EXTENT_SEAL (R862, R863, R871). -/
def execExtentSeal (no : Nat) (s : State) : Host.Outcome State Fault Refusal :=
  done s <|
    match sec0C s with
    | none => s
    | some c =>
      let st := s.rd Reg.ARC_STAT_STATE
      if !s.runs 1 || !(st = 2 || st = 4) || !s.arc.extents.any (fun e => e.no = no && !e.isSealed && !e.failedNs) then s
      else
        let s := sealExtent s c no
        arcDue (arcResume (arcReclaim s.arc.extents.length s c) c)

/-- ARC_ONLINE (R851, R872): the milestone, the extents that the catalogue shows open sealed with the chunks they have; the first sample that a
subscription brings tells its gap. `free` is the free space the namespaces report. -/
def execArcOnline (ms free : Nat) (s : State) : Host.Outcome State Fault Refusal :=
  done s <|
    match sec0C s with
    | none => s
    | some c =>
      if !s.runs 1 || s.rd Reg.ARC_STAT_STATE != 1 then s
      else
        let used := (s.arc.extents.map (·.chunks)).sum * 2 ^ 20
        let s := s.setArc { s.arc with
          extents := s.arc.extents.map fun e => { e with isSealed := true, failedNs := false }, free := free,
          total := free + used, nsFailed := [], nsSeen := c.nsids }
        let s := ((s.wr Reg.ARC_STAT_STATE 2).wr Reg.ARC_STAT_NSOK c.nsids.length).event 0 Ev.ARC_ONLINE 1 0 []
        let s := { s with sup := { s.sup with archOn := true } }.wr (Reg.SUP_MILE_MS 9) ms
        arcReclaim (s.arc.extents.length + 1) (arcStat s) c

/-- ARC_NS_FAIL (R852). -/
def execArcNsFail (nsid : Nat) (s : State) : Host.Outcome State Fault Refusal :=
  done s <|
    match sec0C s with
    | none => s
    | some c =>
      if !s.runs 1 || s.rd Reg.ARC_STAT_STATE = 0 || !c.nsids.contains nsid || s.arc.nsFailed.contains nsid then s
      else
        let s := s.setArc { s.arc with
          nsFailed := nsid :: s.arc.nsFailed,
          extents := s.arc.extents.map fun e => if e.ns = nsid then { e with failedNs := true } else e }
        let s := s.wr Reg.ARC_STAT_NSOK (c.nsids.length - s.arc.nsFailed.length)
        arcStat ((s.raise Reg.ARC_EVT_NSFAIL).event 0 Ev.ARC_NS_FAIL 1 0 [nsid])

/-- The content of an extent at another rate: at each sample time of that rate with samples to replace, the filtered value of each channel,
and the OR of the qualities replaced (R869). -/
def resampled (rate : Nat) (e : Extent) : List ArcItem :=
  let items := e.data.flatten
  let step := 1000000000 / max 1 rate
  (List.range ((e.tlast - e.tfirst) / max 1 step + 1)).filterMap fun j =>
    let t := e.tfirst + j * step
    let l := items.filter fun i => decide (t ≤ i.t) && decide (i.t < t + step)
    if l.isEmpty then none
    else some ⟨0, e.stream, e.stream, t, (List.range e.nch).map fun ch =>
      (Config.antiAlias (items.map fun i => (i.t, (i.chans.getD ch (0, 0)).1)) t rate % 2 ^ 32,
       l.foldl (fun q i => q ||| (i.chans.getD ch (0, 0)).2) 0), []⟩

/-- A DIST extent made from the samples of an extent is still open (R870). -/
def distOpen (s : State) (e : Extent) : Bool :=
  s.arc.extents.any fun d => d.cls = 4 && !d.isSealed &&
    d.data.flatten.any fun i => i.sub = e.stream && decide (e.tfirst ≤ i.t) && decide (i.t ≤ e.tlast)

/-- TIER_DOWNSAMPLE (R869, R870): the content of a sealed tier 0 extent of class 0 older than FULLYRS goes, at DECRATE, into a tier 1
extent that is sealed, and the extent is freed. A half year is 15,778,800 s. -/
def execTierDownsample (no : Nat) (s : State) : Host.Outcome State Fault Refusal :=
  done s <|
    match sec0C s, s.arc.extents.find? fun e => e.no = no with
    | some c, some e =>
      let st := s.rd Reg.ARC_STAT_STATE
      let old := decide (e.tlast + c.fullYrs * 15778800 * 1000000000 < s.now)
      if !s.runs 1 || !(st = 2 || st = 4) || e.cls != 0 || e.tier != 0 || !e.isSealed || e.failedNs || !old ||
          s.rd Reg.ARC_STAT_KEYOK = 0 || s.rd Reg.PWR_STAT_QUIESCE = 1 || distOpen s e then s
      else
        let items := resampled c.decRate e
        let (s, e1) := openExtent s c e.ns 0 e.stream 1 c.decRate items
        let s := (packChunks items).foldl (fun s l => addChunk s c e1.no l) s
        let s := sealExtent (s.setArc { s.arc with free := s.arc.free - (packChunks items).length * 2 ^ 20 }) c e1.no
        let s := noteWrites (freeExtent s no) c ((packChunks items).length + 1)
        arcResume (arcReclaim (s.arc.extents.length + 1) s c) c
    | _, _ => s

/-! ### Disturbance windows (R868) -/

/-- A trigger at time `t`: inside the open window it extends it, up to 120 s in all, and keeps its DID. -/
def distTrigger (s : State) (c : Sec0C) (t cause : Nat) : State × Nat :=
  let a := s.arc
  let stop := t + c.post * 100000000
  match a.dist.find? fun w => !w.closed && decide (w.start ≤ t) && decide (t ≤ w.stop) with
  | some w =>
    let w' := { w with stop := max w.stop (min stop (w.start + 120000000000)) }
    (s.setArc { a with dist := a.dist.map fun x => if x.did = w.did then w' else x }, w.did)
  | none =>
    let d := a.did + 1
    (s.setArc { a with did := d, dist := a.dist ++ [⟨d, t, t - c.pre * 100000000, stop, cause, false⟩] }, d)

/-- A cause is a trigger of DTRIG: 1 a TRIP record, 2 BACKUP_OC_TRIP, 0x80 + n binary input n (DESIGN CHOICE, log entry 43: the
spec gives no codes). -/
def distCause (c : Sec0C) (cause : Nat) : Bool :=
  match cause with
  | 1 => c.trigTrip
  | 2 => c.trigBk
  | n => decide (0x80 ≤ n) && decide (n < 0xC0) && bit c.trigBi (n - 0x80)

/-- DIST_TRIGGER. -/
def execDistTrigger (t cause : Nat) (s : State) : Host.Outcome State Fault Refusal :=
  done s <|
    match sec0C s with
    | some c => if !s.runs 1 || s.rd Reg.ARC_STAT_STATE = 0 || !distCause c cause then s else (distTrigger s c t cause).1
    | none => s

/-- DIST_WINDOW: the close of a window whose end has come, with the copy of its class 0 samples. -/
def execDistWindow (did : Nat) (s : State) : Host.Outcome State Fault Refusal :=
  done s <|
    match s.arc.dist.find? fun w => w.did = did && !w.closed with
    | none => s
    | some w =>
      if !s.runs 1 || (sec0C s).isNone || s.now < w.stop then s
      else
        let l := s.arc.recent.filter fun r => decide (w.start ≤ r.t) && decide (r.t ≤ w.stop)
        let s := s.setArc { s.arc with dist := s.arc.dist.map fun x => if x.did = did then { x with closed := true } else x }
        (l.foldl (fun s r => archivePost s { r with cls := 4, stream := did }) s).event 0 Ev.DIST_WINDOW 1 0 [did, w.cause]

/-! ### Commands (Table REC-10) -/

/-- ARC_STATUS. -/
def execArcStatus (tag : Nat) (s : State) : Host.Outcome State Fault Refusal :=
  done s <| command s 0x0C01 tag fun s =>
    let used := (s.arc.extents.map (·.chunks)).sum * 2 ^ 20
    let old := ((s.arc.extents.find? fun e => e.tier = 0 && e.cls = 0).map (·.tfirst)).getD 0
    okay s (pack [(1, s.rd Reg.ARC_STAT_STATE), (1, s.rd Reg.ARC_STAT_NSOK), (2, 0), (8, s.arc.free), (8, used), (8, old),
      (4, s.arc.gaps)])

/-- The room of a query's output: from WOFS to the window's end, at most MAXB; `none` where the window does not take it. -/
def arcRoom (s : State) (win wofs maxb : Nat) : Option Nat :=
  if 7 ≤ win || !winOpen s win || winSize s win < wofs then none else some (min maxb (winSize s win - wofs))

/-- The extents that a request reads: of its class, stream and tier, on namespaces that answer, in its span of time. -/
def fetchExtents (s : State) (req : FetchReq) : List Extent :=
  s.arc.extents.filter fun e =>
    e.cls = req.cls && (e.stream = req.stream || e.cls = 1 || e.cls = 2 || e.cls = 3) && !e.failedNs &&
    decide (req.tfrom ≤ e.tlast) && decide (e.tfirst ≤ req.tto) && (req.tier = 0xFF || e.tier = req.tier)

/-- The items of a request in order of time; the best tier of a time is tier 0 where an extent of it has that time. -/
def fetchItems (s : State) (req : FetchReq) : List ArcItem :=
  let hit := fetchExtents s req
  let full := hit.filter (·.tier = 0)
  let l := hit.flatMap fun e =>
    e.data.flatten.filter fun i => e.tier = 0 || !full.any fun f => decide (f.tfirst ≤ i.t) && decide (i.t ≤ f.tlast)
  sortBy (fun a b => decide (a.t < b.t)) (l.filter fun i => decide (req.tfrom ≤ i.t) && decide (i.t ≤ req.tto))

/-- An item as ARC_FETCH writes it: a record whole; otherwise the time, then the value of each channel of CHMASK, then their qualities
(R874, R875). -/
def fetchBytes (chmask : Nat) (i : ArcItem) : List Byte :=
  if i.body.isEmpty then
    let v := (i.chans.zipIdx.filter fun c => bit chmask c.2).map (·.1)
    le 8 i.t ++ v.flatMap (fun c => le 4 c.1) ++ v.flatMap fun c => le 4 c.2
  else i.body

/-- The items that fit a room, in order. -/
def fitItems (chmask : Nat) : Nat → List ArcItem → List ArcItem
  | _, [] => []
  | room, i :: l =>
    let n := (fetchBytes chmask i).length
    if n ≤ room then i :: fitItems chmask (room - n) l else []

/-- ARC_FETCH (R874, R875): `work` is how many samples or records 10 s of work take. -/
def execArcFetch (tag : Nat) (req : FetchReq) (work : Nat) (s : State) : Host.Outcome State Fault Refusal :=
  done s <| command s 0x0C02 tag fun s =>
    if 5 ≤ req.cls || !(req.tier = 0 || req.tier = 1 || req.tier = 0xFF) then deny s St.BAD_PARAM
    else match arcRoom s req.win req.wofs req.maxb with
      | none => deny s St.BAD_PARAM
      | some room =>
        if !arcKeyOk s then deny s St.KEY_BLOCKED
        else
          let all := fetchItems s req
          if all.isEmpty then deny s 0x80
          else
            let got := fitItems req.chmask room (all.take work)
            let out := got.flatMap (fetchBytes req.chmask)
            let next := ((all[got.length]?).map (·.t)).getD 0
            let tier := if (fetchExtents s req).any fun e => e.tier = 0 then 0 else 1
            let (s, _) := keyServe s 1 (((sec0C s).map (·.arkSlot)).getD 0) 2 .decrypt
            okay (arcKey (winStore s req.win req.wofs out)) (pack [(4, out.length), (4, got.length), (8, next), (1, tier), (3, 0)])

/-- ARC_MARK (R868). -/
def execArcMark (tag cause : Nat) (s : State) : Host.Outcome State Fault Refusal :=
  done s <| command s 0x0C03 tag fun s =>
    match sec0C s with
    | some c =>
      if !c.trigMark || s.rd Reg.ARC_STAT_STATE = 0 then deny s 0x81
      else
        let (s, d) := distTrigger s c s.now (cause % 256)
        okay s (le 4 d)
    | none => deny s 0x81

/-- ARC_DIST_LIST (R868). -/
def execArcDistList (tag frm count : Nat) (s : State) : Host.Outcome State Fault Refusal :=
  done s <| command s 0x0C04 tag fun s =>
    if count = 0 || 10 < count then deny s St.BAD_PARAM
    else
      let l := (s.arc.dist.filter fun w => w.closed && decide (frm ≤ w.did)).take count
      okay s (pack [(1, l.length), (3, 0)] ++ l.flatMap fun w =>
        pack [(4, w.did), (8, w.trig), (4, (w.stop - w.start) / 1000000), (1, w.cause), (3, 0)])

/-- A number in decimal digits, at least `w` of them. -/
def digits (w n : Nat) : List Byte :=
  let d := ((List.range (n.log2 + 1)).reverse.map fun i => n / 10 ^ i % 10).dropWhile (· = 0)
  (List.replicate (w - d.length) 0 ++ d).map fun x => BitVec.ofNat 8 (0x30 + x)

/-- The date of a day since 1970-01-01: day, month, year. -/
def civil (day : Int) : Nat × Nat × Nat :=
  let z := (day + 719468).toNat
  let era := z / 146097
  let doe := z % 146097
  let yoe := (doe - doe / 1460 + doe / 36524 - doe / 146096) / 365
  let doy := doe - (365 * yoe + yoe / 4 - yoe / 100)
  let mp := (5 * doy + 2) / 153
  let m := if mp < 10 then mp + 3 else mp - 9
  (doy - (153 * mp + 2) / 5 + 1, m, yoe + 400 * era + (if m ≤ 2 then 1 else 0))

/-- A spindle time as UTC in a COMTRADE file: dd/mm/yyyy,hh:mm:ss.ssssss. -/
def comTime (s : State) (t : Nat) : List Byte :=
  let leap := inLeap s t
  let u := utcAt s t - b2n leap
  let (d, m, y) := civil (u / 86400)
  let r := (u % 86400).toNat
  digits 2 d ++ ascii "/" ++ digits 2 m ++ ascii "/" ++ digits 4 y ++ ascii "," ++ digits 2 (r / 3600) ++ ascii ":" ++
    digits 2 (r / 60 % 60) ++ ascii ":" ++ digits 2 (r % 60 + b2n leap) ++ ascii "." ++ digits 6 (t % 1000000000 / 1000)

/-- An offset in minutes as a COMTRADE time code: a sign, hours, h, minutes. -/
def comOffset (m : Int) : List Byte :=
  (if m < 0 then ascii "-" else ascii "+") ++ digits 1 (m.natAbs / 60) ++ ascii "h" ++ digits 2 (m.natAbs % 60)

/-- Free text of a configuration file, of 64 characters at most. PRESUMED (log entry 96): the limit of the 2013 edition. -/
def comText (n : Nat) : List Byte := ((Config.comText n).take 64).map (BitVec.ofNat 8)

/-- The line of analogue channel `ch`: amperes from 1 mA for the first four of eight, volts from 10 mV for the others (R877).
PRESUMED (log entry 96): the order of 9-2LE. -/
def comChannel (ch : Nat) : List Byte :=
  let cur := ch % 8 < 4
  digits 1 (ch + 1) ++ ascii "," ++ comText (4 + 2 * ch) ++ ascii "," ++ comText (5 + 2 * ch) ++ ascii ",," ++
    ascii (if cur then "A,0.001,0" else "V,0.01,0") ++ comText 3

/-- The configuration file of the 2013 edition (R876, R877), of samples of a stream around a trigger. -/
def comCfg (s : State) (rate trig : Nat) (l : List ArcItem) : List Byte :=
  let nch := ((l.head?).map (·.chans.length)).getD 0
  let t0 := ((l.head?).map (·.t)).getD 0
  let lines : List (List Byte) :=
    [comText 0 ++ ascii "," ++ comText 1 ++ ascii ",2013",
     digits 1 nch ++ ascii "," ++ digits 1 nch ++ ascii "A,0D"] ++ (List.range nch).map comChannel ++
    [digits 1 (match s.s08 with
      | some c => c.fnom
      | none => Config.fnomBare), digits 1 1, digits 1 rate ++ ascii "," ++ digits 1 l.length, comTime s t0, comTime s trig, ascii "BINARY32",
     digits 1 1, comOffset (localOffset s (utcAt s trig)) ++ ascii ",+0h00",
     comText 2 ++ ascii "," ++ digits 1 (leapNow s)]
  lines.flatMap fun x => x ++ [0x0D, 0x0A]

/-- The data file in BINARY32 form: for each sample its number, its time in µs from the first, and its values (R876). -/
def comDat (l : List ArcItem) : List Byte :=
  let t0 := ((l.head?).map (·.t)).getD 0
  l.zipIdx.flatMap fun x => le 4 (x.2 + 1) ++ le 4 ((x.1.t - t0) / 1000) ++ x.1.chans.flatMap fun c => le 4 c.1

/-- The samples of a subscription that the DIST extents of a window hold, in order of time. -/
def comItems (s : State) (did stream : Nat) : List ArcItem :=
  sortBy (fun a b => decide (a.t < b.t))
    ((s.arc.extents.filter fun e => e.cls = 4 && e.stream = did && !e.failedNs).flatMap fun e => e.data.flatten.filter fun i => i.sub = stream)

/-- ARC_COMTRADE (R876 to R878): nothing is written when the files exceed MAXB. -/
def execArcComtrade (tag did stream win wofs maxb : Nat) (s : State) : Host.Outcome State Fault Refusal :=
  done s <| command s 0x0C05 tag fun s =>
    match arcRoom s win wofs maxb with
    | none => deny s St.BAD_PARAM
    | some room =>
      if !arcKeyOk s then deny s St.KEY_BLOCKED
      else match s.arc.dist.find? fun w => w.did = did && w.closed with
        | none => deny s 0x81
        | some w =>
          let l := comItems s did stream
          let cfg := comCfg s ((((sec07 s).sv.get? stream).map (·.rate)).getD 0) w.trig l
          let dat := comDat l
          let at_ := (cfg.length + 3) / 4 * 4
          if 128 ≤ stream || l.isEmpty then deny s 0x80
          else if room < at_ + dat.length then deny s 0x82
          else
            let (s, _) := keyServe s 1 (((sec0C s).map (·.arkSlot)).getD 0) 2 .decrypt
            okay (arcKey (winStore (winStore s win wofs cfg) win (wofs + at_) dat)) (pack [(4, cfg.length), (4, dat.length)])

end Sys2Proof.Machine
end

