-- ==== Sys2Proof/Machine/Devices.lean ====
section
/-! DEFINITION. The configuration devices and their faceplates (03_startup_configuration.md, 16_updates.md). -/
namespace Sys2Proof.Machine

/-- Configuration device `d`: 0 CFG_A, 1 CFG_B. -/
def State.dev (s : State) (d : Nat) : CfgDev := if d = 0 then s.cfg.devA else s.cfg.devB

/-- Change device `d`. -/
def State.setDev (s : State) (d : Nat) (x : CfgDev) : State :=
  if d = 0 then { s with cfg := { s.cfg with devA := x } } else { s with cfg := { s.cfg with devB := x } }

/-- The code of a device in commands and records. -/
def devCode (d : Nat) : Nat := if d = 0 then 0x0A else 0x0B

/-- Bytes 0 to 39 of a faceplate (Table BOOT-4). -/
def Plate.head (p : Plate) : List Byte :=
  pack [(4, p.magic), (1, p.fpver), (1, p.role), (2, 0), (4, p.seq), (4, p.bilOff), (4, p.bilLen), (4, p.cfgOff), (4, p.cfgLen),
    (4, p.hlpOff), (4, p.hlpLen), (4, 0)]

/-- The 64 bytes of a faceplate (R158). -/
def Plate.bytes (p : Plate) : List Byte :=
  p.head ++ pack [(4, p.crc), (1, p.cstate), (1, p.bstate)] ++ List.replicate 18 0xFF

/-- A copy read from device `d` is valid (R159). -/
def Plate.ok (d : Nat) (p : Plate) : Bool :=
  p.magic = 0x50465456 && p.fpver = 1 && p.role = devCode d && p.bilOff = 0x1000000 && p.cfgOff = 0x5000000 &&
  p.hlpOff = 0x2000 && p.bilLen ≤ 0x4000000 && p.cfgLen ≤ 0x2000000 && p.hlpLen ≤ 0xE000 && p.crc = crc32 p.head

/-- The faceplate that the module writes to device `d`. -/
def newPlate (d seq bilLen cfgLen cst bst : Nat) : Plate :=
  let p : Plate := ⟨0x50465456, 1, devCode d, seq % 2 ^ 32, 0x1000000, bilLen, 0x5000000, cfgLen, 0x2000, min 0xE000 Config.helperLen, 0, cst, bst⟩
  { p with crc := crc32 p.head }

/-- The faceplate that device `d` is read by: copy 0, or copy 1 when copy 0 is not valid (R160). -/
def State.plate (s : State) (d : Nat) : Option Plate :=
  ((s.dev d).p0.filter (·.ok d)).or ((s.dev d).p1.filter (·.ok d))

/-- CSTATE as it reads: 0xFF, 0x0F, or withdrawn (Table BOOT-4). -/
def Plate.cst (p : Plate) : Nat := if p.cstate = 0xFF || p.cstate = 0x0F then p.cstate else 0

/-- BSTATE as it reads (Table UPD-4). -/
def Plate.bst (p : Plate) : Nat := if p.bstate = 0xFF || p.bstate = 0x7F || p.bstate = 0x0F then p.bstate else 0

/-- Program CSTATE and BSTATE in both copies, copy 1 first (R161): bits go from 1 to 0 only. -/
def CfgDev.program (x : CfgDev) (c b : Nat) : CfgDev :=
  let f (p : Plate) : Plate := { p with cstate := p.cstate &&& c, bstate := p.bstate &&& b }
  let x := { x with p1 := x.p1.map f }
  { x with p0 := x.p0.map f }

/-- Program the state bytes of device `d`. -/
def programDev (s : State) (d c b : Nat) : State := s.setDev d ((s.dev d).program c b)

/-- Withdraw the configuration of device `d`. -/
def withdraw (s : State) (d : Nat) : State := programDev s d 0 0xFF

/-- Rewrite the faceplate of device `d` with the lengths of what its slots hold: copy 1 first, and copy 0 only when copy 1 has read
back (R161). A copy that does not read back is not valid. -/
def writePlate (s : State) (d seq cst bst : Nat) (e : WriteEnd) : State :=
  let x := s.dev d
  let p := newPlate d seq ((x.billet.map (·.total)).getD 0) ((x.image.map (·.total)).getD 0) cst bst
  match e with
  | .slot => s
  | .copy1 => s.setDev d { x with p1 := none }
  | .copy0 => s.setDev d { x with p1 := some p, p0 := none }
  | .ok => s.setDev d { x with p1 := some p, p0 := some p }

/-! ### The bytes of a device (Table BOOT-3) -/

/-- The byte at address `a` of a device: the two faceplates, the helper data, and the rest of the flash. -/
def CfgDev.byte (x : CfgDev) (a : Nat) : Byte :=
  let plate (p : Option Plate) (i : Nat) : Byte := (p.map fun p => p.bytes.getD i 0xFF).getD 0xFF
  if a < 0x1000 then plate x.p0 a
  else if a < 0x2000 then plate x.p1 (a - 0x1000)
  else if a < 0x10000 then
    if x.helper && decide (a < 0x2000 + min 0xE000 Config.helperLen) then BitVec.ofNat 8 (Config.helperByte (a - 0x2000)) else 0xFF
  else if x.unk.contains (a / 65536) && !x.flash.any (·.1 = a) then BitVec.ofNat 8 (Config.flashByte x.gen a)
  else Mem.read 0xFF x.flash a

/-- `n` bytes of a device from address `a` on. -/
def CfgDev.bytes (x : CfgDev) (a n : Nat) : List Byte := (List.range n).map fun i => x.byte (a + i)

/-- Byte `i` of staging buffer `k`: 0 the configuration buffer, 1 the billet's two pages. -/
def stageByte (s : State) (k i : Nat) : Byte :=
  Mem.read 0 s.hbr.ddr (Config.stagePage (k + i / 33554432) % 1024 * 33554432 + i % 33554432)

/-- The first `n` bytes of a staging buffer. -/
def stageBytes (s : State) (k n : Nat) : List Byte := (List.range n).map fun i => stageByte s k i

/-- The 64 KiB sectors that `len` bytes from `off` take. -/
def sectors (off len : Nat) : List Nat := (List.range ((len + 65535) / 65536)).map fun i => off / 65536 + i

/-- Erase the sectors that `bs` takes from address `a` on, and write `bs` there. -/
def CfgDev.put (x : CfgDev) (a : Nat) (bs : List Byte) : CfgDev :=
  let sec := sectors a bs.length
  { x with
    flash := Mem.writeList 0xFF (x.flash.filter fun c => !sec.contains (c.1 / 65536)) a bs
    unk := x.unk.filter fun n => !sec.contains n }

/-- SEQ of the valid faceplate of device `d`. -/
def devSeq (s : State) (d : Nat) : Nat := ((s.plate d).map (·.seq)).getD 0

/-- The failure count of device `d`. -/
def failFld (d : Nat) : Fld := if d = 0 then Reg.SUP_BOOT_FAILA else Reg.SUP_BOOT_FAILB

/-- A domain restart before BOOT_OK is a failed attempt (R157): it is counted, and the restart of R174 is due. -/
def attemptDue (s : State) : State :=
  if !s.sup.attempt then s
  else
    let dev := s.rd Reg.SUP_BOOT_DEV
    let s := if dev = 0 then s else s.wr (failFld (dev - 1)) (min 2 (s.rd (failFld (dev - 1)) + 1))
    { s with sup := { s.sup with attempt := false, due := some 6 } }

/-- VERSION of the billet that device `d` holds. -/
def devVer (s : State) (d : Nat) : Nat := (((s.dev d).billet).map (·.ver)).getD 0

/-- Set the state of SUP_CFGSTAT. -/
def cfgState (s : State) (v : Nat) : State := s.wr Reg.SUP_CFGSTAT_STATE v

/-- Set SUP_CFGSTAT.DEF, and DEFAULTS with it. -/
def cfgDef (s : State) (v : Nat) : State :=
  (s.wr Reg.SUP_CFGSTAT_DEF v).wr Reg.SUP_CFGSTAT_DEFAULTS (b2n (v % 2 ^ 15 != 0))

/-- The new image is confirmed (R197). -/
def confirmImage (s : State) : State :=
  let s := programDev s s.cfg.dev 0x0F 0xFF
  let s := cfgState (s.wr (failFld s.cfg.dev) 0) 0
  ({ s with cfg := { s.cfg with probEnd := none, before := none } }).event 8 Ev.CFG_CONFIRMED 0 0 [devSeq s s.cfg.dev]

end Sys2Proof.Machine
end

