-- ==== Sys2Proof/Machine/Field.lean ====
section
/-! DEFINITION. The rest of section 0x0F and the field signals it sets: PWR thresholds, binary inputs, current loops, the
modulator clocks, clears of OUT_RBMIS (02_module_interfaces.md). -/
namespace Sys2Proof.Machine

/-! ### The hold-up threshold (R97, R100) -/

/-- VSET in 0.1 V. -/
def vsetLevel (s : State) : Nat := [0, 240, 360, 480].getD (s.rd Reg.PWR_HOLD_VSET) 0

/-- A level in 0.1 V lies below VQ, computed exactly: v² C < 2 × 0.6 J + (5.0 V)² C, or v < 6.0 V. -/
def belowVq (s : State) (v : Nat) : Bool :=
  let c := s.rd Reg.PWR_HOLD_CAP
  v < 60 || v * v * c < 120000000 + 2500 * c

/-- R100, and the case of no bank: a quiesce commits at the warning itself. -/
def holdSmall (s : State) : Bool :=
  let v := vsetLevel s
  v = 0 || s.rd Reg.PWR_HOLD_CAP = 0 || !decide (60 < v && 120000000 + 2500 * s.rd Reg.PWR_HOLD_CAP < v * v * s.rd Reg.PWR_HOLD_CAP)

/-- VQ as PWR_HOLD shows it, to the nearest 0.1 V. DESIGN CHOICE (log entry 46): 0 while CAP is 0, where R97 has no value, and 1023
where VQ does not fit the field's 10 bits. -/
def vqShown (s : State) : Nat :=
  let c := s.rd Reg.PWR_HOLD_CAP
  if c = 0 then 0
  else
    let x := (120000000 + 2500 * c) / c
    let r := isqrt x
    min 1023 (max 60 (if r * r + r < x then r + 1 else r))

/-- The charger runs: VIN_INT is at or above WARN, the hold switch is open, and VSET is not 0 (R94). -/
def charger (s : State) : Bool :=
  vsetLevel s != 0 && decide (s.rd Reg.PWR_CFG_WARN ≤ max s.pwr.vinA s.pwr.vinB) && !s.pwr.holdSw

/-- The trickle charger runs: RTC_TCH.EN is 1 with a diode and a voltage choice that are not reserved, VIN_INT is at or above WARN, and
VBAK is below VMAX (R306). -/
def trickle (s : State) : Bool :=
  s.rd Reg.RTC_TCH_EN = 1 && s.rd Reg.RTC_TCH_DSEL != 3 && s.rd Reg.RTC_TCH_VMAX != 3 &&
  decide (s.rd Reg.PWR_CFG_WARN ≤ max s.pwr.vinA s.pwr.vinB) && decide (s.pwr.vbak < 3000 + 300 * s.rd Reg.RTC_TCH_VMAX)

/-- Take a measurement of VBAK in mV: VBAKLOW follows it while VIN_INT is at or above WARN, and the trickle charger (R306). -/
def takeVbak (s : State) (mv : Nat) : State :=
  let s := { s with pwr := { s.pwr with vbak := mv } }
  let s := if s.rd Reg.PWR_CFG_WARN ≤ max s.pwr.vinA s.pwr.vinB then s.wr Reg.RTC_STAT_VBAKLOW (b2n (decide (mv < 2000))) else s
  { s with pwr := { s.pwr with trickle := trickle s } }

/-- Bring PWR_HOLD.VQ, HOLD_SMALL, HOLD_OK and the charger up to date. -/
def refreshHold (s : State) : State :=
  let v := vsetLevel s
  let ok := v != 0 && decide (19 * v ≤ 20 * s.pwr.vhold) && decide (20 * s.pwr.vhold ≤ 21 * v)
  let s := { s with pwr := { s.pwr with charge := charger s } }
  s.wrs [(Reg.PWR_HOLD_VQ, vqShown s), (Reg.PWR_STAT_HOLD_SMALL, b2n (holdSmall s)), (Reg.PWR_STAT_HOLD_OK, b2n ok)]

/-! ### Current loops (R128 to R136) -/

/-- Loop `n`. -/
def State.loop (s : State) (n : Nat) : Loop := s.pins.loops.getD n {}

/-- Change loop `n`. -/
def State.setLoop (s : State) (n : Nat) (l : Loop) : State :=
  { s with pins := { s.pins with loops := s.pins.loops.set n l } }

/-- The current that loop `n` shows in OUT_LPRB, in steps of 24 mA / 4096. -/
def loopShow (s : State) (n : Nat) : State := s.wr (Reg.OUT_LPRB_RB n) (min 4095 ((s.loop n).drive * 4096 / 24000))

/-- Loop `n` takes the state `l`: a loss ends when the voltage allows what is asked for (R131), and the loop delivers 3.6 mA in
FAULT_LOW (R132), else what is asked for as far as the voltage allows. DESIGN CHOICE (log entry 77): SHORT compares with what the
loop is asked to drive, the fail value while that is in force. -/
def loopPut (s : State) (n : Nat) (l : Loop) : State :=
  let loss := l.loss && decide (l.deliv + 48 < l.ask)
  let drive := if l.low then 3600 else if loss then l.deliv else l.ask
  let s := s.setLoop n { l with loss := loss, drive := drive }
  loopShow (s.wr (Reg.OUT_LPSTAT_SHORT n) (b2n (drive + 48 < l.ask))) n

/-- Ask loop `n` for `v` µA: FAULT_LOW ends, and R129 applies afresh (R133); in SATURATE a loss goes on while the voltage does not
allow `v`. -/
def loopAsk (s : State) (n v : Nat) : State :=
  let l := s.loop n
  loopPut s n { l with ask := v, low := false, loss := l.loss && !l.low }

/-- The loop follows its set point; a disabled loop draws nothing. -/
def loopFollow (s : State) (n : Nat) : State :=
  loopAsk s n (if s.rd (Reg.OUT_LPCFG_EN n) = 1 then s.rd (Reg.OUT_LPSET_SET n) else 0)

/-- Declare a compliance loss at `delivered` µA (R129 to R134). -/
def loopLoss (s : State) (n delivered : Nat) : State :=
  let l := s.loop n
  let s := s.raise (Reg.OUT_LPSTAT_COMPLIANCE n)
  let s := loopPut s n { l with low := decide (s.rd (Reg.OUT_LPCFG_MODE n) = 1), loss := true, deliv := delivered }
  s.event 0 Ev.LOOP_COMPLIANCE 0 0 [n, l.ask, delivered]

/-- LOOP_COMPLIANCE_LOSS (R129): more than 48 µA below what the loop is asked to drive. -/
def execLoopComplianceLoss (n delivered : Nat) (s : State) : Host.Outcome State Fault Refusal :=
  done s <|
    if 8 ≤ n || s.dom 0 != 2 || s.rd (Reg.OUT_LPCFG_EN n) = 0 || (s.loop n).low || (s.loop n).ask ≤ delivered + 48 then s
    else loopLoss s n delivered

/-- The loop voltage now allows `v` µA: a loop in SATURATE delivers that much, or what is asked for (R131). -/
def loopVolt (s : State) (n v : Nat) : State :=
  let l := s.loop n
  if 8 ≤ n || !l.loss || l.low then s else loopPut s n { l with deliv := v }

/-- A write to OUT_LPSTATn whose bit 0 clears COMPLIANCE (R130, R133): the loss may persist (`lost`). -/
def loopClear (s : State) (n : Nat) (lost : Bool) : State :=
  let l := s.loop n
  let s := s.clr (Reg.OUT_LPSTAT_COMPLIANCE n)
  if l.low then
    let s := loopAsk s n l.ask
    if lost && decide (l.deliv + 48 < l.ask) then loopLoss s n l.deliv else s
  else if l.loss && lost then s.raise (Reg.OUT_LPSTAT_COMPLIANCE n)
  else if l.loss then loopPut s n { l with loss := false }
  else s

/-- LOOP_COMPLIANCE_CLEAR (R130, R133). -/
def execLoopComplianceClear (path n : Nat) (val : Word) (lost : Bool) (s : State) : Host.Outcome State Fault Refusal :=
  done s <| hostWrite s path 11 fun s => if 8 ≤ n || !val.getLsbD 0 then s else loopClear s n lost

/-- A write to OUT_LPSETn: at most 24,000 µA, ignored under SRC MAP. A new set point ends FAULT_LOW, and the hold of R136 while
APP runs. -/
def loopSet (s : State) (n v : Nat) : State :=
  if 8 ≤ n || s.rd (Reg.OUT_LPCFG_SRC n) = 1 then s
  else
    let s := s.wr (Reg.OUT_LPSET_SET n) (min 24000 (v % 2 ^ 15))
    if s.rd (Reg.OUT_LPSTAT_HOLDING n) = 0 then loopFollow s n
    else if s.runs 1 then loopFollow (s.clr (Reg.OUT_LPSTAT_HOLDING n)) n
    else s

/-- LOOP_SETPOINT_WRITE (R132, R133, R136). -/
def execLoopSetpointWrite (path n : Nat) (val : Word) (s : State) : Host.Outcome State Fault Refusal :=
  done s <| hostWrite s path 11 fun s => loopSet s n val.toNat

/-- LOOP_OPEN (R135): the terminal voltage has stayed below 1 V for 10 ms, whether the loop is in use or not. DESIGN CHOICE (log entry
78): the spec gives OPEN no clearing, and it stays until a reset of the always-on domain. -/
def execLoopOpen (n : Nat) (s : State) : Host.Outcome State Fault Refusal :=
  done s <| if 8 ≤ n || s.dom 0 != 2 then s else s.raise (Reg.OUT_LPSTAT_OPEN n)

/-- LOOP_HOLD_EXPIRY (R136): HOLDT has run out with no new set point, and the loop drives its fail value. DESIGN CHOICE (log entry 77): a
loop in FAULT_LOW drives it too, and FAULT_LOW ends: R132 and R136 do not say which gives way. -/
def execLoopHoldExpiry (n : Nat) (s : State) : Host.Outcome State Fault Refusal :=
  done s <|
    if 8 ≤ n || s.rd (Reg.OUT_LPSTAT_HOLDING n) = 0 then s
    else loopAsk s n (if s.rd (Reg.OUT_LPCFG_FAILV n) = 1 then 21000 else 3600)

/-- The set points of the loops under SRC MAP at a 1 ms update: the spec names no scaling, so each is a free value. FAULT_LOW stays
until the host acts (R132). -/
def loopsMap (s : State) : State :=
  if !s.runs 1 then s
  else
    (List.range 8).foldl (fun s n =>
      if s.rd (Reg.OUT_LPCFG_EN n) = 1 && s.rd (Reg.OUT_LPCFG_SRC n) = 1 then
        let s := { s.wr (Reg.OUT_LPSET_SET n) (Config.freeNat s.free % 24001) with free := s.free + 1 }
        let s := s.clr (Reg.OUT_LPSTAT_HOLDING n)
        if (s.loop n).low then loopPut s n { s.loop n with ask := s.rd (Reg.OUT_LPSET_SET n) } else loopFollow s n
      else s) s

/-! ### Section 0x0F, its rest (Table BOOT-9, step 7) -/

/-- Load the binary inputs, the loops, the modulator clocks and the PWR fields. -/
def loadField (s : State) : State :=
  let c := (sec0F s).getD none0F
  let s := s.wrs [(Reg.PWR_CFG_WARN, c.warn), (Reg.PWR_HOLD_VSET, c.vset), (Reg.PWR_HOLD_CAP, c.cap),
    (Reg.OUT_MCLK_FREQ, c.freq), (Reg.OUT_MCLK_SPT, c.spt)]
  let s := (List.range 64).foldl (fun s n =>
    let b := c.bi.getD n ⟨false, 0⟩
    let lvl := bit s.pins.bi n != (b.inv != (s.rd (Reg.OUT_BICFG_INV n) = 1))
    { s.wrs [(Reg.OUT_BICFG_INV n, b2n b.inv), (Reg.OUT_BICFG_DBNC n, b.dbnc)] with
      pins := { s.pins with bi := putBit s.pins.bi n lvl } }) s
  let s := (List.range 8).foldl (fun s n =>
    let l := c.loops.getD n ⟨false, false, 0, 10, false⟩
    let s := s.wrs [(Reg.OUT_LPCFG_EN n, b2n l.en), (Reg.OUT_LPCFG_MODE n, b2n l.faultLow), (Reg.OUT_LPCFG_SRC n, l.src),
      (Reg.OUT_LPCFG_HOLDT n, l.holdt), (Reg.OUT_LPCFG_FAILV n, b2n l.fail21)]
    if s.rd (Reg.OUT_LPSTAT_HOLDING n) = 1 && l.en then s
    else if (s.loop n).low && l.en && l.faultLow then s
    else loopFollow (if l.en then s else s.clr (Reg.OUT_LPSTAT_HOLDING n)) n) s
  refreshHold s

/-! ### Binary inputs (R124 to R127) -/

/-- A change of POSBI of a feeder, which the lead posts (R675, R676). -/
def posbiNotice (s : State) (n : Nat) (closed : Bool) : State :=
  match s.lead with
  | some h =>
    match s.s08For h with
    | some c =>
      if !passing s h then s
      else c.feeders.foldl (fun s f =>
        if f.2.posbi != some n then s
        else if closed then postNotice s h f.1 1 0 0
        else if feederState s h f.1 f.2 = 0 then s
        else postNotice s h f.1 0 0 0) s
    | none => s
  | none => s

/-- Note the feeders' states of the lead before an input changes (R674). -/
def keepFeeders (s : State) : State :=
  match s.lead with
  | none => s
  | some h =>
    match s.s08For h with
    | none => s
    | some c => s.setHf h { s.hf h with
        feeders := c.feeders.foldl (fun (m : KMap Nat) (f : Nat × FeedP) => m.set f.1 (feederState s h f.1 f.2)) (s.hf h).feeders }

/-- BINARY_INPUT_CHANGE (R125 to R127): the input's level after INV, stamped at the first sample of the new level (Table TIME-5). -/
def execBinaryInputChange (n : Nat) (high : Bool) (t : Nat) (s : State) : Host.Outcome State Fault Refusal :=
  done s <|
    let lvl := high != (s.rd (Reg.OUT_BICFG_INV n) = 1 : Bool)
    if 64 ≤ n || s.dom 0 != 2 || bit s.pins.bi n = lvl then s
    else
      let s := keepFeeders s
      let s := { s with pins := { s.pins with bi := putBit s.pins.bi n lvl, biStamp := s.pins.biStamp.set n t } }
      posbiNotice s n lvl

/-! ### OUT_RBMIS (R115 to R117, R977) -/

/-- A write to OUT_RBMISk: 1 clears, but a line that the hardware flags in the same cycle is flagged (Table HOST-4), with what R115 to
R118 do at a flag. -/
def rbmisClear (s : State) (k v hw : Nat) : State :=
  let f := Reg.OUT_RBMIS_MIS k
  let s := s.wr f (andNot 32 (s.rd f) v)
  (ones 32 hw).foldl (fun s b =>
    let line := 32 * k + b
    let rb := !outEn s || !bit s.pins.cmd line
    readWrong { s with pins := { s.pins with rb := putBit s.pins.rb line rb } } line) s

/-- OUT_RBMIS_CLEAR (R977). -/
def execOutRbmisClear (path k : Nat) (val : Word) (hw : Nat) (s : State) : Host.Outcome State Fault Refusal :=
  done s <| hostWrite s path 11 fun s => if 1 < k then s else rbmisClear s k val.toNat (hw % (if k = 0 then 2 ^ 32 else 256))

end Sys2Proof.Machine
end

