-- ==== Sys2Proof/Machine/Radio.lean ====
section
/-! DEFINITION. The radio domain: engines and spares, the transmit scheduler, drain and calibration, budgets (06_radio.md). -/
namespace Sys2Proof.Machine

/-- Change the radio. -/
def State.setRad (s : State) (r : Radio) : State := { s with rad := r }

/-- The settings of section 0x03 that a module without it runs on. -/
def sec03 (s : State) : Sec03 := s.cfg.secs.s03.getD ⟨0, 0, 0, 400, 4, 8, 60, 160, -95, 0, 10, 100, 3, [], 0, []⟩

/-- An exchange is in progress on a channel: a carrier on air, or a frame of the module that waits for its answer. -/
def exchanging (s : State) (ch : Nat) : Bool :=
  (s.rad.air.any fun c => c.req.chan = ch) || s.lnt.nodes.any fun p => match p.2.q with
    | f :: _ => f.chan = ch && (f.stage = .air || f.stage = .ack)
    | [] => false

/-- The channels that step 8 of an apply has not reached yet, now that exchanges have ended. -/
def releaseOld03 (s : State) : State :=
  match s.cfg.old03 with
  | none => s
  | some (c, l) =>
    let l := l.filter (exchanging s)
    { s with cfg := { s.cfg with old03 := if l.isEmpty then none else some (c, l) } }

/-- The transmit mask lets the module send on a channel: under the section before the apply while its exchange lasts (Table BOOT-9). -/
def masked (s : State) (ch : Nat) : Bool :=
  match s.cfg.old03 with
  | some (c, l) => bit (if l.contains ch then c else sec03 s).mask ch
  | none => bit (sec03 s).mask ch

/-- The fused region is E. -/
def regionE (s : State) : Bool := s.fuses.region = 2

/-- The fixed transmit delay of the grid (R288, Table RAD-1). -/
def txDelay (s : State) : Nat := if regionE s then 240000 else 95000

/-! ### Caps (R346 to R351) -/

/-- The composite cap in 0.1 dB above −10 dBm: +30 dBm, CCAP, and +24 dBm under THROTTLE. -/
def compCap (s : State) : Nat :=
  let c := min 400 (s.rd Reg.RAD_TXLIM_CCAP)
  if s.rd Reg.RAD_STAT_THROT = 1 then min c 340 else c

/-- The level of a new carrier. -/
def carLevel (s : State) : Nat := min (s.rd Reg.RAD_TXLIM_PCAR) (compCap s)

/-- floor(10 ^ (d / 100)), at most 32 (R347): the largest m with m ^ 100 ≤ 10 ^ d. -/
def carriersFor (d : Nat) : Nat := (List.range 33).foldl (fun m k => if k ^ 100 ≤ 10 ^ d then k else m) 1

/-- MAXCAR (R347); 0 while the transmit chain is off. -/
def maxCar (s : State) : Nat := if s.rd Reg.RAD_STAT_TXON = 1 then carriersFor (compCap s - carLevel s) else 0

/-- The least number of tenths of a decibel by which `n` equal carriers lie below their sum. -/
def carrierStep (n : Nat) : Nat := ((List.range 200).find? fun d => n ^ 100 ≤ 10 ^ d).getD 200

/-- Keep RAD_TXCAP, chain 0's blanking, and, when MAXCAR has fallen below the carriers on air or THROTTLE caps the output, their levels
(R143, R326, R351). -/
def refreshRad (s : State) : State :=
  let r := s.rad
  let n := r.air.length
  let m := maxCar s
  let top := r.air.foldl (fun a c => max a c.level) (0 : Int)
  let cut : Int := max 0 (top - ((compCap s : Int) - carrierStep n))
  let air := if m < n || s.rd Reg.RAD_STAT_THROT = 1 then r.air.map fun c => { c with level := c.level - cut } else r.air
  let blank0 := n != 0 || s.rd Reg.RAD_STAT_CAL = 1
  (s.setRad { r with air := air, blank0 := blank0 }).wrs [(Reg.RAD_TXCAP_ONAIR, n), (Reg.RAD_TXCAP_MAXCAR, m)]

/-! ### Budgets (R362 to R364) -/

/-- The band of a channel. -/
def bandOf (s : State) (ch : Nat) : Option (Nat × Band) :=
  ((sec03 s).bands.zipIdx.find? fun p => decide (p.1.first ≤ ch) && decide (ch ≤ p.1.last)).map fun p => (p.2, p.1)

/-- Carrier time of a band over the bucket `m` and the 59 before it, in µs. -/
def bandUsed (s : State) (b : Band) (m : Nat) : Nat :=
  ((s.rad.used.filter fun u => decide (b.first ≤ u.1) && decide (u.1 ≤ b.last) && decide (u.2.1 ≤ m) && decide (m < u.2.1 + 60)).map
    (·.2.2)).sum

/-- A frame fits its band's budget (R362). -/
def budgetOk (s : State) (r : TxReq) (now : Nat) : Bool :=
  if !regionE s then true
  else match bandOf s r.chan with
    | none => true
    | some (_, b) =>
      let u := bandUsed s b (now / 60000000000) + (r.dur + 999) / 1000
      let full := b.b * 1000000
      if r.cls = .ack then decide (u ≤ full) else decide (u * 100 ≤ full * (100 - b.ackres))

/-- Show the remaining budget of every band, and report one that first falls below 10 % (R363). -/
def refreshBudget (s : State) (now : Nat) : State :=
  if !regionE s then s
  else (sec03 s).bands.zipIdx.foldl (fun t p =>
    let used := bandUsed t p.1 (now / 60000000000)
    let left := p.1.b * 1000000 - used
    let t := t.wrs [(Reg.RAD_BUD_EN p.2, 1), (Reg.RAD_BUD_REM p.2, left / 100000)]
    let low := decide (left * 10 < p.1.b * 1000000)
    if low && !t.rad.low.contains p.2 then
      ((t.setRad { t.rad with low := p.2 :: t.rad.low }).raise Reg.RAD_EVT_BUDLOW).event 6 Ev.BUDGET_LOW 4 p.2 [p.2]
    else if low then t else t.setRad { t.rad with low := t.rad.low.filter (· != p.2) }) s

/-- Enter carrier time of a channel in its bucket. DESIGN CHOICE (log entry 28): a frame counts from its admission. -/
def useTime (s : State) (ch now us : Nat) : State :=
  let m := now / 60000000000
  let old := s.rad.used.filter fun u => decide (m < u.2.1 + 60)
  refreshBudget (s.setRad { s.rad with used := (ch, m, us) :: old }) now

/-! ### The transmit scheduler (R344 to R350) -/

/-- Hand the scheduler a request; answers its identity. -/
def txPut (s : State) (chan : Nat) (cls : TxCls) (earliest latest dur : Nat) (frames : List (Nat × List Byte)) : State × Nat :=
  let n := s.rad.nextId
  let r : TxReq := { id := n, chan := chan, cls := cls, earliest := earliest, latest := latest, dur := dur, frames := frames }
  (s.setRad { s.rad with pend := s.rad.pend ++ [r], nextId := n + 1 }, n)

/-- The order of R346: class, then earlier latest start, then lower channel. -/
def txBefore (a b : TxReq) : Bool :=
  a.cls.rank < b.cls.rank || (a.cls.rank = b.cls.rank && (a.latest < b.latest || (a.latest = b.latest && a.chan < b.chan)))

/-- A pending request ends with a result. -/
def txComplete (s : State) (r : TxReq) (res : TxResult) : State :=
  s.setRad { s.rad with pend := s.rad.pend.filter (·.id != r.id), ended := (r.id, res) :: s.rad.ended }

/-- The procedure step of the scheduler for one pending request. -/
def txStep (s : State) (now : Nat) (r : TxReq) : State :=
  let on := s.rad.air.length
  let acks := (s.rad.air.filter fun c => c.req.cls = .ack).length
  let trains := (s.rad.air.filter fun c => c.req.cls = .train).length
  let m := maxCar s
  let rsv := min (s.rd Reg.RAD_TXLIM_RSVACK) (m / 2)
  if now < r.earliest then s
  else if r.latest < now then (txComplete s r .late).inc Reg.RAD_CNT0_LATE
  else if s.rd Reg.RAD_STAT_SETTLE = 1 || s.rd Reg.RAD_STAT_CAL = 1 then s
  else if s.rd Reg.RAD_STAT_DRAIN = 1 && s.rad.horizon < now + r.dur then s
  else if m ≤ on then s
  else if r.cls != .ack && m - rsv ≤ on - acks then s
  else if r.cls = .train && s.rd Reg.RAD_TXLIM_TRAINMAX ≤ trains then s
  else if s.rad.air.any fun c => c.req.chan = r.chan then s
  else if !masked s r.chan then s
  else if !budgetOk s r now then (txComplete s r .budget).inc Reg.RAD_CNT0_BUDREF
  else
    let s := s.setRad { s.rad with
      pend := s.rad.pend.filter (·.id != r.id), air := s.rad.air ++ [⟨r, now + r.dur, carLevel s, now - txDelay s⟩] }
    refreshRad (useTime s r.chan now ((r.dur + 999) / 1000))

/-- One step of 1 µs over the requests in order (R344 to R350, R354, R356, R362). -/
def schedule (s : State) (now : Nat) : State :=
  (sortBy txBefore s.rad.pend).foldl (fun t r => txStep t now r) (releaseOld03 s)

/-- A carrier leaves the air with a result. -/
def endCarrier (s : State) (id : Nat) (res : TxResult) : State :=
  let deaf := (s.rad.air.filter (·.req.id = id)).foldl (fun m c => KMap.set m c.req.chan (c.stop + 100000)) s.rad.deaf
  refreshRad (s.setRad { s.rad with air := s.rad.air.filter (·.req.id != id), ended := (id, res) :: s.rad.ended, deaf := deaf })

/-- Take back carrier time entered in the bucket of `at_`: its carrier was released before its preamble. -/
def unuseTime (s : State) (ch at_ us now : Nat) : State :=
  refreshBudget (s.setRad { s.rad with used := s.rad.used.erase (ch, at_ / 60000000000, us) }) now

/-- A carrier is released before its preamble, and its request waits again or ends (Channel access). -/
def releaseCarrier (s : State) (c : Carrier) (now : Nat) : State :=
  let s := s.setRad { s.rad with air := s.rad.air.filter (·.req.id != c.req.id) }
  refreshRad (unuseTime s c.req.chan (c.stop - c.req.dur) ((c.req.dur + 999) / 1000) now)

/-! ### Settling and calibration (R352 to R358, R367) -/

/-- Enter the drain: the horizon is the latest end of a carrier on air, or now (R353). -/
def enterDrain (s : State) (now : Nat) : State :=
  let h := s.rad.air.foldl (fun m c => max m c.stop) now
  (s.setRad { s.rad with drainAt := now, horizon := h, calWant := false }).raise Reg.RAD_STAT_DRAIN

/-- Loss of LO lock (R352, R357): every carrier goes, both chains are blanked; a calibration or a drain starts afresh after it. -/
def loUnlock (s : State) : State :=
  let want := s.rd Reg.RAD_STAT_CAL = 1 || s.rd Reg.RAD_STAT_DRAIN = 1 || s.rad.calWant
  let cutIds := s.rad.air.map fun c => (c.req.id, TxResult.cut)
  let s := s.setRad { s.rad with air := [], ended := cutIds ++ s.rad.ended, blankAll := true, calWant := want }
  let s := ((s.clr Reg.RAD_STAT_CAL).clr Reg.RAD_STAT_DRAIN).raise Reg.RAD_STAT_SETTLE
  (refreshRad (s.raise Reg.RAD_EVT_LOUNLK)).event 6 Ev.LO_UNLOCK 4 0 []

/-- LO_SETTLED (R352, R357, R367): a calibration that waits starts its drain. -/
def execLoSettled (now : Nat) (s : State) : Host.Outcome State Fault Refusal :=
  done s <|
    if !s.runs 4 || s.rd Reg.RAD_STAT_SETTLE = 0 then s
    else
      let s := (s.clr Reg.RAD_STAT_SETTLE).setRad { s.rad with blankAll := false }
      if s.rad.calWant || s.rad.calTag.isSome then enterDrain s now else s

/-- CALIBRATION_DUE (R353, R357): a period has passed since the end of the last calibration. -/
def execCalibrationDue (now : Nat) (s : State) : Host.Outcome State Fault Refusal :=
  done s <|
    if !s.runs 4 || now < s.rad.calFrom + s.rd Reg.RAD_CAL_CALPER * 1000000000 then s
    else if s.rd Reg.RAD_STAT_SETTLE = 1 then s.setRad { s.rad with calWant := true }
    else if s.rd Reg.RAD_STAT_DRAIN = 1 || s.rd Reg.RAD_STAT_CAL = 1 then s
    else enterDrain s now

/-- CAL_NOW (R353, R367). -/
def execCalNow (tag : Nat) (s : State) : Host.Outcome State Fault Refusal :=
  done s <| command s 0x0403 tag fun s =>
    if s.rd Reg.RAD_STAT_SETTLE = 1 || s.rd Reg.RAD_STAT_DRAIN = 1 || s.rd Reg.RAD_STAT_CAL = 1 || s.rad.calTag.isSome then
      deny s St.BUSY
    else
      let s := s.setRad { s.rad with calTag := some tag }
      later (if s.runs 4 then enterDrain s s.now else s)

/-- CALIBRATION_START (R355): at the horizon. It lasts 180 µs. -/
def execCalibrationStart (now : Nat) (s : State) : Host.Outcome State Fault Refusal :=
  done s <|
    if s.rd Reg.RAD_STAT_DRAIN = 0 || now < s.rad.horizon || !s.rad.air.isEmpty then s
    else
      let s := ((s.setRad { s.rad with calAt := now }).clr Reg.RAD_STAT_DRAIN).raise Reg.RAD_STAT_CAL
      refreshRad (s.wr Reg.RAD_CAL_LASTDRN (min 0xFFFF ((now - s.rad.drainAt) / 1000000)))

/-- The field that shows chain `c` in service. -/
def chainOk (c : Nat) : Fld := if c = 0 then Reg.RAD_STAT_CH0OK else Reg.RAD_STAT_CH1OK

/-- A chain fails (R330). -/
def failChain (s : State) (c : Nat) : State :=
  if s.rd (chainOk c) = 0 then s
  else ((s.clr (chainOk c)).raise Reg.RAD_EVT_CHAINFAIL).event 6 Ev.RX_CHAIN_FAIL 4 c [c]

/-- One chain's part of a calibration (R331, R358): three failures in a row fail the chain. -/
def calChain (s : State) (c : Nat) (ok : Bool) : State :=
  if ok then (s.setRad { s.rad with calBad := s.rad.calBad.erase c }).raise (chainOk c)
  else
    let n := s.rad.calBad.getD c 0 + 1
    let s := s.setRad { s.rad with calBad := s.rad.calBad.set c n }
    let s := (s.raise Reg.RAD_EVT_CALFAIL).event 6 Ev.CAL_FAIL 4 c [c]
    if 3 ≤ n then failChain s c else s

/-- CALIBRATION_END (R331, R355, R358, R367). -/
def execCalibrationEnd (now : Nat) (ok0 ok1 : Bool) (s : State) : Host.Outcome State Fault Refusal :=
  done s <|
    if s.rd Reg.RAD_STAT_CAL = 0 || now < s.rad.calAt + 180000 then s
    else
      let s := calChain (calChain (s.clr Reg.RAD_STAT_CAL) 0 ok0) 1 ok1
      let tag := s.rad.calTag
      let s := refreshRad (s.setRad { s.rad with lastCal := now, calFrom := now, calTag := none })
      match tag with
      | some t => s.respond 0x0403 t 0 []
      | none => s

/-- RX_CHAIN_FAIL (R330): over-range for 10 ms with no carrier on air. -/
def execRxChainFail (chain : Nat) (s : State) : Host.Outcome State Fault Refusal :=
  done s <| if 1 < chain || !s.runs 4 || !s.rad.air.isEmpty then s else failChain s chain

/-! ### Engines (R332 to R343) -/

/-- The spares of cluster `k` that are neither failed nor bound. -/
def freeSpares (s : State) (k : Nat) : List Nat :=
  [34 * k + 32, 34 * k + 33].filter fun e => !s.rad.failed.contains e && !s.rad.bound.has e

/-- The class 0 margin: the fewest spares left in any one cluster. -/
def engineMargin (s : State) : Nat := (List.range 16).foldl (fun m k => min m (freeSpares s k).length) 2

/-- Show a cluster's spares in PACK_CLk. -/
def refreshPack (s : State) (k : Nat) : State :=
  let b (e : Nat) : Option Nat := s.rad.bound.get? (34 * k + e)
  s.wrs [(Reg.PACK_CL_SPLEFT k, (freeSpares s k).length), (Reg.PACK_CL_S0V k, b2n (b 32).isSome), (Reg.PACK_CL_S0SLOT k, (b 32).getD 0),
    (Reg.PACK_CL_S1V k, b2n (b 33).isSome), (Reg.PACK_CL_S1SLOT k, (b 33).getD 0)]

/-- A channel is dark. -/
def isDark (s : State) (ch : Nat) : Bool := bit (s.rd (Reg.PACK_DARK_DARK (ch / 32))) (ch % 32)

/-- Every channel of the plan is bound to a running engine (R151). -/
def allBound (s : State) : Bool := s.rad.grid && (List.range 512).all fun ch => !(bit (sec03 s).mask ch && isDark s ch)

/-- Mark a channel dark (R338). -/
def goDark (s : State) (ch : Nat) : State :=
  if isDark s ch then s
  else
    let f := Reg.PACK_DARK_DARK (ch / 32)
    (s.wr f (s.rd f ||| one (ch % 32))).event 6 Ev.CHANNEL_DARK 4 ch [ch]

/-- The slot that engine `e` serves, if it is bound. -/
def slotOf (s : State) (e : Nat) : Option Nat :=
  if e % 34 < 32 then (if s.rad.failed.contains e then none else some (e % 34)) else s.rad.bound.get? e

/-- ENGINE_FAILURE (R334, R338): a bound engine fails; a spare takes its slot, or its channel goes dark. -/
def execEngineFailure (e reason : Nat) (s : State) : Host.Outcome State Fault Refusal :=
  done s <|
    let k := e / 34
    match slotOf s e with
    | none => s
    | some slot =>
      let ch := 32 * k + slot
      if 543 < e || !s.runs 4 || !s.rad.grid || isDark s ch then s
      else match freeSpares s k with
        | [] => goDark (s.setRad { s.rad with dead := s.rad.dead ++ [e] }) ch
        | sp :: _ =>
          let s1 := s.setRad { s.rad with failed := s.rad.failed ++ [e], bound := (s.rad.bound.erase e).set sp slot }
          let t := subst s 0 e sp (engineMargin s1) reason ch
          refreshPack (t.setRad s1.rad) k

/-- SPARE_ENGINE_FAILURE (R335): an idle spare fails its self-test. -/
def execSpareEngineFailure (e reason : Nat) (s : State) : Host.Outcome State Fault Refusal :=
  done s <|
    let k := e / 34
    if 543 < e || !s.runs 4 || !(freeSpares s k).contains e then s
    else
      let r := { s.rad with failed := s.rad.failed ++ [e] }
      let t := subst s 0 e 0xFFFF (engineMargin (s.setRad r)) reason 0
      refreshPack (t.setRad r) k

/-- CCM_SELF_TEST (R341 to R343). -/
def execCcmSelfTest (k : Nat) (ok : Bool) (s : State) : Host.Outcome State Fault Refusal :=
  done s <|
    if 15 < k || ok || !s.runs 4 || s.rd (Reg.PACK_CL_CCMFAIL k) = 1 then s
    else
      let k2 := k ^^^ 1
      let s := ((s.raise (Reg.PACK_CL_CCMFAIL k)).raise (Reg.PACK_CL_CCMSHR k)).raise (Reg.PACK_CL_CCMSHR k2)
      let s := s.event 6 Ev.CCM_FAIL 4 k [k]
      if s.rd (Reg.PACK_CL_CCMFAIL k2) = 1 then
        (List.range 64).foldl (fun t i => goDark t (32 * (k / 2 * 2) + i)) s
      else s

/-! ### Start and apply (R5, R6, R336, R340, R364) -/

/-- The grid of section 0x03 is not the fused one (R5, R6). -/
def gridBad (s : State) : Bool := s.cfg.secs.s03.isSome && (sec03 s).region != s.fuses.region

/-- The record of a grid mismatch (R6). -/
def gridRecord (s : State) : State :=
  if gridBad s then s.event 6 Ev.GRID_MISMATCH 4 0 [(sec03 s).region, s.fuses.region] else s

/-- Load section 0x03: limits, budgets, and whether the grid is the fused one; a mismatch binds no engine, keeps the transmit chain
off and is recorded. -/
def loadRadio (s : State) : State :=
  let c := sec03 s
  let bad := gridBad s
  let grid := s.cfg.secs.s03.isSome && !bad
  let s := s.wrs [(Reg.RAD_TXLIM_RSVACK, c.rsvAck), (Reg.RAD_TXLIM_TRAINMAX, c.trainMax), (Reg.RAD_TXLIM_CCAP, c.ccap),
    (Reg.RAD_TXLIM_PCAR, c.pcar), (Reg.RAD_CAL_CALPER, c.calPer), (Reg.RAD_STAT_GRIDBAD, b2n bad), (Reg.RAD_STAT_TXON, b2n grid),
    (Reg.RAD_STAT_THROT, s.rd Reg.PWR_STAT_THROTTLE)]
  let s := (List.range 8).foldl (fun t n => t.wrs [(Reg.RAD_BUD_EN n, 0), (Reg.RAD_BUD_REM n, 0)]) s
  let s := gridRecord s
  refreshRad (refreshBudget (s.setRad { s.rad with grid := grid }) s.now)

/-- The engine that fills the slot of a channel: a bound spare, or the slot's own engine unless it is mapped out (R332, R336). -/
def engineOf (s : State) (ch : Nat) : Option Nat :=
  match s.rad.bound.find? fun b => b.1 / 34 = ch / 32 && b.2 = ch % 32 with
  | some b => some b.1
  | none =>
    let e := 34 * (ch / 32) + ch % 32
    if s.rad.failed.contains e then none else some e

/-- A channel has no engine at a start: its engine is mapped out, or failed with no spare left (R340). DEDUCED (log entry 94): an engine
that has failed is not free for its slot. -/
def noEngine (s : State) (ch : Nat) : Bool :=
  match engineOf s ch with
  | some e => s.rad.dead.contains e
  | none => true

/-- Start the radio domain: the LO settles, both chains are in service, engines with a SUBST record stay mapped out, and a slot with no
engine left is dark. -/
def startRadio (s : State) : State :=
  let s := (s.raise Reg.RAD_STAT_CH0OK).raise Reg.RAD_STAT_CH1OK
  let s := s.setRad { s.rad with blankAll := true, calFrom := s.now }
  let s := loadRadio (s.raise Reg.RAD_STAT_SETTLE)
  let s := (List.range 16).foldl refreshPack s
  ((List.range 512).filter (noEngine s)).foldl goDark s

/-! ### Commands and counters -/

/-- RAD_STATUS (R365, Table RAD-4). -/
def execRadStatus (tag : Nat) (s : State) : Host.Outcome State Fault Refusal :=
  done s <| command s 0x0401 tag fun s =>
    let stat := [Reg.RAD_STAT_GRIDBAD, Reg.RAD_STAT_THROT, Reg.RAD_STAT_SETTLE, Reg.RAD_STAT_CAL, Reg.RAD_STAT_DRAIN,
      Reg.RAD_STAT_CH1OK, Reg.RAD_STAT_CH0OK, Reg.RAD_STAT_TXON].foldl (fun a f => a + s.rd f * 2 ^ f.lo) 0
    let dark := ((List.range 16).map fun k => popcount 32 (s.rd (Reg.PACK_DARK_DARK k))).sum
    let bud (n : Nat) : Nat := if regionE s && s.rd (Reg.RAD_BUD_EN n) = 1 then s.rd (Reg.RAD_BUD_REM n) else 0xFFFFFFFF
    okay s (le 1 s.fuses.region ++ le 1 stat ++ le 1 (maxCar s) ++ le 1 s.rad.air.length ++ le 2 dark ++ le 1 (s.margin 0) ++ zeros 1 ++
      le 8 s.rad.lastCal ++ (List.range 8).flatMap fun n => le 4 (bud n))

/-- The u16 of a channel in CHAN_STATE (R366). -/
def chanWord (s : State) (ch : Nat) : Nat :=
  let k := ch / 32
  let st := if !s.rad.grid then 3 else if isDark s ch then 1 else if bit (sec03 s).mask ch then 0 else 2
  let e := ((s.rad.bound.find? fun b => b.1 / 34 = k && b.2 = ch % 32).map fun b => b.1 % 34).getD (ch % 32)
  st * 2 ^ 14 + e * 2 ^ 8 + s.rad.rssi.getD ch 0 % 256

/-- CHAN_STATE (R366). -/
def execChanState (tag first count : Nat) (s : State) : Host.Outcome State Fault Refusal :=
  done s <| command s 0x0402 tag fun s =>
    if 511 < first || count = 0 || 120 < count || 512 < first + count then deny s St.BAD_PARAM
    else okay s ((List.range count).flatMap fun i => le 2 (chanWord s (first + i)))

/-- The fields of RAD_CNT0 and RAD_CNT1. -/
def radCnt (k : Nat) : List Fld :=
  match k with
  | 0 => [Reg.RAD_CNT0_LATE, Reg.RAD_CNT0_BUDREF]
  | 1 => [Reg.RAD_CNT1_LBTBUSY, Reg.RAD_CNT1_AFA]
  | _ => []

/-- RAD_CNT_READ (R207): `upd` is what the hardware counts in the same cycle. -/
def execRadCntRead (k : Nat) (upd : List Nat) (s : State) : Host.Outcome State Fault Refusal :=
  done s <| if 1 < k then s else hostRead s 4 fun s => rcReadAll s (radCnt k) upd

/-- The fields of PACK_AIR0 to PACK_AIR4. -/
def airCnt (k : Nat) : List Fld :=
  match k with
  | 0 => [Reg.PACK_AIR0_FCSERR, Reg.PACK_AIR0_HDRERR]
  | 1 => [Reg.PACK_AIR1_VERERR, Reg.PACK_AIR1_UNROST]
  | 2 => [Reg.PACK_AIR2_MICERR, Reg.PACK_AIR2_REPLAY]
  | 3 => [Reg.PACK_AIR3_DUP, Reg.PACK_AIR3_NOACK]
  | 4 => [Reg.PACK_AIR4_SYNCLOST, Reg.PACK_AIR4_TRAINS]
  | _ => []

/-- PACK_AIR_READ (R207). -/
def execPackAirRead (k : Nat) (upd : List Nat) (s : State) : Host.Outcome State Fault Refusal :=
  done s <| if 4 < k then s else hostRead s 5 fun s => rcReadAll s (airCnt k) upd

end Sys2Proof.Machine
end

