-- ==== Sys2Proof/Machine/Segment.lean ====
section
/-! DEFINITION. The segment as the module keeps it: durations on the air, channels and versions of a node, its queue of downlink
frames, and the reports about it (07_air_protocol.md, 08_lantern_network.md). -/
namespace Sys2Proof.Machine

/-- A node of the roster. -/
def State.node (s : State) (ln : Nat) : Option Node := s.lnt.nodes.get? ln

/-- Change a node. -/
def State.modNode (s : State) (ln : Nat) (f : Node → Node) : State :=
  { s with lnt := { s.lnt with nodes := s.lnt.nodes.modify ln f } }

/-- Section 0x04 in force, or what a module without it runs on (the defaults of Table NET-2). -/
def sec04 (s : State) : Sec04 :=
  s.cfg.secs.s04.getD ⟨[], [], if regionE s then 4000 else 1000, if regionE s then 1000 else 250, 2, 1, 8⟩

/-! ### Durations -/

/-- Byte times of Table AIR-1 in thirds of a nanosecond: preamble and sync word, PHR and PSDU. -/
def syncByte (s : State) : Nat := if regionE s then 10000000 else 2500000
@[inherit_doc syncByte] def dataByte (s : State) : Nat := if regionE s then 5000000 else 2500000

/-- D = (P + 4) × t_S + (2 + N) × t_B, rounded up to a nanosecond. -/
def frameNs (s : State) (p n : Nat) : Nat := ((p + 4) * syncByte s + (2 + n) * dataByte s + 2) / 3

/-- The duration of an ACK of the module, and of a node (Table AIR-3). -/
def ackNs (s : State) (node : Bool) : Nat := frameNs s 4 (if node then 9 else 5)

/-- The sniff duration d_sniff. -/
def sniffNs (s : State) : Nat := if regionE s then 6000000 else 2500000

/-- Ts of a sniff code from 1 on. -/
def tsNs (c : Nat) : Nat := 250000000 * 2 ^ (c - 1)

/-- The sniff phase of R454. -/
def phaseNs (ln c : Nat) : Nat := ln % 1000 * tsNs c / 1000

/-- RXWIN (R386). -/
def rxwinNs (s : State) : Nat := if regionE s then 600000000 else 150000000

/-- TIMETOL in ns. -/
def tolNs (s : State) : Nat := (sec03 s).timeTol * 1000000

/-- The listen time of a CCA in ns. -/
def listenNs (s : State) : Nat := (sec03 s).ccaLis * 1000

/-! ### Channels and versions -/

/-- The receive channel (R449, R450). -/
def Node.rxch (d : Node) : Nat := if d.onAlt then d.alt else d.home

/-- The module may transmit on a channel (R339, R415). -/
def mayUse (s : State) (ch : Nat) : Bool := masked s ch && !isDark s ch

/-- The channel for the next frame to a node: its receive channel, or the other one of home and alternate (R339, R415); after R361
the alternate one. -/
def pickChan (s : State) (d : Node) (altNext : Bool) : Option Nat :=
  let other := if d.onAlt then d.home else d.alt
  ((if altNext then [d.alt] else []) ++ [d.rxch, other]).find? (mayUse s)

/-- The highest air version of the running billet. -/
def airMax (s : State) : Nat :=
  match s.upd.run with
  | some b => clamp 1 2 b.airmax
  | none => 2

/-- The highest version a node speaks; 1 before any bark (R964). -/
def pvOf (s : State) (ln : Nat) : Nat := ((s.node ln).map (·.pvmax)).getD 1

/-- The version of a unicast frame to a node: the lowest among the module, the node and the relays of its route (R435, R963). -/
def uniVer (s : State) (ln : Nat) : Nat :=
  match s.node ln with
  | none => 1
  | some d => (ln :: d.rcd.relays).foldl (fun m x => min m (pvOf s x)) (airMax s)

/-- Nodes that receive continuously and listen to a howl channel. -/
def howlers (s : State) : List (Nat × Nat) :=
  s.lnt.nodes.filterMap fun p => if p.2.tsc = 0 then p.2.howl.map fun c => (p.1, c) else none

/-- The version of a howl on the channels `chs` (R963). -/
def howlVer (s : State) (chs : List Nat) : Nat :=
  ((howlers s).filter fun p => chs.contains p.2).foldl (fun m p => min m (pvOf s p.1)) (airMax s)

/-- The length of a PSDU of `n` bytes with a 2-byte FCS: 2 more in PVER 2 above 127 bytes (R375). -/
def psduLen (ver n : Nat) : Nat := if ver = 2 && 127 < n then n + 2 else n

/-- The length of the PSDU of a downlink frame: header with security, route header, payload, MIC, FCS. -/
def dlLen (s : State) (ln : Nat) (d : Node) (f : DlFrame) : Nat :=
  if !f.sent.isEmpty then f.sent.length else
  let route := if d.rcd.hops = 0 then 0 else 1 + 3 * d.rcd.hops
  psduLen (if f.seq.isSome then f.ver else uniVer s ln) (14 + route + (if f.cmd then 1 else 2) + f.body.length + 8 + 2)

/-! ### Reports -/

/-- The body of a report of range 0x05: LN, a zero, the time, and the rest. -/
def nodeBody (ln t : Nat) (r : List Byte) : List Byte := le 3 ln ++ zeros 1 ++ le 8 t ++ r

/-- NODE_CHANGE (Table NET-9). -/
def nodeChange (s : State) (ln what chan t : Nat) : State := s.report 0x0504 1 (nodeBody ln t (le 1 what ++ le 2 chan))

/-- Mark a node unreachable (R492). -/
def markUnreach (s : State) (ln t : Nat) : State :=
  match s.node ln with
  | none => s
  | some d =>
    if d.unreach then s
    else nodeChange ((s.modNode ln fun d => { d with unreach := true }).raise Reg.LNT_EVT_UNREACH) ln 3 d.rxch t

/-- REKEY_DUE of a node: `dir` 0 sent, 1 accepted (R431, R905). -/
def rekeyDue (s : State) (ln dir t : Nat) : State :=
  match s.node ln with
  | none => s
  | some d =>
    if d.rekey then s
    else
      let s := (s.modNode ln fun d => { d with rekey := true }).raise Reg.KEY_EVT_REKEY
      nodeChange (s.event 3 Ev.REKEY_DUE 1 0 [ln, dir]) ln 7 d.rxch t

/-! ### The queue of a node (R489) -/

/-- Place a frame behind the one in service, those of R482 and R965 ahead of the others. -/
def insertFrame (f : DlFrame) : List DlFrame → List DlFrame
  | [] => [f]
  | g :: l => if g.stage = .idle && !g.aired && f.prio < g.prio then f :: g :: l else g :: insertFrame f l

/-- Queue a frame for a node. -/
def enqueue (s : State) (ln : Nat) (f : DlFrame) : State := s.modNode ln fun d => { d with q := insertFrame f d.q }

/-- The next HTAG of a node, from 1 to 255, with no unanswered command (R477); 0 when every one has. -/
def nextHtag (d : Node) : Nat :=
  (((List.range 255).map fun i => (d.htag + i) % 255 + 1).find? fun h => !d.tags.has h).getD 0

/-- Queue a DATA frame for a node: with an HTAG for a host command, for the query of R542 and on a route (R457). -/
def queueData (s : State) (ln : Nat) (f : DlFrame) : State :=
  match s.node ln with
  | none => s
  | some d =>
    let host : Option Nat := match f.src with
      | .host t => some t
      | _ => none
    if host.isSome || f.src = .query || d.rcd.hops != 0 then
      let h := nextHtag d
      let d' := if h = 0 then d else { d with htag := h, tags := d.tags.set h host }
      enqueue (s.modNode ln fun _ => d') ln { f with htag := h }
    else enqueue s ln f

/-- Queue a MAC command of Table AIR-13. -/
def queueCmd (s : State) (ln op prio : Nat) (src : DlSrc) (body : List Byte) : State :=
  enqueue s ln { src := src, cmd := true, op := op, body := body, prio := prio }

/-- Queue a TIME command unless one waits (R398). Its TAI is set when the frame goes on air. -/
def queueTime (s : State) (ln : Nat) : State :=
  match s.node ln with
  | none => s
  | some d =>
    if d.q.any fun f => f.cmd && f.op = 1 && !f.aired then s
    else queueCmd s ln 1 2 .module (le 8 0 ++ le 2 (s.rd Reg.TB_QUAL_UTCOFF) ++ le 1 (leapNow s))

/-- Queue a PVER command where the version of a node's scope differs from the one it acknowledged, ahead of every other frame
(R434, R965). -/
def queuePver (s : State) (ln : Nat) : State :=
  match s.node ln with
  | none => s
  | some d =>
    let v := uniVer s ln
    let q := d.q.filter fun f => !(f.cmd && f.op = 5 && f.stage = .idle && !f.aired)
    let s := s.modNode ln fun d => { d with q := q }
    if v = d.pver then s else queueCmd s ln 5 0 .module (le 1 v)

/-- Keep the versions of every scope, and the mark of R966 on nodes whose route needs PVER 2. -/
def refreshVers (s : State) (t : Nat) : State :=
  s.lnt.nodes.keys.foldl (fun s ln =>
    let s := queuePver s ln
    match s.node ln with
    | none => s
    | some d =>
      let bad := decide (3 < d.rcd.hops) && (ln :: d.rcd.relays).any fun x => pvOf s x < 2
      if bad = d.noRoute then s
      else nodeChange (s.modNode ln fun d => { d with noRoute := bad }) ln (if bad then 3 else 4) d.rxch t) s

/-! ### Configuration of nodes (R461, R462, R482) -/

/-- The neighbours of relay `r`: on every route through it, the next receiver each way that is a node. -/
def neighbours (recs : List RosterRec) (r : Nat) : List Nat :=
  (recs.flatMap fun x =>
    let path := x.relays ++ [x.ln]
    match path.findIdx? (· = r) with
    | some i => if i < x.relays.length then (path.drop (i + 1)).take 1 ++ (if i = 0 then [] else (path.drop (i - 1)).take 1) else []
    | none => []).eraseDups

/-- The roster. -/
def roster (s : State) : List RosterRec := s.lnt.nodes.vals.map (·.rcd)

/-- The bodies of a relay's NEIGH commands: entries in rising LN, 32 a command. -/
def neighBodies (s : State) (ln : Nat) : List (List Byte) :=
  let l := sortBy (fun a b => decide (a < b)) (neighbours (roster s) ln)
  let ent (x : Nat) : List Byte := le 3 x ++ le 2 (((s.node x).map (·.rxch)).getD 0xFFFF)
  if l.isEmpty then []
  else
    let one (i : Nat) : List (List Byte) :=
      let c := (l.drop (32 * i)).take 32
      if c.isEmpty then [] else [le 1 (32 * i) ++ le 1 c.length ++ le 1 (b2n (i = 0)) ++ c.flatMap ent]
    one 0 ++ one 1

/-- The commands of one kind of R482 (or SNIFF) that a node's record and the network parameters require, as (CMD, OP, BODY). ACT is
the present time, so that each applies when the node accepts it. -/
def cfgCmds (s : State) (ln kind : Nat) : List (Bool × Nat × List Byte) :=
  match s.node ln with
  | none => []
  | some d =>
    let c := sec04 s
    let r := d.rcd
    let act := le 6 (s.now / 1000)
    match kind with
    | 0 => [(false, 0x20, le 2 r.home ++ le 2 r.alt ++ le 2 ((c.hchan[r.howlix]?).getD 0xFFFF) ++ le 1 r.rchs.length ++
        (padTo 4 0xFFFF r.rchs).flatMap (le 2) ++ act)]
    | 1 =>
      let parent := (r.relays.getLast?).bind s.node
      [(false, 0x21, le 2 ((parent.map (·.rxch)).getD d.rxch) ++ le 1 r.hops ++ r.relays.reverse.flatMap (le 3))]
    | 2 => (neighBodies s ln).map fun b => (false, 0x22, b)
    | 3 => [(false, 0x23, le 2 c.hper ++ le 2 c.hwin ++ le 1 c.ksup ++ le 1 (b2n r.relay))]
    | 4 =>
      let k := (((sec03 s).gkeys.find? fun g => g.1 = c.hkey).bind fun g => s.key.slots.get? g.2)
      match k with
      | some k => [(false, 0x24, le 1 c.hkey ++ le 2 k.ver ++ act ++ le 16 k.key)]
      | none => []
    | _ => [(true, 2, le 1 r.tsc ++ le 4 (if r.tsc = 0 then 0 else phaseNs ln r.tsc / 1000) ++ act)]

/-- The kinds a record requires when it is new: CHANS, ROUTE on a route, NEIGH for a relay, NETCFG and the group key. -/
def requiredKinds (s : State) (r : RosterRec) : List Nat :=
  [0] ++ (if r.hops = 0 then [] else [1]) ++ (if (neighbours (roster s) r.ln).isEmpty then [] else [2]) ++ [3] ++
    (if ((sec03 s).gkeys.any fun g => g.1 = (sec04 s).hkey) then [4] else [])

/-- Mark a kind as not acknowledged by a node. -/
def addDue (s : State) (ln kind : Nat) : State :=
  s.modNode ln fun d => if d.due.contains kind then d else { d with due := insertBy (fun a b => decide (a < b)) kind d.due }

/-- At a contact, queue what a node has not acknowledged, in place of older frames of the same kinds (R482). -/
def queueDue (s : State) (ln : Nat) : State :=
  match s.node ln with
  | none => s
  | some d =>
    let waits (k : Nat) : Bool := d.q.any fun f => f.src = .cfg k && (f.stage != .idle || f.aired)
    (d.due.filter fun k => !waits k).foldl (fun s k =>
      let s := s.modNode ln fun d => { d with q := d.q.filter (·.src != .cfg k) }
      (cfgCmds s ln k).foldl (fun s c =>
        let f : DlFrame := { src := .cfg k, cmd := c.1, op := c.2.1, body := c.2.2, prio := 1 }
        if c.1 then enqueue s ln f else queueData s ln f) s) s

/-- A node's receive channel has changed: its relays get a fresh table and its children a new route (R461, R462). -/
def chanMoved (s : State) (x : Nat) : State :=
  let s := ((roster s).filter fun r => r.relays.getLast? = some x).foldl (fun s r => addDue s r.ln 1) s
  let rs := (roster s).filter fun r => r.relay && (neighbours (roster s) r.ln).contains x
  rs.foldl (fun s r => addDue s r.ln 2) s

end Sys2Proof.Machine
end

