-- ==== Sys2Proof/Machine/Keys.lean ====
section
/-! DEFINITION. Keys, the chuck and tamper: requests, key update messages, zeroise, and the shared crypto engines
(15_security.md). -/
namespace Sys2Proof.Machine

/-- Change the key unit. -/
def State.setKey (s : State) (k : Keys) : State := { s with key := k }

/-! ### Derived values (R885, Table KEY-2) -/

/-- A derivation from the burl. -/
def fromBurl (s : State) (label : String) (ctx : List Byte) (bits : Nat) : Nat := fromBe (kdf (be 32 s.fuses.burl) (ascii label) ctx bits)

/-- The unit ID. -/
def unitIdOf (s : State) : Nat := fromBurl s "GWB-UID" [] 128

/-- The KEK, while the key unit holds it. -/
def kekOf (s : State) : Option Nat := if s.key.kek then some (fromBurl s "GWB-KEK" [] 256) else none

/-- The store key of the generation in force, while the key unit holds the burl. -/
def storeKey (s : State) : Option Nat := if s.key.burl then some (fromBurl s "GWB-STORE" (be 4 s.key.gen) 256) else none

/-! ### Requests (R887 to R890) -/

/-- KEY_REQUEST: `dom` is the requester's bit of DMASK. A refused request is reported as KEY_BLOCKED. -/
def execKeyRequest (dom engine slot alg : Nat) (use : KeyUse) (s : State) : Host.Outcome State Fault Refusal :=
  let _ := engine
  done s <|
    let (s, ok) := keyServe s dom slot alg use
    arcKey (s.setKey { s.key with refused := if ok then [] else [(dom, slot)] })

/-! ### Engines (R913 to R921) -/

/-- Messages that hold a context of an engine. -/
def CryEng.ctx (g : CryEng) : Nat :=
  ((g.rt ++ g.bulk).filter (·.started)).length + (if g.cur.isSome then 1 else 0)

/-- Bulk messages that hold a context. -/
def CryEng.bulkCtx (g : CryEng) : Nat :=
  (g.bulk.filter (·.started)).length + (match g.cur with
    | some j => if j.rt then 0 else 1
    | none => 0)

/-- Pending pieces of a class, the running message's among them. -/
def CryEng.pend (g : CryEng) (rt : Bool) : Nat :=
  ((if rt then g.rt else g.bulk).map (·.pieces)).sum + (match g.cur with
    | some j => if j.rt = rt then j.pieces else 0
    | none => 0)

/-- The message that an idle engine runs next: the first RT message that may run, else the first bulk one (R918, R919). -/
def CryEng.pick (g : CryEng) : CryEng :=
  if g.cur.isSome then g
  else match g.rt.find? fun j => j.started || decide (g.ctx < 4) with
    | some j => { g with rt := g.rt.filter fun x => x.id != j.id, cur := some { j with started := true } }
    | none =>
      match g.bulk.find? fun j => j.started || (decide (g.ctx < 4) && decide (g.bulkCtx < 3)) with
      | some j => { g with bulk := g.bulk.filter fun x => x.id != j.id, cur := some { j with started := true } }
      | none => g

/-- A shared engine. -/
def State.eng (s : State) (e : Nat) : CryEng := s.key.engs.getD e {}

/-- Change a shared engine. -/
def State.setEng (s : State) (e : Nat) (g : CryEng) : State := s.setKey { s.key with engs := s.key.engs.set e g }

/-- Note how messages ended; the last 64 ends are kept. -/
def jobsEnd (s : State) (l : List CryEnd) : State := s.setKey { s.key with ended := (l ++ s.key.ended).take 64 }

/-- The engine of a new message: the fewest pending pieces of its class, the lower number on a tie (R917). -/
def engineFor (s : State) (rt : Bool) : Nat :=
  (List.range 4).foldl (fun b e => if (s.eng e).pend rt < (s.eng b).pend rt then e else b) 0

/-- CRYPTO_JOB_SUBMIT (R914, R917, R918): a message whose slot is not valid, or is blocked by the latch, is refused. -/
def execCryptoJobSubmit (rt : Bool) (pieces : Nat) (slot : Option Nat) (s : State) : Host.Outcome State Fault Refusal :=
  done s <|
    if !s.runs 1 || pieces = 0 then s
    else
      let id := s.key.nextJob + 1
      let s := s.setKey { s.key with nextJob := id }
      let bad := match slot with
        | some k => s.key.latch || !s.key.slots.has k
        | none => false
      if bad then jobsEnd s [⟨id, 1⟩]
      else
        let e := engineFor s rt
        let j : CryJob := ⟨id, rt, pieces, pieces, false, slot, s.rd Reg.SUP_FEPOCH_FEPOCH, 0⟩
        let g := s.eng e
        let g := if rt then { g with rt := g.rt ++ [j] } else { g with bulk := g.bulk ++ [j] }
        s.setEng e g.pick

/-- The place of a message that has pieces left: one of at most 16 pieces runs on, a longer one goes to the back (R920). -/
def requeue (g : CryEng) (j : CryJob) : CryEng :=
  let put (l : List CryJob) : List CryJob := if j.total ≤ 16 then j :: l else l ++ [j]
  if j.rt then { g with rt := put g.rt, cur := none } else { g with bulk := put g.bulk, cur := none }

/-- Mark the messages of every engine that satisfy `p` for an end at their next piece boundary. -/
def markJobs (s : State) (p : CryJob → Bool) (m : Nat) : State :=
  let f (j : CryJob) : CryJob := if p j && j.mark = 0 then { j with mark := m } else j
  s.setKey { s.key with engs := s.key.engs.map fun e =>
    (e.1, { rt := e.2.rt.map f, bulk := e.2.bulk.map f, cur := e.2.cur.map f }) }

/-! ### Key update messages (R894 to R901) -/

/-- The owner's values: of a slot, or of the owner record while the slots are cleared (R894). -/
def ownerVals (s : State) : List Nat :=
  (List.range 2).filterMap fun k =>
    match s.key.slots.get? k with
    | some e => some e.key
    | none => s.key.owner.get? k

/-- One of the candidate keys of a signature is an owner key. -/
def ownerSigned (s : State) (signers : List Nat) : Bool := signers.any fun h => (ownerVals s).contains h

/-- The slot 0 value that a message writes. -/
def slot0Of (m : KeyMsg) : Option Nat := (m.ents.find? fun e => e.slot = 0 && e.op = .write).map (·.key)

/-- The slots an owner message writes. -/
def ownerSlots (m : KeyMsg) : List Nat := (m.ents.filter fun e => e.slot < 2).map (·.slot)

/-- Check 4 of Table KEY-6: the status on failure. -/
def sigCheck (s : State) (m : KeyMsg) : Option Nat :=
  if m.claim then
    if !s.key.owner.isEmpty then some 0x85
    else match slot0Of m with
      | some v => if (m.ents.all fun e => e.slot < 2) && m.signers.contains v then none else some 0x83
      | none => some 0x83
  else if ownerSigned s m.signers then none
  else some 0x83

/-- An entry is valid (check 5, R896). -/
def entOkKey (s : State) (e : KeyEnt) : Bool :=
  let attrs := e.usage < 64 && 1 ≤ e.alg && e.alg ≤ 4 && e.dmask < 32
  e.slot < 256 && e.resvOk &&
  match e.op with
  | .write => attrs && (2 ≤ e.slot || (e.alg = 4 && e.usage = 8 && e.dmask = 0))
  | .attr => attrs && 2 ≤ e.slot && s.key.slots.has e.slot
  | .clear => 2 ≤ e.slot && s.key.slots.has e.slot
  | .reserved => false

/-- No slot twice. -/
def slotsDistinct : List Nat → Bool
  | [] => true
  | a :: l => !l.contains a && slotsDistinct l

/-- The checks of a message, in the order of Table KEY-6, and R911: the status of the first failure. -/
def keyCheck (s : State) (m : KeyMsg) : Option Nat :=
  if !m.formOk || m.ents.isEmpty || 16 < m.ents.length then some 0x80
  else if m.unit != s.fuses.unitId then some 0x81
  else if m.ucnt ≤ s.key.ucnt then some 0x82
  else match sigCheck s m with
    | some st => some st
    | none =>
      if !slotsDistinct (m.ents.map (·.slot)) || !m.ents.all (entOkKey s) then some 0x80
      else if m.ents.any fun e => e.op = .write && !(e.wrapOk && s.key.burl) then some 0x84
      else if m.clearLatch && (s.key.tampLow || s.key.zerLow) then some 0x86
      else none

/-- Apply one entry to the chuck. -/
def entApply (k : Keys) (e : KeyEnt) : Keys :=
  let new (v : Nat) : KeySlot := ⟨e.usage, e.alg, e.dmask, e.uses, e.exprst, e.ver, v⟩
  let put (x : KeySlot) : Keys := { k with
    slots := k.slots.set e.slot x, store := if x.exprst then k.store.erase e.slot else k.store.set e.slot (k.gen, x) }
  match e.op with
  | .write => put (new e.key)
  | .attr =>
    match k.slots.get? e.slot with
    | some x => put (new x.key)
    | none => k
  | .clear => { k with slots := k.slots.erase e.slot, store := k.store.erase e.slot }
  | .reserved => k

/-- The record and flags of a rejected message (R899). -/
def keyReject (s : State) (m : KeyMsg) (st : Nat) : State :=
  ((s.raise Reg.KEY_EVT_REJECT).inc Reg.KEY_CNT_REJECT).event 3 Ev.KEY_UPDATE_REJECTED 0 0 [st, m.ucnt]

/-- Open the next fabric epoch. -/
def epochUp (s : State) : State := s.wr Reg.SUP_FEPOCH_FEPOCH (s.rd Reg.SUP_FEPOCH_FEPOCH + 1)

/-- Apply a message that has passed every check, in a fabric epoch of its own (R898, R900, R901, R911, R913). -/
def keyApply (s : State) (m : KeyMsg) : State :=
  let old := s.key
  let k := m.ents.foldl entApply { old with ucnt := m.ucnt, kek := true }
  let own := (m.ents.filter fun e => e.slot < 2 && e.op = .write).foldl (fun o e => KMap.set o e.slot e.key) old.owner
  let inUse (e : Nat × KeySlot) : Bool := m.ents.any fun x => x.slot = e.1
  let k := { k with owner := own, old := if old.engs.isEmpty then [] else old.slots.filter inUse }
  let s := epochUp (s.setKey { k with latch := old.latch && !m.clearLatch })
  let s := s.event 3 Ev.KEY_UPDATED 0 0 [m.ucnt, m.ucnt / 2 ^ 32, m.ents.length]
  let s := if m.claim then s.event 3 Ev.OWNER_CLAIMED 0 0 [m.ucnt, (ownerSlots m).foldl (fun a k => a ||| one k) 0] else s
  let s := if m.clearLatch && old.latch then s.event 3 Ev.TAMPER_LATCH_CLEARED 0 0 [m.ucnt] else s
  arcKey s

/-- A key update message: applied whole, or rejected without effect. Answers the status. -/
def keyUpdate (s : State) (m : KeyMsg) : State × Nat :=
  match keyCheck s m with
  | some st => (keyReject s m st, st)
  | none => (keyApply s m, 0)

/-- What KEY_UPDATE answers when a message has been applied (Table KEY-9). -/
def keyAnswer (m : KeyMsg) : List Byte := pack [(8, m.ucnt), (1, m.ents.length)]

/-- An entry from its 56 bytes (Table KEY-5): the value that WRAP holds under the KEK, when it unwraps. -/
def entryOf (kek : List Byte) (b : List Byte) : KeyEnt :=
  let num (at_ n : Nat) : Nat := fromLe ((b.drop at_).take n)
  let op : KeyOp := match num 1 1 with | 1 => .write | 2 => .attr | 3 => .clear | _ => .reserved
  let wrap := (b.drop 12).take 40
  let val := if op = .write then keyUnwrap kek wrap else none
  { slot := num 0 1, op := op, usage := num 2 1, alg := num 3 1, dmask := num 4 1, exprst := num 5 1 % 2 = 1, ver := num 6 2, uses := num 8 4,
    key := (val.map fromBe).getD 0, wrapOk := val.isSome,
    resvOk := num 5 1 < 2 && num 52 4 = 0 && (op = .write || wrap.all (· = 0)) }

/-- A message from its bytes (Table KEY-4). `signers` are the SHA-256 values of the public keys that its SIG admits (R894). -/
def keyMsgOf (s : State) (b : List Byte) (signers : List Nat) : KeyMsg :=
  let num (at_ n : Nat) : Nat := fromLe ((b.drop at_).take n)
  let n := num 5 1
  { formOk := num 0 4 = 0x4450554B && num 4 1 = 1 && within 1 16 n && num 6 1 < 4 && num 7 1 = 0 && b.length = 96 + 56 * n
    claim := bit (num 6 1) 0, clearLatch := bit (num 6 1) 1, unit := num 8 16, ucnt := num 24 8
    ents := (blocksOfBytes 56 n ((b.drop 32).take (56 * n))).map (entryOf (be 32 (fromBurl s "GWB-KEK" [] 256)))
    signers := signers }

/-! ### Fabric epochs (R177, R250, R913) -/

/-- Make a change of rules in a fabric epoch of its own. A key message that has waited is checked afresh; its command, when it came by one,
is answered; one of section 0x0D at or below the update counter is skipped (R899). -/
def fabApply (s : State) (c : FabChange) : State :=
  match c with
  | .windows w => epochUp (loadWindows s w)
  | .win7 k => epochUp (mapWin7 s k)
  | .xwins l => epochUp (loadXwins s l)
  | .keys m none => if m.ucnt ≤ s.key.ucnt then s else (keyUpdate s m).1
  | .keys m (some tag) =>
    let (s, st) := keyUpdate s m
    s.respond 0x0D02 tag st (if st = 0 then keyAnswer m else [])

/-- A change of rules waits: items of the older epoch remain, or an earlier change waits (R177). -/
def fabWaits (s : State) : Bool := oldFabric s || !s.hbr.waiting.isEmpty

/-- Make a change of rules now, or when it has waited (R177). -/
def openFabric (s : State) (c : FabChange) : State :=
  if fabWaits s then { s with hbr := { s.hbr with waiting := s.hbr.waiting ++ [c] } }.raise Reg.SUP_FEPOCH_PEND else fabApply s c

/-- The changes that wait, each once no item of the epoch before the last one is left, `n` at most. -/
def fabOpen : Nat → State → State
  | 0, s => s
  | n + 1, s =>
    match s.hbr.waiting with
    | [] => s
    | c :: l => if oldFabric s then s else fabOpen n (fabApply { s with hbr := { s.hbr with waiting := l } } c)

/-- Changes that wait are made where they may; PEND stays while one waits. -/
def epSettle (s : State) : State :=
  if s.hbr.waiting.isEmpty then s
  else
    let s := fabOpen s.hbr.waiting.length s
    if s.hbr.waiting.isEmpty then s.clr Reg.SUP_FEPOCH_PEND else s

/-- The windows have been loaded afresh: changes of them that waited are overtaken. -/
def dropWindows (s : State) : State :=
  epSettle { s with hbr := { s.hbr with waiting := s.hbr.waiting.filter fun c => match c with
    | .windows _ | .win7 _ => false
    | _ => true } }

/-- Older key values go once no job of the older epoch is left (R914). -/
def oldKeys (s : State) : State := if oldFabric s then s else s.setKey { s.key with old := [] }

/-- The messages of section 0x0D, in order (R154, R899). -/
def keySection (s : State) : State := s.cfg.secs.s0d.foldl (fun s m => openFabric s (.keys m none)) s

/-- CRYPTO_PIECE_END (R878, R914, R915, R919, R920): messages marked for an end end at this boundary, and the engine takes the
next. -/
def execCryptoPieceEnd (engine : Nat) (s : State) : Host.Outcome State Fault Refusal :=
  done s <|
    if 4 ≤ engine || !s.runs 1 then s
    else
      let g := s.eng engine
      match g.cur with
      | none => s
      | some j =>
        let j := { j with pieces := j.pieces - 1 }
        let finished := j.mark = 0 && j.pieces = 0
        let marked := (j :: (g.rt ++ g.bulk)).filter fun x => x.mark != 0
        let keep (l : List CryJob) : List CryJob := l.filter fun x => x.mark = 0
        let g' : CryEng := { rt := keep g.rt, bulk := keep g.bulk, cur := none }
        let g' := if finished || j.mark != 0 then g' else requeue g' j
        let g' := g'.pick
        let preempt := !j.rt && !finished && j.mark = 0 && (match g'.cur with
          | some x => x.rt
          | none => false)
        let s := s.setEng engine g'
        let s := jobsEnd s ((if finished then [⟨j.id, 0⟩] else []) ++ marked.map fun x => ⟨x.id, x.mark⟩)
        let s := s.add Reg.KEY_CNT_EPAB (marked.filter fun x => x.mark = 2).length
        let s := if preempt then s.inc Reg.KEY_CNT_PREEMPT else s
        oldKeys (epSettle s)

/-! ### Tamper and zeroise (R907 to R912) -/

/-- The zeroise of Table KEY-7. Every slot, held copy and stored copy goes; messages that use a slot end KEY_BLOCKED. -/
def zeroise (s : State) (cause : Nat) : State :=
  let k := s.key
  let s := s.setKey { k with slots := [], store := [], old := [], kek := false, latch := true, gen := (k.gen + 1) % 2 ^ 32 }
  let s := markJobs s (fun j => j.slot.isSome) 1
  let s := { s with lnt := { s.lnt with nodes := s.lnt.nodes.map fun (p : Nat × Node) => (p.1, { p.2 with lkey := none }) } }
  arcKey ((s.raise Reg.KEY_EVT_TAMPER).event 3 Ev.KEY_ZEROISED 0 0 [cause, s.key.gen])

/-- The level of TAMPER_N, or of ZEROISE_N. -/
def tamperPin (s : State) (zer low : Bool) : State :=
  s.setKey (if zer then { s.key with zerLow := low } else { s.key with tampLow := low })

/-- TAMPER_INPUT (R907): a low level that has lasted 1 µs, or the return to high. -/
def execTamperInput (zer low : Bool) (s : State) : Host.Outcome State Fault Refusal :=
  done s <|
    let was := if zer then s.key.zerLow else s.key.tampLow
    let s := tamperPin s zer low
    if low && !was then zeroise s (b2n zer) else s

/-- KEY_UPDATE (R897 to R901, R912, R913, R922): the message is what the window holds; `signers` are the SHA-256 values of the public keys that
its SIG admits. `zer`: a zeroise of that cause (0 TAMPER_N, 1
ZEROISE_N) comes in the cycle of the message's commit and takes precedence; the status that the command then answers is not stated and is a
free value (log entry 88). -/
def execKeyUpdate (tag win wofs len : Nat) (signers : List Nat) (zer : Option Nat) (s : State) : Host.Outcome State Fault Refusal :=
  done s <| command s 0x0D02 tag fun s =>
    let b := winRead s win wofs len
    if len < 152 || 992 < len || !winCommand s win wofs len || len != 96 + 56 * (b.getD 5 0).toNat then deny s St.BAD_PARAM
    else
      let msg := keyMsgOf s b signers
      match keyCheck s msg with
      | some st => deny (keyReject s msg st) st
      | none =>
        if fabWaits s then later (openFabric s (.keys msg (some tag)))
        else match zer with
          | none => okay (keyApply s msg) (keyAnswer msg)
          | some c =>
            let s := zeroise (tamperPin s (c = 1) true) c
            deny { s with free := s.free + 1 } (Config.freeNat s.free % 256)

/-- KEY_ZEROISE (R907, R923). -/
def execKeyZeroise (tag confirm : Nat) (s : State) : Host.Outcome State Fault Refusal :=
  done s <| command s 0x0D04 tag fun s =>
    if confirm != 0x5A5A then deny s St.BAD_PARAM else okay (zeroise s 2) []

/-! ### Starts (R879 to R882, R891, R892) -/

/-- The chuck at a start: every slot whose stored copies unwrap; a slot in `lost` is left invalid and recorded. -/
def chuckLoad (s : State) (lost : List Nat) : State :=
  let k := s.key
  let live : KMap (Nat × KeySlot) := k.store.filter fun (p : Nat × Nat × KeySlot) => p.2.1 = k.gen
  let gone : KMap (Nat × KeySlot) := live.filter fun (p : Nat × Nat × KeySlot) => lost.contains p.1
  let kept : KMap (Nat × KeySlot) := live.filter fun (p : Nat × Nat × KeySlot) => !lost.contains p.1
  let loaded : KMap KeySlot := List.map (fun (p : Nat × Nat × KeySlot) => (p.1, p.2.2)) kept
  let s := s.setKey { k with
    slots := if k.burl then loaded else [], store := kept, kek := k.burl, engs := [], old := [], ended := [] }
  gone.foldl (fun s (p : Nat × Nat × KeySlot) => s.event 3 Ev.KEY_STORE_LOST 0 0 [p.1]) s

/-- The copy of the helper data that the key unit takes: MRAM's, CFG_A's, CFG_B's, the first whose CRC holds (R880). -/
def helperSrc (bad : List Nat) : Option Nat := [0, 10, 11].find? fun c => !bad.contains c

/-- The burl regeneration of a cold start: the helper data of MRAM, or of a device when MRAM's fails its CRC, and then MRAM is
repaired (R880, R882). Answers whether an attempt succeeded. -/
def burlStart (s : State) (b : BurlRun) : State × Bool :=
  let s := s.setKey { s.key with helperBad := b.bad }
  let src := helperSrc b.bad
  let ok := 1 ≤ b.tries && b.tries ≤ 3 && src.isSome
  let s := s.wr Reg.SUP_BOOT_BURLTRY (if ok then b.tries else 3)
  let s := s.setKey { s.key with burl := ok }
  if ok && src != some 0 then
    ((s.setKey { s.key with helperBad := s.key.helperBad.filter (· != 0) }).event 3 Ev.HELPER_REPAIRED 0 0 [src.getD 0], ok)
  else (s, ok)

/-! ### Commands (Table KEY-9) -/

/-- KEY_STAT. -/
def keyStat (s : State) : Nat :=
  let k := s.key
  b2n k.latch * 2 ^ 31 + b2n (!k.owner.isEmpty) * 2 ^ 30 + b2n k.burl * 2 ^ 29 + b2n k.tampLow * 2 ^ 28 +
    b2n k.zerLow * 2 ^ 27 + min 256 k.slots.length

/-- KEY_STATUS (R893): the attributes, never the key. -/
def execKeyStatus (tag slot : Nat) (s : State) : Host.Outcome State Fault Refusal :=
  done s <| command s 0x0D01 tag fun s =>
    if 256 ≤ slot then deny s St.BAD_PARAM
    else match s.key.slots.get? slot with
      | some e => okay s (pack [(1, 1), (1, e.usage), (1, e.alg), (1, e.dmask), (1, b2n e.exprst), (1, 0), (2, e.ver), (4, e.uses)])
      | none => okay s (zeros 12)

/-- KEY_INFO. -/
def execKeyInfo (tag : Nat) (s : State) : Host.Outcome State Fault Refusal :=
  done s <| command s 0x0D03 tag fun s =>
    okay s (pack [(16, if s.key.burl then s.fuses.unitId else 0), (8, s.key.ucnt), (4, keyStat s), (4, s.key.gen)])

end Sys2Proof.Machine
end

