-- ==== Sys2Proof/Machine/Leadership.lean ====
section
/-! DEFINITION. What the brace and the running configuration share: section 0x09, the brace states, module leadership
(R740 to R747), and the settings of step 6 of Table BOOT-9 (12_brace.md, 03_startup_configuration.md). -/
namespace Sys2Proof.Machine

/-- Section 0x09 in force, with the defaults of Table BRC-10 when it is absent. -/
def sec09 (s : State) : Sec09 :=
  s.cfg.secs.s09.getD ⟨true, 0, 0, 0xFF, false, 2, 2, 60, 1000, 10000, [], []⟩

/-- Append a record to log L2, through the AON domain (R777). -/
def logBrace (s : State) (code : Nat) (par : List Nat) : State := s.event 2 code 0 0 par

/-- The SmpCnt of the newest pass of the half that holds LEASH, or of the other when none does. -/
def smpNow (s : State) : Nat := (s.hf (s.lead.getD 0)).vecK

/-- Put half `h` in brace state `v`; comparison of vectors runs while both halves are in IN_STEP (R710), which in a suite L module
form none. -/
def setBrace (s : State) (h v : Nat) : State :=
  let s := s.wr (braceFld h) v
  s.wr Reg.BRC_STAT_CMPON (b2n (s.fuses.suiteP && s.brace 0 = 2 && s.brace 1 = 2))

/-- The arbiter grants LEASH to half `h`; the backup elements of mode NOLEAD request nothing from then on (R683, R704). -/
def grantLeash (s : State) (h : Nat) : State := bkYield (s.wr Reg.BRC_STAT_LEASH (h + 1))

/-! ### Module leadership (R740 to R747) -/

/-- The partner last reported READY in its STATE byte and is present. -/
def partnerReady (s : State) : Bool := partnerCfg s && !s.brc.partner.lost && bit s.brc.partner.st 1

/-- The module is READY (R740). Without section 0x09 its partner is unknown and LSH_OUT stays low (Table BRC-10). -/
def moduleReady (s : State) : Bool :=
  s.fuses.suiteP && s.lead.isSome && s.sup.inServ && !coreDefault s && s.cfg.secs.s09.isSome &&
  (!(sec09 s).mispol || settingsDigest s.cfg.secs = s.brc.partner.setdig)

/-- Drive LSH_OUT (R747). -/
def setLsh (s : State) (up : Bool) (cause : Nat) : State :=
  if s.rd Reg.BRC_STAT_LSHOUT = b2n up then s
  else
    let s := (s.wr Reg.BRC_STAT_LSHOUT (b2n up)).raise Reg.BRC_EVT_PARTCHG
    let s := { s with brc := { s.brc with tie := if up then some s.up else none } }
    logBrace s (if up then Ev.MODLEAD_TAKEN else Ev.MODLEAD_YIELDED) [cause, smpNow s]

/-- A module that stops being READY lowers LSH_OUT (R741). -/
def checkReady (s : State) (cause : Nat) : State := if moduleReady s then s else setLsh s false cause

/-- The effective role: 0 PRIMARY, 1 SECONDARY (R746). -/
def effRole (s : State) : Nat :=
  let c := sec09 s
  if !c.partner then c.role
  else if !s.brc.partner.seen then 1
  else if s.brc.partner.role = c.role then b2n (s.brc.partner.uid < s.fuses.unitId)
  else c.role

/-- Bring BRC_STAT.PARTNER and ROLE up to date. -/
def partnerStat (s : State) : State :=
  let p := if !partnerCfg s then 0 else if s.brc.partner.lost then 1 else if partnerReady s then 3 else 2
  (s.wr Reg.BRC_STAT_PARTNER p).wr Reg.BRC_STAT_ROLE (effRole s)

/-! ### Settings -/

/-- Load the registers of section 0x09 but for the crossing windows. -/
def loadBrace (s : State) : State :=
  let c := sec09 s
  let s := s.wrs [(Reg.BRC_CFG_ROLECFG, c.role), (Reg.BRC_CFG_MISPOL, b2n c.mispol), (Reg.BRC_CFG_RECUR, c.recur),
    (Reg.BRC_CFG_HMISS, c.hmiss), (Reg.BRC_CFG_DISN, c.disn)]
  let pol (k : Nat) : Nat := (List.range 16).foldl (fun m j => m + (match s.s08.bind fun p => p.outs.get? (16 * k + j) with
    | some o => policy s (16 * k + j) o
    | none => c.pol.getD (16 * k + j) 0) * 4 ^ j) 0
  let s := s.wrs [(Reg.BRC_POL0_POL, pol 0), (Reg.BRC_POL1_POL, pol 1)]
  let p := s.brc.partner
  partnerStat (if p.puid = c.puid then s else { s with brc := { s.brc with partner := { p with puid := c.puid, saved := 0, rxSeq := 0 } } })

/-- The instances, gates and outputs of the heel that are unchanged keep their state, the others start afresh (R758). -/
def carrySettings (v : Half) (c0 c1 : Sec08) : Half :=
  let same (n : Nat) : Bool := match c0.insts.get? n, c1.insts.get? n with
    | some a, some b => a.func = b.func && a.bay = b.bay && a.ins = b.ins
    | _, _ => false
  { v with
    insts := v.insts.filter fun p => same p.1
    gates := v.gates.filter fun p => match c0.gates[p.1]?, c1.gates[p.1]? with
      | some a, some b => a.op = b.op && a.ins = b.ins
      | _, _ => false
    outs := v.outs.filter fun p => match c0.outs.get? p.1, c1.outs.get? p.1 with
      | some a, some b => a.src = b.src && a.trip = b.trip && a.mode = b.mode
      | _, _ => false }

/-- The publications of a half that go on under the settings `c1`: one whose gocbRef, datSet or confRev changes restarts (R759). -/
def carryPubs (v : Half) (c0 c1 : Sec08) : Half :=
  { v with pubs := v.pubs.filter fun p => match c0.pubs.get? p.1, c1.pubs.get? p.1 with
      | some x, some y => x.gocb = y.gocb && x.datset = y.datset && x.confrev = y.confrev
      | _, _ => false }

end Sys2Proof.Machine
end

