-- ==== Sys2Proof/Machine/Air.lean ====
section
/-! DEFINITION. What the module sends on the air, bit by bit: frame control and headers, nonce and CCM*, FCS, whitening, the order of the bits and the
tones that carry them (R368 to R375, R408, R409, R419 to R421, R434; 07_air_protocol.md, Table RAD-1). -/
namespace Sys2Proof.Machine

/-! ### Bits and tones (R368 to R375) -/

/-- The FCS of a frame without a 4-byte one (R373): a CRC-16, highest byte first (R374). -/
def crc16 (bs : List Byte) : Nat := bs.foldl (fun r b => iter (crcBitL 16 0x1021) 8 (r ^^^ (b.toNat * 256))) 0xFFFF

/-- The 4-byte FCS (R373): the CRC-32 that is not reflected. -/
def crc32Air (bs : List Byte) : Nat :=
  (bs.foldl (fun r b => iter (crcBitL 32 0x04C11DB7) 8 (r ^^^ (b.toNat * 2 ^ 24))) 0xFFFFFFFF) ^^^ 0xFFFFFFFF

/-- A PSDU: the bytes before the FCS, and the FCS (R374, R375): 4 bytes only in a PVER 2 frame whose PSDU exceeds 127 bytes. -/
def withFcs (ver : Nat) (bs : List Byte) : List Byte :=
  if ver = 2 && 127 < bs.length + 2 then bs ++ be 4 (crc32Air bs) else bs ++ be 2 (crc16 bs)

/-- The PHR of a PSDU (Table AIR-2): WHITEN 1 always, FCSTYPE 1 with the 4-byte FCS (R375). `ver` as in its frame control. -/
def phr (psdu : List Byte) : Nat :=
  let ver := (fromLe (psdu.take 2)) / 2 ^ 9 % 16
  2 ^ 15 + (if ver = 2 && 127 < psdu.length - 2 then 2 ^ 14 else 0) + psdu.length

/-- The bits of bytes, most significant first (R368). -/
def bitsOf (bs : List Byte) : List Bool := bs.flatMap fun b => (List.range 8).map fun i => b.getLsbD (7 - i)

/-- `n` outputs of the PN9 generator from a state (R372). -/
def pn9 : Nat → Nat → List Bool
  | 0, _ => []
  | n + 1, r => bit r 0 :: pn9 n (r / 2 + (if bit r 0 != bit r 5 then 256 else 0))

/-- Bits whitened in transmission order (R372). -/
def whiten (l : List Bool) : List Bool := List.zipWith (· != ·) l (pn9 l.length 0x1FF)

/-- The bits of the preamble and the sync word, and of the PHR and the PSDU (R370). -/
def syncBits (pre : Nat) : List Bool := bitsOf (List.replicate pre 0x55 ++ [0xB7, 0xE2, 0x4D, 0x1A])
@[inherit_doc syncBits] def dataBits (psdu : List Byte) : List Bool := bitsOf (be 2 (phr psdu)) ++ whiten (bitsOf psdu)

/-- The symbols of the 4-level map, in Hz from the centre of the channel (Table RAD-1): the first bit of a pair is the more significant. -/
def tones4 : List Bool → List Int
  | a :: b :: l => (match a, b with
      | false, true => 2700 | false, false => 900 | true, false => -900 | true, true => -2700) :: tones4 l
  | _ => []

/-- The symbols of a frame before the Gaussian filter, in Hz from the centre of the channel (R369, Tables AIR-1 and RAD-1). -/
def tones (s : State) (f : Nat × List Byte) : List Int :=
  let two (d : Int) (l : List Bool) : List Int := l.map fun b => if b then d else -d
  if regionE s then two 2700 (syncBits f.1) ++ tones4 (dataBits f.2) else two 4800 (syncBits f.1 ++ dataBits f.2)

/-- The centre of a channel in 0.1 Hz (R322, Table RAD-1). -/
def chanFreq (s : State) (ch : Nat) : Nat := if regionE s then 8631000000 + ch * 125000 else 9024000000 + ch * 500000

/-! ### Headers (Tables AIR-4 to AIR-10) -/

/-- Frame control (Table AIR-4) of a frame that travels from the module: UP 0. -/
def frameCtl (typ ver : Nat) (sec ar fp rt : Bool) : List Byte :=
  le 2 (typ * 2 ^ 13 + ver * 2 ^ 9 + b2n sec * 2 ^ 8 + b2n ar * 2 ^ 7 + b2n fp * 2 ^ 6 + b2n rt * 2 ^ 5)

/-- The route header of the first transmission on a route, to relay 0 (Table AIR-7); as IDX is 0, R421's zeroing changes nothing. -/
def routeHeader (relays : List Nat) : List Byte :=
  if relays.isEmpty then [] else le 1 (relays.length * 32) ++ relays.flatMap (le 3)

/-- The nonce (Table AIR-14, R420): frames from the module carry MODEUI. -/
def nonce (s : State) (fcnt : Nat) : List Byte := be 8 (sec03 s).modEui ++ be 4 fcnt ++ [0x06]

/-- A secured frame (R419, R421): header, enciphered payload, MIC, FCS. `aad` is the header with what a relay changes set to 0. -/
def secured (s : State) (key ver fcnt : Nat) (hdr aad text : List Byte) : List Byte :=
  let k := be 16 key
  let n := nonce s fcnt
  withFcs ver (hdr ++ ccmText k n text ++ ccmMic k n aad text)

/-- The PSDU of a downlink frame of the module (Tables AIR-5, AIR-13, NET-3), the same at each repeat (R384). -/
def dlPsdu (s : State) (ln : Nat) (f : DlFrame) : List Byte :=
  match s.node ln with
  | none => []
  | some d =>
    if !f.sent.isEmpty then f.sent else
    let route := d.rcd.relays.take d.rcd.hops
    let hdr := frameCtl (if f.cmd then 5 else 0) f.ver true true f.fp (!route.isEmpty) ++ le 1 (f.seq.getD 0) ++ le 3 ln ++ le 3 0xFFFFFE ++
      le 4 f.fcnt ++ le 1 0 ++ routeHeader route
    secured s ((d.lkey.map (·.key)).getD 0) f.ver f.fcnt hdr hdr (le 1 f.op ++ (if f.cmd then [] else le 1 f.htag) ++ f.body)

/-- The PSDU of a howl (Table AIR-8), under the group key `key` of number `kid`. -/
def howlPsdu (s : State) (key kid ver : Nat) (h : Howl) : List Byte :=
  let fc := frameCtl 3 ver true false false false
  let mid (src : Nat) : List Byte := le 3 0xFFFFFF ++ le 3 src ++ le 4 h.fcnt ++ le 1 kid
  let hh (ttl : Nat) : List Byte := le 3 0xFFFFFE ++ le 2 h.msgid ++ le 2 (ttl * 4096 + h.group) ++ le 1 h.scope
  secured s key ver h.fcnt (fc ++ le 1 h.seq ++ mid 0xFFFFFE ++ hh h.ttl) (fc ++ le 1 0 ++ mid 0 ++ hh 0) (le 1 h.op ++ le 1 0 ++ h.body)

/-- The PSDU of an ACK of the module (Table AIR-9): PVER and SEQ of the frame it acknowledges (R434). -/
def ackPsdu (ver seq : Nat) (fp : Bool) : List Byte := withFcs ver (frameCtl 1 ver false false fp false ++ le 1 seq)

/-- The PSDU of a WAKE element (Table AIR-10) that ends `ns` before the data frame begins: CD rounds down (R409). -/
def wakePsdu (ver ln ns : Nat) : List Byte := withFcs ver (frameCtl 4 ver false false false false ++ le 3 ln ++ le 2 (ns / 125000))

/-- The elements of a train of `n`, each with a 4-byte preamble, the data frame 2 ms after the last (R408). -/
def wakes (s : State) (ver ln n : Nat) : List (Nat × List Byte) :=
  (List.range n).map fun i => (4, wakePsdu ver ln (2000000 + (n - 1 - i) * frameNs s 4 9))

/-- The time on the air of frames sent back to back (Table AIR-1); a train has 2 ms before its data frame. -/
def airNs (s : State) (cls : TxCls) (l : List (Nat × List Byte)) : Nat :=
  (l.map fun f => frameNs s f.1 f.2.length).sum + (if cls = .train then 2000000 else 0)

/-! ### Received stamps (R287) -/

/-- The stamp of a frame whose sync-detect handler began at `t`: less the 6-cycle interrupt entry and the grid's receive delay. -/
def rxStamp (s : State) (t : Nat) : Nat := t - (24 + if regionE s then 466000 else 183000)

/-- A received frame with its stamp in place of the handler's time. -/
def stamped (s : State) (f : RxFrame) : RxFrame := { f with t := rxStamp s f.t }

end Sys2Proof.Machine
end

