-- ==== Sys2Proof/Machine/Lighting.lean ====
section
/-! DEFINITION. The lighting engine: schedules, tables, howls for lighting, overrides, waves, faults, feeder supply, energy
(09_lighting.md). Frames are queued here and sent by `Machine/Link.lean`. -/
namespace Sys2Proof.Machine

/-- Section 0x05 in force, or the defaults of Table LUX-1. -/
def sec05 (s : State) : Sec05 :=
  s.cfg.secs.s05.getD ⟨-833, 180, 50, 60, 60, 1800, 0x1FFF, [], [], [], [], [], []⟩

/-- Change the lighting engine. -/
def State.setLux (s : State) (x : Lux) : State := { s with lux := x }

/-- Change what the engine keeps for a lantern. -/
def State.modLux (s : State) (ln : Nat) (f : NodeLux → NodeLux) : State := s.modNode ln fun d => { d with lux := f d.lux }

/-- The lighting record of a node of the roster (R498). -/
def luxNode (s : State) (ln : Nat) : Option LuxNode := if s.lnt.nodes.has ln then (sec05 s).nodes.get? ln else none

/-- The lantern nodes of the roster. -/
def lanterns (s : State) : List Nat := (s.lnt.nodes.filter fun p => !p.2.rcd.sensor).map (·.1)

/-! ### Calendar (R500 to R503) -/

/-- The transitions of section 0x02 that hold: those up to VALID_UNTIL. -/
def zoneTrans (s : State) : List (Int × Int) :=
  let c := sec02 s
  if c.validUntil = 0 then c.trans else c.trans.filter fun p => p.1 ≤ (c.validUntil : Int)

/-- Local seconds since 1970 at a spindle time. -/
def localAt (s : State) (t : Nat) : Int := utcAt s t + localOffset s (utcAt s t) * 60

/-- The UTC second of a local second: its first occurrence, or the first instant after a gap (R503). -/
def utcOfLocal (s : State) (l : Int) : Int :=
  let segs := (zoneTrans s).foldl (fun (r : List (Option Int × Option Int × Int)) p =>
    match r with
    | (a, _, o) :: q => (some p.1, none, p.2) :: (a, some p.1, o) :: q
    | [] => [(some p.1, none, p.2)]) [(none, none, (sec02 s).std)]
  let hit := segs.reverse.find? fun g => match g.2.1 with
    | some e => l - g.2.2 * 60 < e
    | none => true
  match hit with
  | some (some a, _, o) => max a (l - o * 60)
  | some (none, _, o) => l - o * 60
  | none => l

/-- The lighting day of a spindle time: from 12:00 local time (R501). -/
def luxDay (s : State) (t : Nat) : Int := (localAt s t - 43200) / 86400

/-- The local date of a spindle time. -/
def localDay (s : State) (t : Nat) : Int := localAt s t / 86400

/-- Minutes after local midnight of a sunset or sunrise on a local date, to the nearest minute; 0xFFFE or 0xFFFF where the sun does not
cross ELEV (R511, R512). -/
def sunMin (s : State) (f : Int → Int → Int → Nat → Nat) (x : LuxNode) (day : Nat) : Nat :=
  match f x.lat x.lon (sec05 s).elev day with
  | 0 => 0xFFFE
  | 1 => 0xFFFF
  | n + 2 =>
    let l : Int := (n : Int) + localOffset s (n : Int) * 60 - (day : Int) * 86400
    ((l + 30) / 60).toNat

/-- SET and RISE of a date: both 0xFFFE or both 0xFFFF where the sun stays above or below (R512). -/
def sunPair (s : State) (x : LuxNode) (day : Nat) : Nat × Nat :=
  let a := sunMin s Config.sunSet x day
  if a = 0xFFFE || a = 0xFFFF then (a, a) else (a, sunMin s Config.sunRise x day)

/-! ### The schedule of a lantern (R502 to R507) -/

/-- The primary group of a lighting record. -/
def primary (s : State) (x : LuxNode) : Option Group := (x.grp.head?).bind (sec05 s).groups.get?

/-- The profile of a lighting day (R502): the exception's, or the weekday's; 1970-01-01 was a Thursday. -/
def dayPid (g : Group) (day : Int) : Option Nat :=
  match g.exc.find? fun e => (e.1 : Int) = day with
  | some e => some e.2
  | none => g.week[((day + 3) % 7).toNat]?

/-- The local second of a step on lighting day `day`, or none where its anchor has no instant (Table LUX-2, R504). -/
def stepLocal (s : State) (x : LuxNode) (day : Int) (p : Step) : Option Int :=
  let off := p.offset * 60
  let d := day.toNat
  match p.anchor with
  | 0 => some ((day + 1) * 86400 + off)
  | 1 => let m := (sunPair s x d).1; if m = 0xFFFE || m = 0xFFFF then none else some (day * 86400 + (m : Int) * 60 + off)
  | _ => let m := (sunPair s x (d + 1)).2; if m = 0xFFFE || m = 0xFFFF then none else some ((day + 1) * 86400 + (m : Int) * 60 + off)

/-- The steps of a lighting day in order of instant (UTC seconds), those outside the day dropped (R504, R505). -/
def daySteps (s : State) (x : LuxNode) (day : Int) (steps : List Step) : List (Int × Step) :=
  let lo := utcOfLocal s (day * 86400 + 43200)
  let hi := utcOfLocal s ((day + 1) * 86400 + 43200)
  let l := steps.filterMap fun p => (stepLocal s x day p).map fun t => (utcOfLocal s t, p)
  sortBy (fun a b => decide (a.1 < b.1)) (l.filter fun q => decide (lo ≤ q.1) && decide (q.1 < hi))

/-- A level on a ramp: from `a` at `t0` to `b` over `r` tenths of a second, in thousandths, at tenth `t` (R506). -/
def rampAt (a b : Int) (t0 : Int) (r : Nat) (t : Int) : Int :=
  if r = 0 || t0 + r ≤ t then b else a + (b - a) * (t - t0) / r

/-- The level in force at tenth `t` of UTC, from level `start` at the beginning of the day (R506). -/
def runSteps (start : Int) (l : List (Int × Step)) (t : Int) : Int :=
  let r := l.foldl (fun (q : Int × Int × Int × Nat) p =>
    if t < p.1 * 10 then q else (rampAt q.1 q.2.1 q.2.2.1 q.2.2.2 (p.1 * 10), (p.2.level : Int), p.1 * 10, p.2.ramp)) (start, start, 0, 0)
  rampAt r.1 r.2.1 r.2.2.1 r.2.2.2 t

/-- The scheduled level at tenth `t` of UTC on lighting day `day`, days before it looked at `n` times (R506, R507). -/
def levelOn (s : State) (x : LuxNode) (g : Group) (day : Int) (t : Int) : Nat → Int
  | 0 => 1000
  | n + 1 =>
    match (dayPid g day).bind (sec05 s).profiles.get? with
    | none => 1000
    | some steps =>
      let noon := utcOfLocal s (day * 86400 + 43200) * 10
      let l := daySteps s x day steps
      let before := match l.head? with
        | some p => decide (t < p.1 * 10)
        | none => true
      if before then levelOn s x g (day - 1) noon n
      else runSteps (levelOn s x g (day - 1) noon n) l t

/-- The level a lantern's schedule gives at a spindle time; 1,000 where it has none (R507). -/
def schedLevel (s : State) (ln t : Nat) : Nat :=
  match luxNode s ln with
  | none => 1000
  | some x =>
    match primary s x with
    | none => 1000
    | some g => (levelOn s x g (luxDay s t) (utcAt s t * 10 + ((t / 100000000 % 10 : Nat) : Int)) 8).toNat

/-- The profile of a lantern's present lighting day. -/
def pidNow (s : State) (ln : Nat) : Option Nat :=
  ((luxNode s ln).bind (primary s)).bind fun g => dayPid g (luxDay s s.now)

/-- The next step of any lantern's schedule after now, as a spindle time: of this lighting day or the next. -/
def nextStep (s : State) : Option Nat :=
  let d := luxDay s s.now
  let off := toS 16 (s.rd Reg.TB_QUAL_UTCOFF)
  let l := (lanterns s).flatMap fun ln => match luxNode s ln with
    | none => []
    | some x => match primary s x with
      | none => []
      | some g => [d, d + 1].flatMap fun k => match (dayPid g k).bind (sec05 s).profiles.get? with
        | none => []
        | some p => (daySteps s x k p).map fun q => (q.1 + off).toNat * 1000000000
  (l.filter (s.now < ·)).foldl (fun b t => some (min t (b.getD t))) none

/-! ### Lighting tables (R513 to R518) -/

/-- The profiles a group's WEEK and exceptions name. -/
def groupPids (g : Group) : List Nat := (g.week ++ g.exc.map (·.2)).eraseDups

/-- The exceptions at or after the present lighting day, in order, 32 at most. -/
def nextExc (s : State) (g : Group) : List (Nat × Nat) :=
  (sortBy (fun a b => decide (a.1 < b.1)) (g.exc.filter fun e => luxDay s s.now ≤ (e.1 : Int))).take 32

/-- The transitions to come, 8 at most. -/
def nextTrans (s : State) : List (Int × Int) := ((sec02 s).trans.filter fun p => utcAt s s.now < p.1).take 8

/-- SET and RISE of 40 dates from the present one. -/
def nextAstro (s : State) (x : LuxNode) : List (Nat × Nat) :=
  (List.range 40).map fun i => sunPair s x ((localDay s s.now).toNat + i)

/-- The first date, then SET and RISE of 40 dates, that a node is sent: in suite L those that both halves have produced (R765). -/
def astroDays (s : State) (ln : Nat) (x : LuxNode) : List Nat :=
  if s.fuses.suiteP then (localDay s s.now).toNat :: (nextAstro s x).flatMap fun p => [p.1, p.2] else s.lux.astro.getD ln []

/-- The BODY of ASTRO, with the pairs it has. -/
def astroBody : List Nat → List Byte
  | [] => []
  | d :: l => le 2 d ++ le 1 (l.length / 2) ++ l.flatMap (le 2)

/-- The BODY of PROFILE. -/
def profileBody (pid : Nat) (l : List Step) : List Byte :=
  le 1 pid ++ le 1 l.length ++ l.flatMap fun p => le 1 p.anchor ++ le 2 (ofS 16 p.offset) ++ le 2 p.level ++ le 2 p.ramp

/-- The tables of a node, by key: (OP × 256 + PID, OP, BODY), profiles before SCHED (R513, R514). -/
def wantTables (s : State) (ln : Nat) (x : LuxNode) : List (Nat × Nat × List Byte) :=
  let c := sec05 s
  let groups := [(0x1100, 0x11, le 1 x.grp.length ++ x.grp.flatMap (le 2))]
  let sched := match primary s x with
    | none => []
    | some g =>
      ((groupPids g).filterMap fun p => (c.profiles.get? p).map fun l => (0x1200 + p, 0x12, profileBody p l)) ++
        (if g.week.isEmpty then [] else [(0x1300, 0x13, g.week.flatMap (le 1) ++ le 1 (nextExc s g).length ++
          (nextExc s g).flatMap fun e => le 2 e.1 ++ le 1 e.2)])
  let days := astroDays s ln x
  groups ++ sched ++ (if days.isEmpty then [] else [(0x1400, 0x14, astroBody days)]) ++
    [(0x1500, 0x15, le 2 (ofS 16 (sec02 s).std) ++ le 1 (nextTrans s).length ++
        (nextTrans s).flatMap fun p => le 4 p.1.toNat ++ le 2 (ofS 16 p.2)),
     (0x1600, 0x16, le 2 c.statPer ++ le 2 c.engPer ++ le 2 c.uvThr ++ le 2 c.faultEn)]

/-- Bytes cut into pieces of `n`. -/
def chunks (n : Nat) : Nat → List Byte → List (List Byte)
  | 0, _ => []
  | k + 1, l => if l.isEmpty then [] else l.take n :: chunks n k (l.drop n)

/-- A table held at a node still serves: the same head, and of the entries from now on at least `least` or as many as there are. -/
def serves (head wantHead : List Byte) (rest want : List (List Byte)) (least : Nat) : Bool :=
  head = wantHead && rest.isPrefixOf want && (least ≤ rest.length || want.length ≤ rest.length)

/-- A table that a node holds needs no refresh (R515, R518). -/
def fresh (s : State) (key : Nat) (held want : List Byte) : Bool :=
  if key = 0x1300 then
    let rest := (chunks 3 32 (held.drop 8)).filter fun e => luxDay s s.now ≤ (fromLe (e.take 2) : Int)
    serves (held.take 7) (want.take 7) rest (chunks 3 32 (want.drop 8)) 8
  else if key = 0x1400 then
    let skip := (localDay s s.now).toNat - fromLe (held.take 2)
    serves [] [] ((chunks 4 40 (held.drop 3)).drop skip) (chunks 4 40 (want.drop 3)) 10
  else if key = 0x1500 then
    let rest := (chunks 6 8 (held.drop 3)).filter fun e => utcAt s s.now < (fromLe (e.take 4) : Int)
    serves (held.take 2) (want.take 2) rest (chunks 6 8 (want.drop 3)) 2
  else held = want

/-- Queue one lighting-table command, while LUXRATE of this second allows (R516). -/
def queueTable (s : State) (ln : Nat) (k : Nat × Nat × List Byte) : State :=
  let n := if s.lux.lxSec = s.sec then s.lux.lxN else 0
  if (sec05 s).luxRate ≤ n then s
  else queueData (s.setLux { s.lux with lxSec := s.sec, lxN := n + 1 }) ln { src := .table k.1, cmd := false, op := k.2.1, body := k.2.2 }

/-- Queue the table commands whose content differs from what a node holds and that do not wait already (R513 to R518). -/
def queueTables (s : State) (ln : Nat) : State :=
  match luxNode s ln, s.node ln with
  | some x, some d =>
    ((wantTables s ln x).filter fun k =>
      !(d.q.any fun f => f.src = .table k.1) && (match d.lux.held.get? k.1 with
        | some b => !fresh s k.1 b k.2.2
        | none => true)).foldl (fun s k => queueTable s ln k) s
  | _, _ => s

/-! ### Feeders (R536 to R540) -/

/-- The feeder of a lantern: 0–31, or one of its own (R540). -/
def feederOf (s : State) (ln : Nat) : Nat :=
  match s.node ln with
  | some d => if d.rcd.feeder < 32 then d.rcd.feeder else 0x10000 + ln
  | none => 0x10000 + ln

/-- A feeder of the lighting engine. -/
def State.feeder (s : State) (f : Nat) : Feeder := s.lux.feeders.getD f {}

/-- Change a feeder and show the states of Table LUX-4 in LNT_FDRST. -/
def State.setFeeder (s : State) (f : Nat) (x : Feeder) : State :=
  let s := s.setLux { s.lux with feeders := s.lux.feeders.set f x }
  if 32 ≤ f then s
  else
    let k := Reg.LNT_FDRST_ST (f / 8)
    let sh := 4 * (f % 8)
    let old := s.rd k
    s.wr k (old - (old / 2 ^ sh % 16) * 2 ^ sh + (x.st + 8 * b2n x.inferred) * 2 ^ sh)

/-- The lanterns of a feeder. -/
def feederLns (s : State) (f : Nat) : List Nat := (lanterns s).filter fun ln => feederOf s ln = f

/-- A lantern has no supply: its feeder is LOST or RECLOSE_PENDING. -/
def noSupply (s : State) (ln : Nat) : Bool := let st := (s.feeder (feederOf s ln)).st; st = 1 || st = 2

/-- A lantern awaits release, by the module or by its FALLBACK (R543, R546, R552). -/
def awaits (s : State) (ln : Nat) : Bool :=
  let x := s.feeder (feederOf s ln)
  x.waiting.contains ln || x.batch.contains ln || (x.st = 4 && x.left.contains ln)

/-- No LEVEL may go to a lantern: it awaits release, or its supply is out. -/
def hushed (s : State) (ln : Nat) : Bool := awaits s ln || noSupply s ln

/-- The head of a report of range 0x06 (R560). -/
def luxBody (ln f t : Nat) (r : List Byte) : List Byte := le 3 ln ++ le 1 f ++ le 8 t ++ r

/-- A feeder takes a state: FEEDER_SUPPLY, and SUPPLY_LOST on an entry to LOST (R536). CAUSE: 0 notice, 1 inferred, 2 restoration report,
3 end of grace. -/
def feederTo (s : State) (f : Nat) (x : Feeder) (st cause : Nat) : State :=
  let n := (feederLns s f).length
  let x := { x with st := st, cause := cause, inferred := x.inferred && st != 0 }
  let nseq := if cause = 1 || x.inferred then 0 else s.lux.nseq
  let body := luxBody 0xFFFFFF (if f < 32 then f else 0xFF) s.now
    (le 1 st ++ le 1 cause ++ le 1 x.shot ++ zeros 1 ++ le 4 n ++ le 4 nseq ++ le 4 (if st = 0 then x.suppr else 0))
  let s := s.setFeeder f (if st = 0 then { x with suppr := 0 } else x)
  let s := s.report 0x0602 0 body
  if st = 1 then (s.raise Reg.LNT_LUXEVT_SUPLOST).event 5 Ev.SUPPLY_LOST 1 0 [f, n] else s

/-- A feeder enters LOST (R537, R539, R551): releases not yet on air are cancelled. -/
def feederLost (s : State) (f cause t : Nat) (inferred : Bool) : State :=
  let x := s.feeder f
  let keep (g : DlFrame) : Bool := g.src != .release f || g.aired || g.stage = .air
  let s := (feederLns s f).foldl (fun s ln => s.modNode ln fun d => { d with q := d.q.filter keep }) s
  if x.st = 1 then s.setFeeder f { x with inferred := x.inferred || inferred }
  else feederTo s f { x with inferred := x.inferred || inferred, lossAt := some t, waiting := [], batch := [], left := [], lostReps := [] } 1 cause

/-- PICKUP ends (R538, R550). -/
def endPickup (s : State) (f : Nat) : State :=
  let x := s.feeder f
  let n := x.left.length
  let s := s.add Reg.LNT_LUXCNT1_RELFB n
  let s := if n = 0 then s else s.raise Reg.LNT_LUXEVT_FALLBK
  let s := s.report 0x0603 0 (luxBody 0xFFFFFF (if f < 32 then f else 0xFF) s.now
    (le 2 x.batches ++ zeros 2 ++ le 4 x.released ++ le 4 n ++ le 4 ((max x.lastEnd x.closeAt - x.closeAt) / 1000000)))
  feederTo s f { x with graceAt := s.now } 4 x.cause

/-- The lanterns of a feeder in order of RPRIO, then LN (R546). -/
def releaseOrder (s : State) (f : Nat) : List Nat :=
  let pr (ln : Nat) : Nat := ((luxNode s ln).map (·.rprio)).getD 3
  sortBy (fun a b => decide (pr a < pr b) || (pr a = pr b && decide (a < b))) (feederLns s f)

/-- A feeder enters PICKUP (R546). -/
def feederPickup (s : State) (f cause t : Nat) : State :=
  let x := s.feeder f
  let w := releaseOrder s f
  let x := { x with
    waiting := w, tries := [], batch := [], batches := 0, released := 0, left := [], lastEnd := 0, closeAt := t, pickAt := s.now,
    tInr := 0 }
  let s := feederTo s f x 3 cause
  if w.isEmpty then endPickup s f else s

/-- START of a feeder in ns, SUPGRACE in s. -/
def feederCfg (s : State) (f : Nat) : FeederCfg := (sec05 s).feeders.getD f ⟨0, 500, 20, 8⟩

/-- The override of a lantern: the kind that ranks first, the newest of that kind (R519). -/
def covers (s : State) (o : Override) (ln : Nat) : Bool :=
  match o.kind with
  | 0 => o.id = ln
  | 1 => ((luxNode s ln).map fun x => x.grp.contains o.id).getD false
  | 2 => feederOf s ln = o.id
  | _ => true

@[inherit_doc covers] def topOverride (s : State) (ln : Nat) : Option (Nat × Override) :=
  (s.lux.ovr.filter fun p => covers s p.2 ln).foldl (fun r p =>
    match r with
    | none => some p
    | some q => if p.2.kind < q.2.kind || (p.2.kind = q.2.kind && q.2.order < p.2.order) then some p else r) none

/-- The HOLD of an override in s (R520). -/
def holdOf (s : State) (o : Override) : Nat :=
  match o.stop with
  | none => 3600
  | some t => min 3600 ((t - s.now + 999999999) / 1000000000)

/-- The BODY of LEVEL. -/
def levelBody (level ramp hold : Nat) : List Byte := le 2 level ++ le 2 ramp ++ le 2 hold

/-- Queue a LEVEL for a lantern. -/
def queueLevel (s : State) (ln : Nat) (src : DlSrc) (level ramp hold : Nat) (window : Option (Nat × Nat)) : State :=
  queueData s ln { src := src, cmd := false, op := 0x10, body := levelBody level ramp hold, window := window }

/-- The inrush of a lantern at its release in 0.01 A, and its duration in ms (R546). -/
def inrush (s : State) (ln : Nat) : Nat × Nat :=
  match (luxNode s ln).bind fun x => x.drv.bind (sec05 s).drivers.get? with
  | some d =>
    let lvl := match topOverride s ln with
      | some o => o.2.level
      | none => schedLevel s ln s.now
    (if lvl = 0 then 0 else d.iInr, d.tInr)
  | none => (0, 0)

/-- The procedure of R546 over the waiting lanterns: at most `cmax`, one a channel, within the headroom. -/
def buildBatch (s : State) (allow cmax : Nat) : List Nat → List Nat → Nat → List Nat → List Nat
  | [], batch, _, _ => batch
  | n :: l, batch, sum, chans =>
    let ch := ((s.node n).map Node.rxch).getD 0
    let i := (inrush s n).1
    if cmax ≤ batch.length then batch
    else if chans.contains ch then buildBatch s allow cmax l batch sum chans
    else if !batch.isEmpty && allow < sum + i then buildBatch s allow cmax l batch sum chans
    else buildBatch s allow cmax l (batch ++ [n]) (sum + i) (ch :: chans)

/-- Lanterns of a feeder in PICKUP whose releases are used up or whose time has passed are left to their FALLBACK (R549). -/
def leaveRest (s : State) (f t : Nat) : State :=
  let x := s.feeder f
  let c := feederCfg s f
  let late := decide (x.pickAt + c.start * 1000000 + 80000000000 < t)
  let gone := x.waiting.filter fun n => late || 3 ≤ x.tries.getD n 0
  s.setFeeder f { x with waiting := x.waiting.filter (!gone.contains ·), left := x.left ++ gone }

/-- The next batch of a feeder (R546); in suite L the one that both halves have produced, of the lanterns that still wait (R765). -/
def nextBatch (s : State) (f : Nat) : List Nat :=
  let x := s.feeder f
  let m := maxCar s
  if s.fuses.suiteP then buildBatch s ((feederCfg s f).iAllow * 10) (m - min (s.rd Reg.RAD_TXLIM_RSVACK) (m / 2)) x.waiting [] 0 []
  else (s.lux.agreed.getD f []).filter (x.waiting.contains ·)

/-- A batch of a feeder may be released: in suite L both halves have produced one. -/
def batchReady (s : State) (f : Nat) : Bool := s.fuses.suiteP || s.lux.agreed.has f

/-- Release the next batch (R546 to R548). -/
def releaseBatch (s : State) (f : Nat) : State :=
  let x := s.feeder f
  let b := nextBatch s f
  let s := s.setLux { s.lux with agreed := s.lux.agreed.erase f }
  let tinr := b.foldl (fun m n => max m (inrush s n).2) 0
  let x := { x with
    waiting := x.waiting.filter (!b.contains ·), batch := b, batches := x.batches + b2n (!b.isEmpty), tInr := tinr,
    tries := b.foldl (fun m n => KMap.set m n (KMap.getD m n 0 + 1)) x.tries }
  b.foldl (fun s n =>
    let o := topOverride s n
    let lv := match o with
      | some o => (o.2.level, holdOf s o.2)
      | none => (0xFFFF, 0)
    queueLevel s n (.release f) lv.1 20 lv.2 none) (s.setFeeder f x)

/-- A release frame has ended (R549, R550). -/
def releaseEnded (s : State) (f ln : Nat) (ok : Bool) (t : Nat) : State :=
  let x := s.feeder f
  if x.st != 3 || !x.batch.contains ln then s
  else
    let x := { x with batch := x.batch.filter (· != ln), lastEnd := max x.lastEnd t }
    let x := if ok then { x with released := x.released + 1 }
      else { x with waiting := (releaseOrder s f).filter fun n => n = ln || x.waiting.contains n }
    let s := leaveRest (s.setFeeder f x) f t
    let x := s.feeder f
    if x.batch.isEmpty && x.waiting.isEmpty then endPickup s f else s

/-! ### Faults (R532 to R535, R541) -/

/-- A class is supply-dependent (Table LUX-3). -/
def supplyDep (d : Node) (cls : Nat) : Bool :=
  [0, 1, 2, 5, 6].contains cls || (cls = 16 && (d.rcd.mains || d.mains))

/-- Keep LNT_LUXACT. -/
def refreshLux (s : State) : State :=
  s.wrs [(Reg.LNT_LUXACT_OVR, s.lux.ovr.length), (Reg.LNT_LUXACT_FAULTY, (s.lnt.nodes.filter fun p => p.2.lux.faults != 0).length)]

/-- Log and report a raise or a clear. ORIGIN: 0 node report, 1 module, 2 answer to the query of R542. -/
def faultTell (s : State) (ln cls : Nat) (raised : Bool) (detail origin t : Nat) : State :=
  let f := feederOf s ln
  let s := s.event 5 (if raised then Ev.LAMP_FAULT else Ev.LAMP_FAULT_CLEAR) 1 0 [ln, cls, detail]
  let s := s.report 0x0601 1 (luxBody ln (if f < 32 then f else 0xFF) t (le 1 cls ++ le 1 (b2n raised) ++ le 2 detail ++ le 1 origin))
  refreshLux (s.raise Reg.LNT_LUXEVT_FLTNEW)

/-- A class is raised at `t`: counted and nothing else when it is supply-dependent and the feeder's supply explains it (R533, R541). -/
def faultRaise (s : State) (ln cls detail origin t : Nat) : State :=
  match s.node ln with
  | none => s
  | some d =>
    let f := feederOf s ln
    let x := s.feeder f
    let near := match x.lossAt with
      | some l => decide (t ≤ l) && decide (l ≤ t + 1000000000)
      | none => false
    if bit d.lux.faults cls then s
    else if supplyDep d cls && (x.st != 0 || near) then
      ((s.modLux ln fun u => { u with suppr := true }).setFeeder f { x with suppr := x.suppr + 1 }).inc Reg.LNT_LUXCNT1_SUPPR
    else faultTell (s.modLux ln fun u => { u with faults := putBit u.faults cls true }) ln cls true detail origin t

/-- A class is cleared. -/
def faultClear (s : State) (ln cls detail origin t : Nat) : State :=
  match s.node ln with
  | none => s
  | some d =>
    if !bit d.lux.faults cls then s
    else faultTell (s.modLux ln fun u => { u with faults := putBit u.faults cls false }) ln cls false detail origin t

/-! ### Howls (R466 to R468, R475) -/

/-- The members of a howl: every node, or those of a group. -/
def howlMembers (s : State) (scope group : Nat) : List Nat :=
  s.lnt.nodes.keys.filter fun ln => scope = 1 || ((luxNode s ln).map fun x => x.grp.contains group).getD false

/-- The channels a howl is sent on: those of HCHAN that a member in RXON listens to (R467). -/
def howlChans (s : State) (scope group : Nat) : List Nat :=
  let m := howlMembers s scope group
  let on := ((howlers s).filter fun p => m.contains p.1).map (·.2)
  (sec04 s).hchan.filter (on.contains ·)

/-- The version of the group key of howls, where its slot is valid. -/
def howlKeyVer (s : State) : Nat :=
  (((sec03 s).gkeys.find? fun g => g.1 = (sec04 s).hkey).bind fun g => (s.key.slots.get? g.2).map (·.ver)).getD 0

/-- Take the next counter value of the group key of howls; a new key version starts at 1, and the ceiling in MRAM rises by 1,024
whenever the counter reaches it (R427, R481). -/
def nextGroupCtr (s : State) : State × Nat :=
  let k := (sec04 s).hkey
  let v := howlKeyVer s
  let c := match s.lnt.gctr.get? k with
    | some (v', n) => if v' = v then n else 0
    | none => 0
  let top := match s.lnt.gceil.get? k with
    | some (v', n) => if v' = v then n else 0
    | none => 0
  let top' := if c = top then top + 1024 else top
  ({ s with lnt := { s.lnt with gctr := s.lnt.gctr.set k (v, c + 1), gceil := s.lnt.gceil.set k (v, top') } }, c + 1)

/-- Queue a howl: none when its MSGID was used within 600 s. Members that sleep get unicast copies (R466, R475). -/
def howlPut (s : State) (origin tag scope group ttl : Nat) (deadline : Option Nat) (op : Nat) (body : List Byte) : Option (State × Nat) :=
  let id := (s.lnt.msgid + 1) % 65536
  let used := s.lnt.used.filter fun u => s.now < u.2 + 600000000000
  if used.any (·.1 = id) then none
  else
    let (s, fc) := nextGroupCtr s
    let seq := (s.lnt.seq + 1) % 256
    let sleepers := (howlMembers s scope group).filter fun ln => ((s.node ln).map fun d => d.tsc != 0).getD false
    let h : Howl := {
      msgid := id, origin := origin, tag := tag, scope := scope, group := group, ttl := ttl, deadline := deadline, op := op
      body := body, seq := seq, fcnt := fc, todo := howlChans s scope group, echo := sleepers.length, stop := s.now }
    let seen := (s.lnt.seen.filter fun u => s.now < u.2 + 600000000000) ++ [(id, s.now)]
    let l := { s.lnt with
      msgid := id, used := used ++ [(id, s.now)], seq := seq, howls := s.lnt.howls ++ [h], seen := seen.drop (seen.length - 4096) }
    let s := { s with lnt := l }
    let s := sleepers.foldl (fun s ln => queueData s ln { src := .echo id, cmd := false, op := op, body := body, deadline := deadline }) s
    some (s.inc Reg.LNT_CNT1_HOWLS, id)

/-! ### Overrides (R519 to R523) -/

/-- Send an override to the lanterns it covers: a howl for a group or the whole segment, with unicast frames restating the overrides that
rank higher; unicast to the others, and in place of a howl while a member awaits release (R521, R522). -/
def sendOverride (s : State) (id : Nat) (o : Override) : State :=
  let ms := (lanterns s).filter fun ln => covers s o ln
  let hold := holdOf s o
  let s := s.setLux { s.lux with ovr := s.lux.ovr.set id { o with hold := s.now + hold * 1000000000 } }
  let unicast (s : State) : State := (ms.filter fun ln => !hushed s ln && ((topOverride s ln).map (·.1)) = some id).foldl
    (fun s ln => queueLevel s ln (.override id) o.level o.ramp hold none) s
  let restate (s : State) : State := (ms.filter fun ln => !hushed s ln).foldl (fun s ln =>
    match topOverride s ln with
    | some (j, p) => if j = id then s else queueLevel s ln (.override j) p.level p.ramp (holdOf s p) none
    | none => s) s
  if (o.kind = 1 || o.kind = 3) && !ms.any (hushed s) then
    match howlPut s 1 0 (b2n (o.kind = 3)) (if o.kind = 1 then o.id else 0) 15 none 0x10 (levelBody o.level o.ramp hold) with
    | some (s, _) => restate s
    | none => unicast s
  else unicast s

/-- End an override: each lantern it covered gets its next applicable one, or LEVEL 0xFFFF (R523). -/
def endOverride (s : State) (id : Nat) : State :=
  match s.lux.ovr.get? id with
  | none => s
  | some o =>
    let ms := (lanterns s).filter fun ln => covers s o ln
    let s := refreshLux (s.setLux { s.lux with ovr := s.lux.ovr.erase id })
    (ms.filter fun ln => !hushed s ln).foldl (fun s ln =>
      match topOverride s ln with
      | some (j, p) => queueLevel s ln (.override j) p.level p.ramp (holdOf s p) none
      | none => queueLevel s ln (.override id) 0xFFFF o.ramp 0xFFFF none) s

/-! ### Waves (R524 to R531) -/

/-- A node's T in µs as spindle time, by its offset e (R525). -/
def spindleOf (s : State) (ln t : Nat) : Nat :=
  let e := ((s.node ln).map (·.offs)).getD 0
  ((t : Int) * 1000 - e * 1000).toNat

/-- One lantern of a wave (R526 to R529): `dist` metres ahead of the sensor, speed `v` in km/h. -/
def waveLantern (s : State) (c : PathCfg) (t v : Nat) (ln dist : Nat) : State :=
  match s.node ln with
  | none => s
  | some d =>
    let ns (m : Int) : Int := m * 3600000000 / (v : Int)
    let ton := max (s.now : Int) ((t : Int) + ns ((dist : Int) - c.lead))
    let toff := ((t : Int) + ns dist + (c.trail : Int) * 1000000000).toNat
    let f : DlFrame := { src := .wave, cmd := false, op := 0x10, body := levelBody 0 0 0 }
    let dur := frameNs s 4 (dlLen s ln d f)
    let soon := decide (ton < (s.now : Int) + dur)
    let lo := if soon then s.now else (ton - dur).toNat - 100000000
    let hi := if soon then s.now + 100000000 else (ton - dur).toNat
    let tend := if soon then s.now + dur else ton.toNat
    let send (lw : Nat) : State :=
      let hold := (toff - tend + 999999999) / 1000000000
      let s := s.modLux ln fun u => { u with wave := some (lw, tend + hold * 1000000000) }
      queueLevel s ln .wave lw c.ramp hold (some (max s.now lo, hi))
    if hushed s ln || (topOverride s ln).isSome then s
    else match d.lux.wave.filter fun w => decide (s.now < w.2) with
      | some (lw, stop) => if stop + 5000000000 < toff then send (max lw c.lwave) else s
      | none => if c.lwave ≤ schedLevel s ln ton.toNat then s else send c.lwave

/-- Start the waves of a TRAFFIC report (R524, R525). -/
def startWaves (s : State) (ln tn kind dir speed : Nat) : State :=
  (sec05 s).paths.vals.foldl (fun s c =>
    match c.sensors.find? fun x => x.1 = ln with
    | none => s
    | some (_, pos) =>
      if kind = 0 || 8 < kind || !bit c.kinds (kind - 1) || !(dir = 1 || (dir = 0 && c.acc0)) then s
      else
        let v := if speed = 0xFF || speed < 5 then c.vdef else speed
        let s := s.inc Reg.LNT_LUXCNT0_WAVES
        (c.lanterns.filter fun l => pos ≤ l.2).foldl (fun s l => waveLantern s c (spindleOf s ln tn) v l.1 (l.2 - pos)) s) s

/-! ### What other chapters tell the engine -/

/-- A contact with a node: COMMS_LOST clears, and its tables are brought up to date (R498, R535). -/
def luxContact (s : State) (ln t : Nat) : State := queueTables (faultClear s ln 16 0 1 t) ln

/-- A frame has ended: what the node now holds, and the releases of a pickup. -/
def luxEnded (s : State) (ln : Nat) (f : DlFrame) (ok : Bool) (t : Nat) : State :=
  match f.src with
  | .table k => if ok then s.modLux ln fun u => { u with held := u.held.set k f.body } else s
  | .release n => releaseEnded s n ln ok t
  | _ => s

end Sys2Proof.Machine
end

