-- ==== Sys2Proof/Machine/Link.lean ====
section
/-! DEFINITION. The link to the nodes: attempts, channel access, trains, exchanges, howl windows, and the checks of received frames
(07_air_protocol.md, 08_lantern_network.md). -/
namespace Sys2Proof.Machine

/-! ### Marks and results -/

/-- Mark a node sync-lost (R406). -/
def markLost (s : State) (ln t : Nat) : State :=
  match s.node ln with
  | none => s
  | some d =>
    if d.slost then s
    else
      let s := (s.modNode ln fun d => { d with slost := true }).inc Reg.PACK_AIR4_SYNCLOST
      nodeChange (s.event 5 Ev.NODE_SYNC_LOST 1 0 [ln]) ln 1 d.rxch t

/-- Change the frame in service of a node, the first of its queue. -/
def setHead (s : State) (ln : Nat) (f : DlFrame) : State := s.modNode ln fun d => { d with q := f :: d.q.drop 1 }

/-- Two bodies of a kind of R482 say the same but for ACT. -/
def sameCfg (k : Nat) (a b : List Byte) : Bool :=
  if k = 0 || k = 5 then a.take (a.length - 6) = b.take (b.length - 6) else k = 4 || a = b

/-- The node has acknowledged a command of the module: what it sets is in force (R417, R480, R482). -/
def cmdAcked (s : State) (ln : Nat) (f : DlFrame) (t : Nat) : State :=
  match f.src with
  | .cfg k =>
    let at_ (i : Nat) : Nat := fromLe ((f.body.drop i).take 2)
    let more := ((s.node ln).map fun d => d.q.any fun g => g.src = .cfg k).getD false
    let still := (cfgCmds s ln k).any fun c => sameCfg k c.2.2 f.body
    let s := if more || !still then s else s.modNode ln fun d => { d with due := d.due.filter (· != k) }
    if k = 0 then
      match s.node ln with
      | none => s
      | some d =>
        let howl := if at_ 4 = 0xFFFF then none else some (at_ 4)
        let n := fromLe ((f.body.drop 6).take 1)
        let d' := { d with
          home := at_ 0, alt := at_ 2, howl := howl, rchs := (List.range n).map fun i => at_ (7 + 2 * i), onAlt := false }
        let s := s.modNode ln fun _ => d'
        let s := if d.onAlt then nodeChange s ln 6 d'.home t else s
        if d'.rxch = d.rxch then s else chanMoved s ln
    else if k = 5 then s.modNode ln fun d => { d with tsc := fromLe (f.body.take 1) }
    else s
  | _ => if f.cmd && f.op = 5 then s.modNode ln fun d => { d with pver := fromLe f.body } else s

/-- Take back a frame's transmit request that is not on air. -/
def dropReq (s : State) (f : DlFrame) (now : Nat) : State :=
  match f.req with
  | none => s
  | some id =>
    if f.stage != .asked then s
    else
      let s := s.setRad { s.rad with pend := s.rad.pend.filter (·.id != id) }
      match s.rad.air.find? (·.req.id = id) with
      | some c => releaseCarrier s c now
      | none => s

/-- A frame ends with a result of Table NET-8 (R490): counted, reported for the host, the node marked unreachable under R492 and R339. -/
def endFrame (s : State) (ln : Nat) (f : DlFrame) (res t : Nat) : State :=
  let s := dropReq s f t
  let s := s.modNode ln fun d =>
    { d with q := d.q.erase f, tags := if res = 0 then d.tags else d.tags.erase f.htag }
  let s := s.inc (if res = 0 then Reg.LNT_CNT0_DLOK else Reg.LNT_CNT0_DLFAIL)
  let s := if res = 1 then s.inc Reg.PACK_AIR3_NOACK else s
  let s := if res = 1 || res = 3 then markUnreach s ln t else s
  let hops := ((s.node ln).map (·.rcd.hops)).getD 0
  let s := match f.src with
    | .host tag => s.report 0x0502 0 (nodeBody ln t (le 2 tag ++ le 1 res ++ le 1 (min 255 f.tries) ++ le 1 (min 255 f.trains) ++ le 1 hops ++
        le 2 f.chan))
    | _ => s
  let s := if res = 0 then cmdAcked s ln f t else s
  luxEnded s ln f (res = 0) (if f.aired then f.stop else t)

/-! ### Attempts (R385 to R388, R403 to R411, R453 to R456) -/

/-- A frame's deadline has passed before it was on air. -/
def overdue (f : DlFrame) (now : Nat) : Bool :=
  !f.aired && f.stage != .air && (match f.deadline with
    | some t => decide (t ≤ now)
    | none => false)

/-- Latest start of a request with no bound. -/
def noLimit : Nat := 2 ^ 63

/-- Move a start at `t` of an exchange of `len` past the howl windows of width `w` that begin at `o` and every `h` after it: out of a
window when the node listens to howls, and ending before the next one begins. Answers the start and the latest start. -/
def clearOf (h w len : Nat) (howl : Bool) (o : Int) (t : Nat) : Nat × Nat :=
  if h = 0 then (t, noLimit)
  else
    let r := ((t : Int) - o) % (h : Int)
    let r := r.toNat
    let t' := if howl && r < w then t + (w - r) else if h - r < len then t + (h - r) + (if howl then w else 0) else t
    let r' := (((t' : Int) - o) % (h : Int)).toNat
    (t', t' + (h - r') - len)

/-- The first start of an exchange from `t` on that R453 allows, by the spindle and by the node's clock widened by TIMETOL, with the latest
start before the next window; none when no gap is wide enough. -/
def exchangeStart (s : State) (d : Node) (t len : Nat) : Option (Nat × Nat) :=
  let h := (sec04 s).hper * 1000000
  let w := (sec04 s).hwin * 1000000
  let tol := tolNs s
  let f1 := clearOf h w len d.howl.isSome 0
  let f2 := clearOf h (w + 2 * tol) len d.howl.isSome (-(d.offs * 1000) - (tol : Int))
  let go (x : Nat) : Nat := (f2 (f1 x).1).1
  let a := iter go 4 t
  if (f1 a).1 = a && (f2 a).1 = a then some (a, min (f1 a).2 (f2 a).2) else none

/-- The guard of R403 for a sniff at `ts` (ns). -/
def guardNs (s : State) (d : Node) (ts : Int) : Nat :=
  let r := if d.rho = 0 then 2 * (sec03 s).rhoDef else d.rho
  let dt := (ts - (d.contact.getD 0 : Nat)).toNat
  1000000 + (2 * (50 * r + 5) * dt + 99999999) / 100000000

/-- The next sniff instant from `now` on that a synced attempt can meet, with its guard; `fac` is 1 or 2 (R405). None when the guard exceeds
Ts / 2. A wave's frame takes the last instant that lets it end by `by_`, or the first after it (R531). -/
def sniffPlan (s : State) (ln : Nat) (d : Node) (fac now : Nat) (by_ : Option Nat) : Option (Int × Nat) :=
  let ts := tsNs d.tsc
  let o : Int := (phaseNs ln d.tsc : Int) - d.offs * 1000
  let at_ (k : Int) : Int := k * ts + o
  let g (k : Int) : Nat := fac * guardNs s d (at_ k)
  let k0 := ((now : Int) - o) / ts + 1
  let k1 := (List.range 4).foldl (fun (k : Int) _ => if at_ k - g k - listenNs s < (now : Int) then k + 1 else k) k0
  let k := match by_ with
    | none => k1
    | some b =>
      let last := ((b : Int) - g k1 - sniffNs s - frameNs s 4 60 - o) / ts
      if k1 ≤ last then last else max k1 (((b : Int) - o) / ts + 1)
  if ts / 2 < g k || at_ k - g k - listenNs s < (now : Int) then none else some (at_ k, g k)

/-- Give a frame its SEQ, FCNT and FP, and an HTAG on a route (R457), when it is first formed; the ceiling in MRAM rises by 1,024 whenever the counter reaches it (R384, R386,
R427). None under R906, and without a link key. -/
def formFrame (s : State) (ln : Nat) (f : DlFrame) (t : Nat) : Option (State × DlFrame) :=
  match s.node ln with
  | none => none
  | some d =>
    if d.lkey.isNone then none
    else if f.seq.isSome then some (s, f)
    else if 0xFFFFFFFE ≤ d.tx then none
    else
      let c := d.tx + 1
      let m := s.lnt.ctr.getD ln { eui := d.rcd.eui }
      let m := if d.tx = m.ceil then { m with ceil := m.ceil + 1024 } else m
      let seq := (s.lnt.seq + 1) % 256
      let s := { s with lnt := { s.lnt with seq := seq, ctr := s.lnt.ctr.set ln m } }
      let h := if d.rcd.hops = 0 || f.cmd || f.htag != 0 then 0 else nextHtag d
      let s := s.modNode ln fun d => { d with
        tx := c, htag := if h = 0 then d.htag else h, tags := if h = 0 then d.tags else d.tags.set h none }
      let s := if 2 ^ 31 ≤ c then rekeyDue s ln 0 t else s
      some (s, { f with htag := if h = 0 then f.htag else h, seq := some seq, fcnt := c, fp := decide (1 < d.q.length), ver := uniVer s ln })

/-- Hand the request of a frame to the scheduler, after `lead` with a preamble of `p` bytes. -/
def ask (s : State) (ln : Nat) (f : DlFrame) (ch : Nat) (mode : DlMode) (cls : TxCls) (e l dur p : Nat) (lead : List (Nat × List Byte)) : State :=
  let (s, id) := txPut s ch cls e l dur (lead ++ [(p, dlPsdu s ln f)])
  setHead s ln { f with stage := .asked, mode := mode, req := some id, chan := ch, altNext := false }

/-- A train for a frame (R408, R411). -/
def askTrain (s : State) (ln : Nat) (d : Node) (f : DlFrame) (ch now : Nat) : State :=
  if (sec03 s).trainTry ≤ f.trains then endFrame (setHead s ln f) ln f 1 now
  else
    let ts := tsNs d.tsc
    let wake := frameNs s 4 9
    let n := (ts + sniffNs s + wake - 1) / wake
    let dur := n * wake + 2000000 + frameNs s 4 (dlLen s ln d f)
    let e := max (max now d.ackEnd) (if f.trains = 0 then 0 else f.stop + ts)
    ask s ln f ch .train .train e (if f.aired then noLimit else f.deadline.getD noLimit) dur 4 (wakes s f.ver ln n)

/-- Try the frame in service of a node. -/
def attempt (s : State) (ln now : Nat) : State :=
  match s.node ln with
  | none => s
  | some d =>
    match d.q with
    | [] => s
    | f :: _ =>
      let late := match f.window with
        | some w => d.tsc = 0 && w.2 < now
        | none => false
      if f.stage != .idle || d.unreach || d.noRoute || !s.runs 4 then s
      else if overdue f now || (late && !f.aired) then endFrame s ln f 2 now
      else
        let hopLn := if d.rcd.hops = 0 then ln else (d.rcd.relays.head?).getD ln
        match s.node hopLn with
        | none => s
        | some h =>
          match pickChan s h f.altNext with
          | none => endFrame s ln f 3 now
          | some ch =>
            match formFrame s ln f now with
            | none => s
            | some (s, f) =>
              let n := dlLen s ln d f
              let dur := frameNs s 4 n
              let limit := if f.aired then noLimit else f.deadline.getD noLimit
              let first := max now h.ackEnd
              if h.tsc = 0 then
                let lo := match f.window with
                  | some w => max first w.1
                  | none => first
                match exchangeStart s h lo (dur + 1000000 + ackNs s true) with
                | none => setHead s ln f
                | some (e, l) => ask s ln f ch .rxon .sync e (min (min l limit) ((f.window.map (·.2)).getD noLimit)) dur 4 []
              else if (h.rxwin.map fun w => decide (now ≤ w)).getD false then
                ask s ln f ch .window .sync first (min limit (h.rxwin.getD 0)) dur 4 []
              else if h.slost || h.contact.isNone then askTrain s ln h f ch now
              else match sniffPlan s hopLn h (if f.failed = 0 then 1 else 2) now (f.window.map fun w => w.2 + dur) with
                | none => askTrain (markLost (setHead s ln f) hopLn now) ln h f ch now
                | some (ts, g) =>
                  let p := max 4 (((2 * g + sniffNs s) * 3 + syncByte s - 1) / syncByte s)
                  let e := (ts - (g : Int) - listenNs s).toNat
                  ask s ln f ch .sync .sync e (e + 1000) (frameNs s p n) p []

/-- Try frames of one node until one waits, `n` times at most. -/
def kickNode (now : Nat) : Nat → State → Nat → State
  | 0, s, _ => s
  | n + 1, s, ln =>
    match (s.node ln).map (·.q) with
    | some (f :: _) => if f.stage = .idle then kickNode now n (attempt s ln now) ln else s
    | _ => s

/-- Start what may start: each node serves one frame at a time, in order (R489). -/
def kickAll (s : State) (now : Nat) : State :=
  let pass (s : State) : State := s.lnt.nodes.foldl (fun s p => if p.2.q.isEmpty then s else kickNode now (p.2.q.length + 1) s p.1) s
  pass (pass (releaseOld03 s))

/-! ### Exchanges -/

/-- An exchange has failed (R383, R385, R405, R406, R411): the next attempt, a train, or the end NO_ACK. -/
def exchangeFailed (s : State) (ln : Nat) (f : DlFrame) (t : Nat) : State :=
  let g := { f with stage := .idle, req := none }
  match f.mode with
  | .rxon => if f.limit ≤ f.tries then endFrame (setHead s ln g) ln g 1 t else setHead s ln g
  | .window => (setHead s ln g).modNode ln fun d => { d with rxwin := none }
  | .sync =>
    let g := { g with failed := f.failed + 1 }
    let s := setHead s ln g
    if 2 ≤ g.failed then markLost s ln t else s
  | .train => setHead s ln g

/-- Channel access for a frame has ended CHANNEL_BUSY (R361, R491). -/
def chanBusy (s : State) (ln : Nat) (f : DlFrame) (now : Nat) : State :=
  let s := s.inc Reg.RAD_CNT1_LBTBUSY
  let g := { f with busy := 0, req := none }
  if regionE s && !f.afa then
    (setHead s ln { g with afa := true, altNext := true, stage := .idle }).inc Reg.RAD_CNT1_AFA
  else
    let ok := match f.deadline with
      | some t => decide (now + 1000000000 ≤ t)
      | none => true
    if ok then setHead s ln { g with stage := .retry, again := now + 1000000000 }
    else endFrame (setHead s ln { g with stage := .idle }) ln { g with stage := .idle } 6 now

/-- The frame behind the last element of request `id` as it goes on air. -/
def setFrame (s : State) (id : Option Nat) (psdu : List Byte) : State :=
  let put (c : Carrier) : Carrier :=
    if id = some c.req.id then
      { c with req := { c.req with frames := c.req.frames.dropLast ++ [((c.req.frames.getLast?.map (·.1)).getD 4, psdu)] } }
    else c
  s.setRad { s.rad with air := s.rad.air.map put }

/-- The preamble of a frame starts at `t`, or that of its train, on the air for `dur` in all. TIME gives the end of its own sync word. -/
def launch (s : State) (ln : Nat) (f : DlFrame) (t dur : Nat) : State :=
  let train := f.mode = .train
  let s := if train then s.inc Reg.PACK_AIR4_TRAINS else s
  let s := if f.src = .wave && !f.aired then s.inc Reg.LNT_LUXCNT0_WAVEFR else s
  let n := ((s.node ln).map fun d => dlLen s ln d f).getD 0
  let body := if f.cmd && f.op = 1 && !f.aired then le 8 ((t + (dur - (2 + n) * dataByte s / 3)) / 1000) ++ f.body.drop 8 else f.body
  let f := { f with body := body }
  let f := { f with sent := dlPsdu s ln f }
  let s := setFrame s f.req (dlPsdu s ln f)
  setHead s ln { f with stage := .air, aired := true, busy := 0, tries := f.tries + 1, trains := f.trains + b2n train }

/-- The node whose frame in service has a transmit request. -/
def ownerOf (s : State) (id : Nat) : Option (Nat × DlFrame) :=
  s.lnt.nodes.findSome? fun p => match p.2.q with
    | f :: _ => if f.req = some id then some (p.1, f) else none
    | [] => none

/-- A howl copy's request has ended: sent, or back among those to send (R467, R959). -/
def howlResult (s : State) (id : Nat) (res : TxResult) (now : Nat) : State :=
  let f (h : Howl) : Howl :=
    match h.asked.find? fun a => a.1 = id with
    | none => h
    | some (_, ch) =>
      let h := { h with asked := h.asked.filter (·.1 != id) }
      if res = .done then { h with sent := h.sent + 1, stop := max h.stop now } else { h with todo := h.todo ++ [ch] }
  { s with lnt := { s.lnt with howls := s.lnt.howls.map f } }

/-- The result of a transmit request reaches the frame it was for. -/
def linkResult (s : State) (now : Nat) (r : Nat × TxResult) : State :=
  match ownerOf s r.1 with
  | none => howlResult s r.1 r.2 now
  | some (ln, f) =>
    let idle := { f with stage := .idle, req := none }
    match r.2 with
    | .done =>
      let s := if f.stage = .asked then launch s ln f now (frameNs s 4 (((s.node ln).map fun d => dlLen s ln d f).getD 0)) else s
      s.modNode ln fun d => { d with q := match d.q with
        | g :: q => { g with stage := .ack, req := none, stop := now } :: q
        | [] => [] }
    | .late =>
      let s := setHead s ln idle
      let s := if f.mode = .window then s.modNode ln fun d => { d with rxwin := none } else s
      if overdue idle now then endFrame s ln idle 2 now else s
    | .budget =>
      let again := now + 60000000000
      let ok := match f.deadline with
        | some t => decide (again ≤ t)
        | none => true
      if ok then setHead s ln { idle with stage := .retry, again := again } else endFrame (setHead s ln idle) ln idle 7 now
    | .busy => chanBusy s ln { f with stage := .idle } now
    | .cut => if f.stage = .air then exchangeFailed s ln f now else setHead s ln idle

/-- Tell the senders what has become of their requests, oldest first, and start what may start. -/
def tellLink (s : State) (now : Nat) : State :=
  let l := s.rad.ended.reverse
  kickAll (l.foldl (fun s r => linkResult s now r) (s.setRad { s.rad with ended := [] })) now

/-- The radio domain has been reset: no request is left, and the frames on it are tried again (R352). -/
def linkCut (s : State) : State :=
  s.lnt.nodes.keys.foldl (fun s ln =>
    match (s.node ln).map (·.q) with
    | some (f :: _) =>
      if f.stage = .air || f.stage = .ack then exchangeFailed s ln f s.now
      else if f.stage = .asked then setHead s ln { f with stage := .idle, req := none } else s
    | _ => s) { s with lnt := { s.lnt with howls := s.lnt.howls.map fun h => { h with todo := h.todo ++ h.asked.map (·.2), asked := [] } } }

/-! ### The radio's rows -/

/-- TRANSMIT_REQUEST: an engine hands the scheduler a request to send frames, for the time that they take (Table AIR-1). -/
def execTransmitRequest (chan : Nat) (cls : TxCls) (earliest latest : Nat) (frames : List (Nat × List Byte)) (s : State) :
    Host.Outcome State Fault Refusal :=
  done s <| if !s.runs 4 || 511 < chan then s else (txPut s chan cls earliest latest (airNs s cls frames) frames).1

/-- TX_SCHEDULER_STEP (R344 to R350, R354, R356, R362). -/
def execTxSchedulerStep (now : Nat) (s : State) : Host.Outcome State Fault Refusal :=
  done s <| if !s.runs 4 then s else tellLink (schedule s now) now

/-- TRANSMIT_END (R345): a frame has ended. -/
def execTransmitEnd (id : Nat) (s : State) : Host.Outcome State Fault Refusal :=
  done s <|
    match s.rad.air.find? (·.req.id = id) with
    | some c => tellLink (endCarrier s id .done) (max s.now c.stop)
    | none => s

/-- LO_UNLOCK (R352). -/
def execLoUnlock (s : State) : Host.Outcome State Fault Refusal :=
  done s <| if !s.runs 4 then s else tellLink (loUnlock s) s.now

/-- The CCA of a carrier that a node's frame, a howl copy or another request holds found the channel busy (R390, R392). -/
def ccaBusy (s : State) (c : Carrier) (t : Nat) : State :=
  let s := releaseCarrier s c t
  let sync : Option (Nat × DlFrame) := match ownerOf s c.req.id with
    | some (ln, f) => if f.mode = DlMode.sync then some (ln, f) else none
    | none => none
  match sync with
  | some (ln, f) =>
    let g := { f with busy := f.busy + 1, stage := .idle, req := none }
    if 5 ≤ g.busy then chanBusy s ln g t else setHead s ln g
  | none =>
    let nb := c.req.nb + 1
    if 5 ≤ nb then s.setRad { s.rad with ended := (c.req.id, .busy) :: s.rad.ended }
    else
      let slots := Config.freeNat s.free % 2 ^ min (3 + nb) 6
      let r := { c.req with nb := nb, earliest := t + slots * 320000 }
      { s with free := s.free + 1, rad := { s.rad with pend := s.rad.pend ++ [r] } }

/-- CCA_END (R389 to R392): clear, and the preamble starts; or busy, and the carrier is released. A clear one that would run an exchange
into a howl window (R453) is released too, and one past the latest start ends LATE (R344, R387, R467). -/
def execCcaEnd (id : Nat) (clear : Bool) (t : Nat) (s : State) : Host.Outcome State Fault Refusal :=
  done s <|
    match s.rad.air.find? (·.req.id = id) with
    | none => s
    | some c =>
      if c.req.cls = .ack then s
      else if !clear then tellLink (ccaBusy s c t) t
      else
        let up (s : State) : State := s.setRad { s.rad with
          air := s.rad.air.map fun x => if x.req.id = id then { x with stop := t + x.req.dur, launch := t - txDelay s } else x }
        let late (s : State) : State :=
          let s := releaseCarrier s c t
          tellLink ((s.setRad { s.rad with ended := (id, .late) :: s.rad.ended }).inc Reg.RAD_CNT0_LATE) t
        match ownerOf s id with
        | none => if c.req.latest < t then late s else up s
        | some (ln, f) =>
          if f.stage != .asked then s
          else if f.mode != .sync && c.req.latest < t then late s
          else
            let hit : Bool := match s.node ln with
              | some d => f.mode = .rxon && d.rcd.hops = 0 &&
                (exchangeStart s d t (c.req.dur + 1000000 + ackNs s true)).map (·.1) != some t
              | none => false
            if hit then tellLink (setHead (releaseCarrier s c t) ln { f with stage := .idle, req := none }) t
            else launch (up s) ln f t c.req.dur

/-- ACK_TIMEOUT (R383): the exchange of a node's frame in service has failed: no signal 1,400 µs after it, or no ACK in time. -/
def execAckTimeout (ln t : Nat) (s : State) : Host.Outcome State Fault Refusal :=
  done s <|
    match (s.node ln).map (·.q) with
    | some (f :: _) => if f.stage = .ack && f.stop + 1400000 ≤ t then kickAll (exchangeFailed s ln f t) t else s
    | _ => s

/-! ### Contacts and reception (R396 to R398, R414, R415, R422 to R437) -/

/-- A contact: the offset where the node gave its time, the marks that it clears, and what waits for it. -/
def contact (s : State) (ln : Nat) (e : Option Int) (t : Nat) : State :=
  match s.node ln with
  | none => s
  | some d =>
    let s := s.modNode ln fun d => { d with contact := some t, offs := e.getD d.offs, slost := false, unreach := false }
    let s := if d.slost then nodeChange s ln 2 d.rxch t else s
    let s := if d.unreach then nodeChange s ln 4 d.rxch t else s
    let far := match e with
      | some x => decide (((sec03 s).timeTol : Int) * 1000 < x) || decide (x < -(((sec03 s).timeTol : Int) * 1000))
      | none => false
    let s := if far then queueTime s ln else s
    luxContact (queueDue s ln) ln t

/-- An engine receives on a channel a frame whose sync word ends at `t` (R326, R329, R352). -/
def hears (s : State) (ch t : Nat) : Bool :=
  s.runs 4 && s.runs 1 && s.rad.grid && ch < 512 && !isDark s ch && !s.rad.blankAll &&
  (s.rd Reg.RAD_STAT_CH1OK = 1 || (s.rd Reg.RAD_STAT_CH0OK = 1 && !s.rad.blank0)) &&
  !(s.rad.air.any fun c => c.req.chan = ch) && s.rad.deaf.getD ch 0 ≤ t

/-- An LN is not reserved (R376). -/
def lnOk (n : Nat) : Bool := n < 0x020000 || (0xFFFFFE ≤ n && n < 0x1000000)

/-- A frame keeps Table AIR-6, R376 and R380 as a frame of type `typ` from a node. -/
def headerOk (f : RxFrame) (typ : Nat) : Bool :=
  let rt := if f.rt then 1 ≤ f.hops && f.hops ≤ (if f.pver = 1 then 3 else 6) && f.relays.all lnOk else true
  f.typ = typ && !f.resv && f.sec && lnOk f.dst && lnOk f.src && rt &&
  (if typ = 3 then f.dst = 0xFFFFFF && f.orig = 0xFFFFFE && !f.ar && !f.rt && f.src < 0x020000
   else f.dst = 0xFFFFFE && f.ar && f.up && f.src < 0x020000 && f.keyid = 0 &&
     (if typ = 2 then !f.rt else !f.rt || f.idx = f.hops))

/-- AIR_AUTH_FAIL, at most one record a second for an LN (R430). REASON: 1 MIC, 2 replay. -/
def authFail (s : State) (ln reason t : Nat) : State :=
  match s.node ln with
  | none => s
  | some d =>
    if (d.authAt.map fun a => decide (t < a + 1000000000)).getD false then s
    else (s.modNode ln fun d => { d with authAt := some t }).event 3 Ev.AIR_AUTH_FAIL 4 0 [ln, reason]

/-- A frame from an LN without a record, or of another EUI than its record's (R4, R448). -/
def unknownNode (s : State) (f : RxFrame) : State :=
  let s := (s.inc Reg.PACK_AIR1_UNROST).inc Reg.LNT_CNT2_UNKN
  let n := s.lnt.unkN + 1
  if (s.lnt.unkAt.map fun a => decide (f.t < a + 1000000000)).getD false then { s with lnt := { s.lnt with unkN := n } }
  else { s with lnt := { s.lnt with unkN := 0, unkAt := some f.t } }.event 7 Ev.NODE_UNKNOWN 4 0 [f.src, f.chan, n]

/-- The checks of R436 up to the roster: the node the frame comes from, or the count of the first failure. -/
def rxNode (s : State) (f : RxFrame) (typ : Nat) : State × Option Node :=
  if !hears s f.chan f.t then (s, none)
  else if f.phrResv || f.len < 5 || 255 < f.len then (s.inc Reg.PACK_AIR0_HDRERR, none)
  else if !f.fcsOk then (s.inc Reg.PACK_AIR0_FCSERR, none)
  else if !(f.pver = 1 || f.pver = 2) then (s.inc Reg.PACK_AIR1_VERERR, none)
  else if !headerOk f typ then (s.inc Reg.PACK_AIR0_HDRERR, none)
  else match s.node f.src with
    | none => (unknownNode s f, none)
    | some d => if f.euiOk || typ = 3 then (s, some d) else (unknownNode s f, none)

/-- The end of a received frame on the air, from its stamp (Table TIME-5). -/
def rxEnd (s : State) (f : RxFrame) : Nat := f.t + (2 + f.len) * dataByte s / 3

/-- Acknowledge a frame and meet the node in its receive window (R381, R387, R388, R415, R449). Nothing is sent on a masked channel. -/
def sendAck (s : State) (f : RxFrame) (d : Node) : State :=
  let e := rxEnd s f + 1000000
  if !masked s f.chan then s
  else
    let dur := ackNs s false
    let held := d.q.any fun g => g.stage != .air && g.stage != .ack && g.stage != .resp
    let s := (txPut s f.chan .ack e (e + 20000) dur [(4, ackPsdu f.pver f.seq (held && !f.rt))]).1
    if f.rt then s
    else
      let s := match d.q with
        | g :: _ => if g.stage = .asked && (g.mode = .sync || g.mode = .train) && s.rad.pend.any fun r => some r.id = g.req then
            setHead (dropReq s g f.t) f.src { g with stage := .idle, req := none } else s
        | [] => s
      let onAlt := if f.chan = d.alt then true else if f.chan = d.home then false else d.onAlt
      let win := if held then some (e + dur + rxwinNs s / 2) else d.rxwin
      let s := s.modNode f.src fun d => { d with ackEnd := e + dur, rxwin := win, onAlt := onAlt }
      if onAlt = d.onAlt then s else chanMoved (nodeChange s f.src (if onAlt then 5 else 6) f.chan f.t) f.src

/-- A frame of type `typ` from a node: the checks of R436 in order, and for an accepted new frame its acknowledgement. Answers whether it
goes on to the network firmware. -/
def rxFrame (s : State) (f : RxFrame) (typ : Nat) : State × Bool :=
  match rxNode s f typ with
  | (s, none) => (s, false)
  | (s, some d) =>
    if !f.micOk || d.lkey.isNone then (authFail (s.inc Reg.PACK_AIR2_MICERR) f.src 1 f.t, false)
    else if d.lastRx = some (f.seq, f.fcnt) then (sendAck (s.inc Reg.PACK_AIR3_DUP) f d, false)
    else if f.fcnt ≤ d.rx || 0xFFFFFFFF ≤ f.fcnt then (authFail (s.inc Reg.PACK_AIR2_REPLAY) f.src 2 f.t, false)
    else
      let s := s.setRad { s.rad with rssi := s.rad.rssi.set f.chan f.rssi }
      let s := s.modNode f.src fun d => { d with rx := f.fcnt, lastRx := some (f.seq, f.fcnt), rssi := f.rssi }
      let s := if 2 ^ 31 ≤ f.fcnt then rekeyDue s f.src 1 f.t else s
      (sendAck s f d, true)

/-- BARK_RECEIVED (R287, R414). -/
def execBarkReceived (f : RxFrame) (b : Bark) (s : State) : Host.Outcome State Fault Refusal :=
  done s <|
    let f := stamped s f
    match rxFrame s f 2 with
    | (s, false) => kickAll s f.t
    | (s, true) =>
      match s.node f.src with
      | none => s
      | some d =>
        let nbver := if f.pver = 2 then b.nbver else d.nbver
        let pvmax := max 1 b.pvmax
        let same := d.boots = b.boots && d.pvmax = pvmax && d.nbver = nbver && d.mains = b.mains && d.relay = b.relay
        let seen := match d.seenAt with
          | none => true
          | some a => !same || decide (a + 3600000000000 ≤ f.t)
        let tsc := if b.tsc ≤ 6 then b.tsc else d.tsc
        let s := s.modNode f.src fun d => { d with
          barked := true, rho := b.rho, pvmax := pvmax, boots := b.boots, nbver := nbver, supply := b.supply, mains := b.mains
          relay := b.relay, tsc := tsc, seenAt := if seen then some f.t else d.seenAt }
        let s := if tsc = d.rcd.tsc then s else addDue s f.src 5
        let s := if pvmax = d.pvmax then s else refreshVers s f.t
        let e := toS 48 ((b.ntime48 + 2 ^ 48 - f.t / 1000 % 2 ^ 48) % 2 ^ 48)
        let s := contact s f.src (if b.tunk then none else some e) f.t
        let s := if b.tunk then queueTime s f.src else s
        let flags := b2n b.tunk + 2 * b2n b.slost + 4 * b2n b.mains + 8 * b2n b.relay + 16 * b2n b.rekey
        let s := if seen then s.report 0x0503 3 (nodeBody f.src f.t (le 2 f.chan ++ le 1 f.rssi ++ le 1 flags ++ le 1 (16 * b.pvmax + b.tsc) ++
          le 1 b.supply ++ le 2 b.boots ++ le 4 nbver ++ le 1 b.rho)) else s
        kickAll s f.t

/-- The exchange an ACK answers: the frame in service that waits on its channel with its SEQ, for an ACK that ends in time (R383). -/
def ackOwner (s : State) (a : AckFrame) : Option (Nat × DlFrame) :=
  s.lnt.nodes.findSome? fun p => match p.2.q with
    | f :: _ => if f.stage = .ack && f.chan = a.chan && f.seq = some a.seq && a.t + (2 + a.len) * dataByte s / 3 ≤ f.stop + 1400000 + ackNs s true then some (p.1, f) else none
    | [] => none

/-- ACK_RECEIVED (R287, R396, R397, R437, R457): a contact of the node that sent it, the first relay on a route. DESIGN CHOICE (log entry
97): a MAC command on a route, which has no HTAG, ends OK with the ACK of its first hop. -/
def execAckReceived (a : AckFrame) (s : State) : Host.Outcome State Fault Refusal :=
  done s <|
    let a := { a with t := rxStamp s a.t }
    if !hears s a.chan a.t then s
    else if a.phrResv || a.len < 5 || 255 < a.len then s.inc Reg.PACK_AIR0_HDRERR
    else if !a.fcsOk then s.inc Reg.PACK_AIR0_FCSERR
    else if !(a.pver = 1 || a.pver = 2) then s.inc Reg.PACK_AIR1_VERERR
    else if !a.up || a.resv || a.len != 9 then s.inc Reg.PACK_AIR0_HDRERR
    else match ackOwner s a with
      | none => s
      | some (ln, f) =>
        match s.node ln with
        | none => s
        | some d =>
          let hop := if d.rcd.hops = 0 then ln else (d.rcd.relays.head?).getD ln
          let prev := ((s.node hop).map (·.offs)).getD 0
          let raw := (a.ntime : Int) - ((a.t / 1000 : Nat) : Int)
          let e := prev + toS 32 (ofS 32 (raw - prev))
          let s := s.setRad { s.rad with rssi := s.rad.rssi.set a.chan a.rssi }
          let s := s.modNode hop fun d => { d with rssi := a.rssi }
          let s := if d.rcd.hops = 0 || f.cmd then endFrame s ln f 0 a.t else setHead s ln { f with stage := .resp, stop := a.t }
          let more := (f.fp || a.fp) && d.rcd.hops = 0
          let s := if more then s.modNode ln fun d => { d with rxwin := some (a.t + (2 + a.len) * dataByte s / 3 + rxwinNs s / 2) } else s
          kickAll (contact s hop (some e) a.t) a.t

/-- REPLAY_COUNTER_SAVE (R428): the last accepted counters go to MRAM. -/
def saveCounters (s : State) : State :=
  { s with lnt := { s.lnt with ctr := s.lnt.nodes.foldl (fun m p =>
    let c := KMap.getD m p.1 { eui := p.2.rcd.eui }
    KMap.set m p.1 { c with rx := p.2.rx }) s.lnt.ctr } }

/-- REPLAY_COUNTER_SAVE (R428): every 10 s. -/
def execReplayCounterSave (s : State) : Host.Outcome State Fault Refusal :=
  done s <| if s.runs 1 && s.lnt.savedUp.all (fun t => t + 10000000000 ≤ s.up) then
    saveCounters { s with lnt := { s.lnt with savedUp := some s.up } } else s

/-- HOWL_COPY_HEARD (R436, R470): a copy of a howl in the seen cache is counted, and any is discarded. -/
def execHowlCopyHeard (f : RxFrame) (msgid : Nat) (s : State) : Host.Outcome State Fault Refusal :=
  done s <|
    let f := stamped s f
    match rxNode s f 3 with
    | (s, none) => s
    | (s, some _) =>
      if !f.micOk then authFail (s.inc Reg.PACK_AIR2_MICERR) f.src 1 f.t
      else
        let seen := s.lnt.seen.filter fun u => f.t < u.2 + 600000000000
        if seen.any (·.1 = msgid) then
          let h := s.lnt.howls.map fun h => if h.msgid = msgid then { h with hcopy := h.hcopy + 1 } else h
          { s with lnt := { s.lnt with seen := seen, howls := h } }.inc Reg.LNT_CNT1_HCOPY
        else
          let seen := seen ++ [(msgid, f.t)]
          { s with lnt := { s.lnt with seen := seen.drop (seen.length - 4096) } }

/-! ### Howl windows (R467, R468, R959) -/

/-- The PSDU length of a howl (R375, Table AIR-5). -/
def howlLen (s : State) (h : Howl) : Nat := psduLen (howlVer s (howlChans s h.scope h.group)) (14 + 8 + 2 + h.body.length + 8 + 2)

/-- Ask for the copies of a howl in the window that starts at `a`. -/
def askHowl (s : State) (a : Nat) (h : Howl) : State :=
  let c := sec04 s
  let tol := tolNs s
  let dur := frameNs s 4 (howlLen s h)
  let late := match h.deadline with
    | some t => decide (t ≤ a)
    | none => false
  let put (h : Howl) : State := { s with lnt := { s.lnt with howls := s.lnt.howls.map fun x => if x.msgid = h.msgid then h else x } }
  if h.todo.isEmpty then s
  else if late then put { h with todo := [] }
  else if c.hwin * 1000000 < dur + 2 * tol || !s.runs 4 then s
  else
    let slot := ((sec03 s).gkeys.find? fun g => g.1 = c.hkey).map (·.2)
    let r : State × Bool := match slot with
      | some k => if h.sent = 0 && h.asked.isEmpty then keyServe s 0 k 1 .encrypt else (s, keyServes s 0 k 1 .encrypt)
      | none => (s, false)
    if !r.2 then r.1
    else
      let go := h.todo.filter (mayUse s)
      let key := ((slot.bind s.key.slots.get?).map (·.key)).getD 0
      let psdu := howlPsdu s key c.hkey (howlVer s (howlChans s h.scope h.group)) h
      let t := go.foldl (fun (q : State × List (Nat × Nat)) ch =>
        let (t, id) := txPut q.1 ch .howl (a + tol) (a + c.hwin * 1000000 - tol - dur) dur [(4, psdu)]
        (t, q.2 ++ [(id, ch)])) (r.1, [])
      let h := { h with todo := h.todo.filter (!go.contains ·), asked := h.asked ++ t.2 }
      { t.1 with lnt := { t.1.lnt with howls := t.1.lnt.howls.map fun x => if x.msgid = h.msgid then h else x } }

/-- HOWL_WINDOW (R467): window `w` starts at w × HPER. A campaign howl is sent in a slot of the campaign that no other howl takes
(R957, R959). -/
def execHowlWindow (w : Nat) (s : State) : Host.Outcome State Fault Refusal :=
  done s <|
    if !s.runs 1 then s
    else
      let a := w * (sec04 s).hper * 1000000
      let hs := s.lnt.howls
      let first := hs.filter (·.origin != 2)
      let slot := s.upd.camp.slot = some w && first.all (·.todo.isEmpty)
      (if slot then hs else first).foldl (fun s h => askHowl s a h) s

/-- HOWL_DONE (Table NET-9): the outcome of a HOWL_SEND, 600 s after its last copy. -/
def execHowlDone (msgid : Nat) (s : State) : Host.Outcome State Fault Refusal :=
  done s <|
    match s.lnt.howls.find? (·.msgid = msgid) with
    | none => s
    | some h =>
      if !h.asked.isEmpty || !h.todo.isEmpty || s.now < h.stop + 600000000000 then s
      else
        let s := { s with lnt := { s.lnt with howls := s.lnt.howls.filter (·.msgid != msgid) } }
        if h.origin != 0 then s
        else s.report 0x0506 0 (nodeBody 0xFFFFFF s.now (le 2 h.tag ++ le 2 msgid ++ le 2 h.group ++ le 1 h.scope ++ le 1 h.sent ++
          le 2 h.echo ++ le 4 h.hcopy))

/-! ### Timers of a frame (R458, R490, R491) -/

/-- E2E_TIMEOUT (R458): 3 s + 2 s × HOPS after the first hop's ACK the frame is repeated once, then ends NO_E2E. -/
def execE2eTimeout (ln t : Nat) (s : State) : Host.Outcome State Fault Refusal :=
  done s <|
    match (s.node ln).map (·.q) with
    | some (f :: _) =>
      if f.stage != .resp || t < f.stop + (3 + 2 * ((s.node ln).map (·.rcd.hops)).getD 0) * 1000000000 then s
      else if f.repeated then kickAll (endFrame s ln f 8 t) t
      else kickAll (setHead s ln { f with stage := .idle, repeated := true, limit := f.tries + 4 }) t
    | _ => s

/-- DEADLINE_EXPIRY (R490): every frame of the node that is overdue at `t` ends LATE. -/
def execDeadlineExpiry (ln t : Nat) (s : State) : Host.Outcome State Fault Refusal :=
  done s <|
    match s.node ln with
    | none => s
    | some d => kickAll ((d.q.filter fun f => overdue f t).foldl (fun s f => endFrame s ln f 2 t) s) t

/-- RETRY_TIMER_EXPIRY (R491). -/
def execRetryTimerExpiry (ln t : Nat) (s : State) : Host.Outcome State Fault Refusal :=
  done s <|
    match (s.node ln).map (·.q) with
    | some (f :: _) => if f.stage = .retry && f.again ≤ t then kickAll (setHead s ln { f with stage := .idle }) t else s
    | _ => s

end Sys2Proof.Machine
end

