-- ==== Sys2Proof/Machine/Lantern.lean ====
section
/-! DEFINITION. The roster and its edits, delivery from the host, and what the nodes report (08_lantern_network.md); the commands and
events of the lighting engine (09_lighting.md). -/
namespace Sys2Proof.Machine

/-! ### The roster (R439 to R447) -/

/-- Every element differs from every other. -/
def distinct (l : List Nat) : Bool := l.eraseDups.length = l.length

/-- A record keeps R440 among the records `rs`. -/
def recOk (hch : List Nat) (rs : List RosterRec) (r : RosterRec) : Bool :=
  r.ln ≤ 0x01FFFF && r.home ≤ 511 && r.alt ≤ 511 && r.home != r.alt &&
  (r.howlix = 0xFF || r.howlix < hch.length) && (r.feeder ≤ 31 || r.feeder = 0xFFFF) && r.tsc ≤ 6 &&
  r.hops ≤ 6 && r.relays.length = r.hops && distinct r.relays &&
  r.relays.all (fun x => x != r.ln && rs.any fun q => q.ln = x && q.relay && q.mains && q.tsc = 0) &&
  (r.hops = 0 || r.tsc = 0) && r.rchs.length ≤ 4 && (r.rchs.isEmpty || r.relay) && r.rchs.all (hch.contains ·)

/-- A roster keeps R440. -/
def rosterOk (hch : List Nat) (rs : List RosterRec) : Bool :=
  distinct (rs.map (·.ln)) && distinct (rs.map (·.eui)) && rs.all (recOk hch rs) &&
  rs.all fun r => !r.relay || (neighbours rs r.ln).length ≤ 64

/-- The parameters of section 0x04 lie within Table NET-2. -/
def netOk (c : Sec04) : Bool :=
  c.hchan.length ≤ 32 && distinct c.hchan && c.hchan.all (· ≤ 511) && 250 ≤ c.hper && c.hper ≤ 60000 && 60000 % c.hper = 0 &&
  50 ≤ c.hwin && 2 * c.hwin ≤ c.hper && 1 ≤ c.ksup && c.ksup ≤ 7 && 1 ≤ c.hkey && c.hkey ≤ 255 && 1 ≤ c.dldepth && c.dldepth ≤ 16

/-- Section 0x04 passes its content check (R441). -/
def sec04Ok (c : Sec04) : Bool := netOk c && rosterOk c.hchan c.recs

/-- The link key of a node under a master key (Table KEY-2): AES-128 or AES-256 as the slot's ALG has it. -/
def linkKey (k : KeySlot) (eui : Nat) : LinkKey :=
  ⟨k.key, k.ver, fromBe (kdf (be (if k.alg = 2 then 32 else 16) k.key) (ascii "HOLLIMI-LK") (be 8 eui) 128)⟩

/-- The link key of a record: derived from the segment master key where the chuck serves it (R902). -/
def deriveKey (s : State) (eui : Nat) : State × Option LinkKey :=
  match s.cfg.secs.s03 with
  | none => (s, none)
  | some c =>
    let r := keyServe s 1 c.mkslot 0 .derive
    if r.2 then (r.1, (s.key.slots.get? c.mkslot).map fun k => linkKey k eui) else (r.1, none)

/-- A node for a record that the module has not known: its counters resume from MRAM when they belong to its EUI (R427, R446). -/
def newNode (s : State) (r : RosterRec) : State :=
  let (s, k) := deriveKey s r.eui
  let m := match s.lnt.ctr.get? r.ln with
    | some m => if m.eui = r.eui then m else { eui := r.eui }
    | none => { eui := r.eui }
  let howl := (sec04 s).hchan[r.howlix]?
  let d : Node := {
    rcd := r, home := r.home, alt := r.alt, howl := howl, rchs := r.rchs, tsc := r.tsc, tx := m.ceil, rx := m.rx, lkey := k }
  { s with lnt := { s.lnt with nodes := s.lnt.nodes.set r.ln d, ctr := s.lnt.ctr.set r.ln m } }

/-- Take back the request of a node's frame that has not gone to air, so that it is formed under its present record (R444). -/
def recallHead (s : State) (ln : Nat) : State :=
  match (s.node ln).map (·.q) with
  | some (f :: _) => if f.stage = .asked then setHead (dropReq s f s.now) ln { f with stage := .idle, req := none } else s
  | _ => s

/-- Write a record (R439, R444, R446, R461): what its change requires of the node is due. -/
def putRecord (s : State) (r : RosterRec) : State :=
  let s := if (s.node r.ln).map (·.rcd) = some r then s else recallHead s r.ln
  match s.node r.ln with
  | none =>
    let s := newNode s r
    (requiredKinds s r).foldl (fun s k => addDue s r.ln k) s
  | some d =>
    if d.rcd.eui = r.eui then
      let o := d.rcd
      let s := s.modNode r.ln fun d => { d with rcd := r }
      let s := if o.home = r.home && o.alt = r.alt && o.howlix = r.howlix && o.rchs = r.rchs then s else addDue s r.ln 0
      let s := if o.relays = r.relays then s else addDue s r.ln 1
      let s := if o.relay = r.relay then s else addDue s r.ln 3
      if o.tsc = r.tsc then s else addDue s r.ln 5
    else
      let q := d.q.map fun f => if f.stage = .idle then { f with seq := none, sent := [] } else f
      let s := newNode s r
      let s := s.modNode r.ln fun n => { n with q := q, tags := d.tags, htag := d.htag }
      let s := if d.lux.base.isSome then s.event 5 Ev.ENERGY_RESET 1 0 [r.ln] else s
      (requiredKinds s r).foldl (fun s k => addDue s r.ln k) s

/-- After the records have changed: fresh tables for the relays whose neighbours have, and the versions of every scope (R462, R963). -/
def rosterSettled (s : State) (old : List RosterRec) : State :=
  let new := roster s
  let s := (new.filter fun r => r.relay && neighbours old r.ln != neighbours new r.ln).foldl (fun s r => addDue s r.ln 2) s
  refreshLux (refreshVers s s.now)

/-- Load the roster of section 0x04 at a start (R902). -/
def loadRoster (s : State) : State :=
  let s := { s with lnt := { s.lnt with nodes := [] } }
  let s := (sec04 s).recs.foldl newNode s
  let s := s.lnt.nodes.foldl (fun s p => (requiredKinds s p.2.rcd).foldl (fun s k => addDue s p.1 k) s) s
  s.wr Reg.LNT_STAT_GEN 0

/-- Delete a record: its frames end REMOVED (R445). -/
def dropRecord (s : State) (ln : Nat) : State :=
  match s.node ln with
  | none => s
  | some d =>
    let s := d.q.foldl (fun s f => endFrame s ln f 4 s.now) s
    { s with lnt := { s.lnt with nodes := s.lnt.nodes.erase ln } }

/-- A change of the master slot's key or VER rederives a node's link key (R904). -/
def rederive (s : State) (ln : Nat) : State :=
  let now := s.cfg.secs.s03.bind fun c => (s.key.slots.get? c.mkslot).map fun k => (k.key, k.ver)
  match s.node ln with
  | some d =>
    if (d.lkey.map fun k => (k.master, k.ver)) = now then s
    else
      let (s, k) := deriveKey s d.rcd.eui
      s.modNode ln fun d => { d with lkey := k }
  | none => s

/-- Take over a new section 0x04 in one roster epoch (R442, R444 to R446). -/
def applyRoster (s : State) : State :=
  let old := roster s
  let new := (sec04 s).recs
  let gone := (old.filter fun r => !new.any (·.ln = r.ln)).map (·.ln)
  let s := gone.foldl dropRecord s
  let s := new.foldl putRecord s
  let s := s.lnt.nodes.keys.foldl rederive s
  rosterSettled (s.wr Reg.LNT_STAT_GEN (s.rd Reg.LNT_STAT_GEN + 1)) old

/-- A record in the layout of Table NET-1. -/
def rosterBytes (r : RosterRec) : List Byte :=
  (le 8 r.eui).reverse ++ le 3 r.ln ++ le 1 (b2n r.sensor + 2 * b2n r.mains + 4 * b2n r.relay) ++ le 1 r.tsc ++ le 1 r.howlix ++
  le 2 r.home ++ le 2 r.alt ++ le 2 r.feeder ++ le 1 r.hops ++ le 1 r.rchs.length ++
  (padTo 6 0xFFFFFF r.relays).flatMap (le 3) ++ (padTo 4 0xFFFF r.rchs).flatMap (le 2)

/-- ROSTER_PUT (R441, R442). -/
def execRosterPut (tag : Nat) (recs : List RosterRec) (s : State) : Host.Outcome State Fault Refusal :=
  done s <| command s 0x0501 tag fun s =>
    let new := recs.foldl (fun l r => l.filter (fun q => q.ln != r.ln) ++ [r]) (roster s)
    if recs.isEmpty || 5 < recs.length || !rosterOk (sec04 s).hchan new then deny s St.BAD_PARAM
    else
      let old := roster s
      let s := recs.foldl putRecord s
      let gen := (s.rd Reg.LNT_STAT_GEN + 1) % 65536
      let s := rosterSettled ((edited s 4).wr Reg.LNT_STAT_GEN gen) old
      okay (kickAll s s.now) (le 2 gen)

/-- ROSTER_DEL (R442, R445, R447). -/
def execRosterDel (tag : Nat) (lns : List Nat) (s : State) : Host.Outcome State Fault Refusal :=
  done s <| command s 0x0502 tag fun s =>
    if lns.isEmpty || 80 < lns.length then deny s St.BAD_PARAM
    else if lns.any fun ln => !s.lnt.nodes.has ln then deny s 0x80
    else if (roster s).any fun r => r.relays.any fun x => lns.contains x then deny s St.BAD_PARAM
    else
      let old := roster s
      let s := lns.foldl dropRecord s
      let gen := (s.rd Reg.LNT_STAT_GEN + 1) % 65536
      okay (rosterSettled ((edited s 4).wr Reg.LNT_STAT_GEN gen) old) (le 2 gen)

/-- ROSTER_GET (R439). -/
def execRosterGet (tag ln : Nat) (s : State) : Host.Outcome State Fault Refusal :=
  done s <| command s 0x0503 tag fun s =>
    match s.node ln with
    | none => deny s 0x80
    | some d => okay s (rosterBytes d.rcd ++ le 2 (s.rd Reg.LNT_STAT_GEN))

/-- NODE_STATE (Table NET-7). -/
def execNodeState (tag ln : Nat) (s : State) : Host.Outcome State Fault Refusal :=
  done s <| command s 0x0504 tag fun s =>
    match s.node ln with
    | none => deny s 0x80
    | some d =>
      let st := b2n d.slost + 2 * b2n (d.unreach || d.noRoute) + 4 * b2n d.onAlt + 8 * b2n d.rekey + 16 * b2n d.contact.isNone
      okay s (le 2 d.rxch ++ le 1 st ++ le 1 (uniVer s ln) ++ le 1 (if d.barked then d.pvmax else 0) ++ le 1 d.tsc ++ le 1 d.rho ++
        le 1 d.q.length ++ le 8 (d.contact.getD 0) ++ le 8 (ofS 64 d.offs) ++ le 2 d.boots ++ le 1 d.rssi ++ le 1 d.supply ++
        le 4 d.nbver ++ le 4 d.tx ++ le 4 d.rx)

/-! ### Delivery (R455 to R457, R466, R475, R486 to R492) -/

/-- An opcode the module keeps for itself. -/
def moduleOp (op : Nat) : Bool := 0x20 ≤ op && op ≤ 0x24

/-- NODE_SEND (R486 to R489). -/
def execNodeSend (tag ln deadline op : Nat) (body : List Byte) (s : State) : Host.Outcome State Fault Refusal :=
  done s <| command s 0x0505 tag fun s =>
    if moduleOp op then deny s 0x82
    else if !((0x10 ≤ op && op ≤ 0x18) || (0x40 ≤ op && op ≤ 0x5F)) || deadline = 0 || 86400 < deadline || 255 < body.length then
      deny s St.BAD_PARAM
    else match s.node ln with
      | none => deny s 0x80
      | some d =>
        let room := 231 - (if d.rcd.hops = 0 then 0 else 1 + 3 * d.rcd.hops) - (if uniVer s ln = 2 then 2 else 0)
        if room < body.length + 2 then deny s 0x83
        else if (sec04 s).dldepth ≤ d.q.length then deny s 0x81
        else
          let dl := s.now + deadline * 1000000000
          let s := queueData s ln { src := .host tag, cmd := false, op := op, body := body, deadline := some dl }
          okay (kickAll s s.now) []

/-- HOWL_SEND (R466, R475, R487, R488). -/
def execHowlSend (tag scope group ttl deadline op : Nat) (body : List Byte) (s : State) : Host.Outcome State Fault Refusal :=
  done s <| command s 0x0506 tag fun s =>
    if moduleOp op then deny s 0x82
    else if 1 < scope || 4095 < group || (scope = 1 && group != 0) || ttl = 0 || 15 < ttl || deadline = 0 || 86400 < deadline ||
        255 < op || 255 < body.length then deny s St.BAD_PARAM
    else
      let room := 223 - (if howlVer s (howlChans s scope group) = 2 then 2 else 0)
      let open_ := s.lnt.howls.filter fun h => !h.todo.isEmpty || !h.asked.isEmpty
      if room < body.length + 2 then deny s 0x83
      else if 256 ≤ open_.length then deny s 0x81
      else match howlPut s 0 tag scope group ttl (some (s.now + deadline * 1000000000)) op body with
        | none => deny s St.BUSY
        | some (s, id) => okay (kickAll s s.now) (le 2 id)

/-- NODE_FLUSH (R490): the frames that have never been on air end CANCELLED. -/
def execNodeFlush (tag ln : Nat) (s : State) : Host.Outcome State Fault Refusal :=
  done s <| command s 0x0507 tag fun s =>
    match s.node ln with
    | none => deny s 0x80
    | some d =>
      let l := d.q.filter fun f => !f.aired && f.stage != .air
      let s := l.foldl (fun s f => endFrame s ln f 5 s.now) s
      okay (kickAll s s.now) (le 2 l.length)

/-! ### Uplink payloads (R437, R457, R465, R493) -/

/-- A DATA frame from a node: its payload is taken as `g` says of the frame with its stamp, when it is accepted and new. -/
def uplink (s : State) (f : RxFrame) (g : RxFrame → State → State) : State :=
  let f := stamped s f
  match rxFrame s f 0 with
  | (s, true) => kickAll (g f s) f.t
  | (s, false) => kickAll s f.t

/-- The NODE_DATA entries of a payload: one for each 36 bytes of BODY, one for an empty one. -/
def nodeData (s : State) (f : RxFrame) (op tag : Nat) (body : List Byte) : State :=
  let n := max 1 ((body.length + 35) / 36)
  (List.range n).foldl (fun s i => s.report 0x0501 2 (nodeBody f.src f.t (le 2 f.chan ++ le 1 f.rssi ++ le 1 op ++ le 2 tag ++
    le 1 (16 * i + n) ++ le 1 body.length ++ padTo 36 0 ((body.drop (36 * i)).take 36)))) s

/-- The host's TAG of an HTAG that is not yet answered. -/
def hostTag (s : State) (ln htag : Nat) : Option Nat := ((s.node ln).bind fun d => d.tags.get? htag).join

/-- UPLINK_RESP (R457, R493): the routed frame that waits for it is delivered; a RESP to a command of the module is not reported. -/
def execUplinkResp (f : RxFrame) (htag op status : Nat) (s : State) : Host.Outcome State Fault Refusal :=
  done s <| uplink s f fun f s =>
    let s := match (s.node f.src).bind fun d => d.tags.get? htag with
      | some none => s
      | some (some t) => nodeData s f 0x85 t (le 1 op ++ le 1 status)
      | none => nodeData s f 0x85 0 (le 1 op ++ le 1 status)
    let s := if op = 0x17 then s.modLux f.src fun u => { u with asked := false } else s
    let keep := op = 0x18 && status = 0
    let s := if keep then s else s.modNode f.src fun d => { d with tags := d.tags.erase htag }
    match (s.node f.src).map (·.q) with
    | some (g :: _) => if g.stage = .resp && htag != 0 && g.htag = htag then endFrame s f.src g 0 f.t else s
    | _ => s

/-- UPLINK_LAMPBUS_ANS (R493). -/
def execUplinkLampbusAns (f : RxFrame) (htag : Nat) (body : List Byte) (s : State) : Host.Outcome State Fault Refusal :=
  done s <| uplink s f fun f s =>
    let s := nodeData s f 0x86 ((hostTag s f.src htag).getD 0) body
    s.modNode f.src fun d => { d with tags := d.tags.erase htag }

/-- UPLINK_MAKER_DATA (R493): opcodes 0xC0 to 0xFF. -/
def execUplinkMakerData (f : RxFrame) (op : Nat) (body : List Byte) (s : State) : Host.Outcome State Fault Refusal :=
  done s <| uplink s f fun f s => if 0xC0 ≤ op && op ≤ 0xFF then nodeData s f op 0 body else s

/-- UPLINK_ROUTE_ERR (R465). -/
def execUplinkRouteErr (f : RxFrame) (body : List Byte) (s : State) : Host.Outcome State Fault Refusal :=
  done s <| uplink s f fun f s => (s.raise Reg.LNT_EVT_RTERR).report 0x0505 1 (nodeBody f.src f.t (le 3 f.src ++ body.take 11))

/-- The fields of LNT_CNT0 to LNT_CNT2, LNT_LUXCNT0 and LNT_LUXCNT1. -/
def lntCnt (k : Nat) : List Fld :=
  match k with
  | 0 => [Reg.LNT_CNT0_DLOK, Reg.LNT_CNT0_DLFAIL]
  | 1 => [Reg.LNT_CNT1_HOWLS, Reg.LNT_CNT1_HCOPY]
  | 2 => [Reg.LNT_CNT2_UNKN, Reg.LNT_CNT2_EPDROP]
  | 3 => [Reg.LNT_LUXCNT0_WAVES, Reg.LNT_LUXCNT0_WAVEFR]
  | 4 => [Reg.LNT_LUXCNT1_SUPPR, Reg.LNT_LUXCNT1_RELFB]
  | _ => []

/-- LNT_CNT_READ (R207). -/
def execLntCntRead (k : Nat) (upd : List Nat) (s : State) : Host.Outcome State Fault Refusal :=
  done s <| if 4 < k then s else hostRead s 6 fun s => rcReadAll s (lntCnt k) upd

/-! ### Lighting payloads -/

/-- UPLINK_STATUS (R534). -/
def execUplinkStatus (f : RxFrame) (level lamp faults : Nat) (s : State) : Host.Outcome State Fault Refusal :=
  let _ := (level, lamp)
  done s <| uplink s f fun f s =>
    (List.range 13).foldl (fun s c => if bit faults c then faultRaise s f.src c 0 0 f.t else faultClear s f.src c 0 0 f.t) s

/-- UPLINK_ENERGY (R557, R558). -/
def execUplinkEnergy (f : RxFrame) (ewh power burn : Nat) (s : State) : Host.Outcome State Fault Refusal :=
  done s <| uplink s f fun f s =>
    match s.node f.src with
    | none => s
    | some d =>
      let (add, reset) := match d.lux.base with
        | some b => (ewh - b, decide (ewh < b))
        | none => (0, false)
      let s := s.modLux f.src fun u => { u with base := some ewh, day := u.day + add, power := power, burn := burn, last := f.t }
      if reset then s.event 5 Ev.ENERGY_RESET 1 0 [f.src] else s

/-- UPLINK_FAULT (R533, R541, R542). -/
def execUplinkFault (f : RxFrame) (cls : Nat) (raised : Bool) (detail tn : Nat) (s : State) : Host.Outcome State Fault Refusal :=
  done s <| uplink s f fun f s =>
    if 12 < cls then s
    else
      let asked := ((s.node f.src).map fun d => d.lux.asked).getD false
      let t := spindleOf s f.src tn
      if raised then faultRaise s f.src cls detail (if asked then 2 else 0) t else faultClear s f.src cls detail 0 t

/-- UVOLT reports of a summary (R556). -/
def uvAdd (s : State) (f ln t : Nat) (u : Uvolt) : State :=
  let x := s.feeder f
  let y : UvSum := match x.uv with
    | some y => { y with
      n := y.n + 1, lost := y.lost + b2n u.lost, vmin := min y.vmin u.vres, vln := if u.vres < y.vmin then ln else y.vln
      first := min y.first t, last := max y.last t }
    | none => ⟨s.now, 1, b2n u.lost, u.vres, ln, t, t⟩
  s.setFeeder f { x with uv := some y }

/-- A report with LOST 1: the loss of a lantern that is its own feeder, or the inference of R539. -/
def lostReport (s : State) (f ln t : Nat) : State :=
  let x := s.feeder f
  if 32 ≤ f then (if x.st = 1 then s else feederLost s f 1 t true)
  else if x.st != 0 && x.st != 4 then s
  else
    let l := (x.lostReps.filter fun r => r.1 != ln && t ≤ r.2 + 2000000000 && r.2 ≤ t + 2000000000) ++ [(ln, t)]
    let s := s.setFeeder f { x with lostReps := l }
    let near (a : Nat) : List (Nat × Nat) := l.filter fun r => a ≤ r.2 && r.2 ≤ a + 2000000000
    match l.find? fun r => (feederCfg s f).infcnt ≤ (near r.2).length with
    | some r => feederLost s f 1 r.2 true
    | none => s

/-- UPLINK_UVOLT (R539, R540, R555, R556). -/
def execUplinkUvolt (f : RxFrame) (u : Uvolt) (s : State) : Host.Outcome State Fault Refusal :=
  done s <| uplink s f fun f s =>
    let t := spindleOf s f.src u.t
    let fd := feederOf s f.src
    let pkt := [kword [(0, 7, 2), (7, 17, f.src), (24, 8, if fd < 32 then fd else 0xFF), (32, 16, u.vres), (48, 1, b2n u.lost)], t % 2 ^ 64]
    let s := (kPost (kPost s 66 pkt).1 67 pkt).1
    let s := uvAdd s fd f.src t u
    let x := s.feeder fd
    if u.dur != 0xFFFF && x.inferred && (x.st = 1 || x.st = 2) then feederPickup s fd 2 t
    else if u.lost then lostReport s fd f.src t else s

/-- UPLINK_TRAFFIC (R524 to R529). -/
def execUplinkTraffic (f : RxFrame) (tn kind dir speed : Nat) (s : State) : Host.Outcome State Fault Refusal :=
  done s <| uplink s f fun f s => startWaves s f.src tn kind dir speed

/-! ### Lighting commands (Table LUX-5) -/

/-- The next OVID that is not active; 0xFFFF names none. -/
def nextOvid (s : State) : Nat :=
  (((List.range 257).map fun i => (s.lux.ovid + 1 + i) % 0xFFFF).find? fun i => !s.lux.ovr.has i).getD 0

/-- LUX_OVERRIDE (R519 to R522). -/
def execLuxOverride (tag kind id level ramp dur : Nat) (s : State) : Host.Outcome State Fault Refusal :=
  done s <| command s 0x0601 tag fun s =>
    let c := sec05 s
    let known := match kind with
      | 0 => (lanterns s).contains id
      | 1 => c.groups.has id
      | 2 => c.feeders.has id
      | _ => true
    if 3 < kind || (kind = 3 && id != 0) || 1000 < level || 600 < ramp || 2592000 < dur then deny s St.BAD_PARAM
    else if !known then deny s 0x80
    else if 256 ≤ s.lux.ovr.length then deny s 0x81
    else
      let n := nextOvid s
      let o : Override := {
        kind := kind, id := id, level := level, ramp := ramp, stop := if dur = 0 then none else some (s.now + dur * 1000000000)
        hold := s.now, order := s.lux.order }
      let s := s.setLux { s.lux with ovr := s.lux.ovr.set n o, ovid := n, order := s.lux.order + 1 }
      let s := refreshLux (sendOverride (edited s 5) n o)
      okay (kickAll s s.now) (le 2 n)

/-- LUX_RELEASE (R523). -/
def execLuxRelease (tag ovid : Nat) (s : State) : Host.Outcome State Fault Refusal :=
  done s <| command s 0x0602 tag fun s =>
    let ids := if ovid = 0xFFFF then s.lux.ovr.keys else if s.lux.ovr.has ovid then [ovid] else []
    if ovid != 0xFFFF && ids.isEmpty then deny s 0x82
    else
      let s := ids.foldl endOverride s
      okay (kickAll s s.now) (le 2 ids.length)

/-- OVERRIDE_RENEWAL (R520). -/
def execOverrideRenewal (ovid : Nat) (s : State) : Host.Outcome State Fault Refusal :=
  done s <|
    match s.lux.ovr.get? ovid with
    | some o => if s.runs 1 then kickAll (sendOverride s ovid o) s.now else s
    | none => s

/-- OVERRIDE_EXPIRY (R523): the override's duration has passed. -/
def execOverrideExpiry (ovid : Nat) (s : State) : Host.Outcome State Fault Refusal :=
  done s <|
    match s.lux.ovr.get? ovid with
    | some o => if s.runs 1 && o.stop.any (· ≤ s.now) then kickAll (endOverride s ovid) s.now else s
    | none => s

/-- What a lantern shows: SRC of LUX_STATE and the level the module expects. -/
def luxSrc (s : State) (ln : Nat) (d : Node) : Nat × Nat :=
  if noSupply s ln then (4, 0)
  else if awaits s ln then (3, 0)
  else match topOverride s ln with
    | some o => (2, o.2.level)
    | none => match d.lux.wave.filter fun w => decide (s.now < w.2) with
      | some w => (1, w.1)
      | none => (0, schedLevel s ln s.now)

/-- LUX_STATE. -/
def execLuxState (tag ln : Nat) (s : State) : Host.Outcome State Fault Refusal :=
  done s <| command s 0x0603 tag fun s =>
    match s.node ln with
    | none => deny s 0x80
    | some d =>
      let (src, lv) := luxSrc s ln d
      let wend := match d.lux.wave.filter fun w => decide (s.now < w.2) with
        | some w => w.2
        | none => 0
      okay s (le 2 (schedLevel s ln s.now) ++ le 2 lv ++ le 1 src ++ le 1 ((pidNow s ln).getD 0) ++
        le 2 (((topOverride s ln).map (·.1)).getD 0xFFFF) ++ le 8 wend ++ le 4 d.lux.faults)

/-- FEEDER_STATE (R536). -/
def execFeederState (tag feeder : Nat) (s : State) : Host.Outcome State Fault Refusal :=
  done s <| command s 0x0604 tag fun s =>
    if 31 < feeder then deny s St.BAD_PARAM
    else if !(sec05 s).feeders.has feeder then deny s 0x80
    else
      let x := s.feeder feeder
      okay s (le 1 x.st ++ le 1 (b2n x.inferred) ++ le 1 x.shot ++ zeros 1 ++ le 4 (feederLns s feeder).length ++
        le 4 (x.waiting.length + x.batch.length) ++ le 2 x.batches ++ zeros 2 ++ le 8 (x.lossAt.getD 0) ++ le 8 x.closeAt)

/-- FAULT_LIST (R533). -/
def execFaultList (tag first count : Nat) (s : State) : Host.Outcome State Fault Refusal :=
  done s <| command s 0x0605 tag fun s =>
    if count = 0 || 33 < count then deny s St.BAD_PARAM
    else
      let l := s.lnt.nodes.filter fun p => first ≤ p.1 && p.2.lux.faults != 0
      let next := ((l.drop count).head?).map (·.1)
      okay s (le 3 (next.getD 0xFFFFFF) ++ (l.take count).flatMap fun p => le 3 p.1 ++ le 4 p.2.lux.faults)

/-- ENERGY_GET (R557). -/
def execEnergyGet (tag ln : Nat) (s : State) : Host.Outcome State Fault Refusal :=
  done s <| command s 0x0606 tag fun s =>
    match s.node ln with
    | none => deny s 0x80
    | some d =>
      let b := d.lux.base.getD 0
      okay s (le 4 b ++ le 4 b ++ le 4 d.lux.day ++ le 2 d.lux.power ++ zeros 2 ++ le 4 d.lux.burn ++ le 8 d.lux.last)

/-! ### Lighting events -/

/-- COMMS_LOST (R535): no contact for 3 × BI + 600 s. No rule has the module send a BARK command, so BI is the 600 s of R412. -/
def execCommsLost (ln : Nat) (s : State) : Host.Outcome State Fault Refusal :=
  done s <|
    let old := ((s.node ln).bind (·.contact)).all (· + 2400000000000 ≤ s.now)
    if s.runs 1 && old then faultRaise s ln 16 0 1 s.now else s

/-- The engine takes a packet of the feeder paths (kennels 64 and 65). -/
def takeNotice (s : State) : State := if (s.knl 64).pkts.isEmpty then kTake s 65 else kTake s 64

/-- FEEDER_NOTICE_RECEIVED (R38, R537, R551): an open or a closed notice. -/
def execFeederNoticeReceived (n : FeederNotice) (s : State) : Host.Outcome State Fault Refusal :=
  done s <|
    if !s.runs 1 then s
    else
      let s := takeNotice s
      if n.seq ≤ s.lux.nseq || 31 < n.feeder then s
      else
        let s := s.setLux { s.lux with nseq := n.seq }
        let x := s.feeder n.feeder
        if n.state = 0 then kickAll (feederLost s n.feeder 0 n.t false) s.now
        else if n.state = 1 && (x.st = 1 || x.st = 2) then kickAll (feederPickup s n.feeder 0 n.t) s.now
        else s

/-- RECLOSE_FORECAST_RECEIVED (R38, R536). -/
def execRecloseForecastReceived (n : FeederNotice) (s : State) : Host.Outcome State Fault Refusal :=
  done s <|
    if !s.runs 1 then s
    else
      let s := takeNotice s
      if n.seq ≤ s.lux.nseq || 31 < n.feeder then s
      else
        let s := s.setLux { s.lux with nseq := n.seq }
        let x := s.feeder n.feeder
        if x.st = 1 then feederTo s n.feeder { x with shot := n.shot, closeAt := n.close } 2 0 else s

/-- The feeders' states of the half that leads. -/
def leadFeeders (s : State) : List (Nat × Nat) :=
  match s.lead with
  | none => []
  | some h => match s.s08For h with
    | none => []
    | some c => c.feeders.map fun (f : Nat × FeedP) => (f.1, feederState s h f.1 f.2)

/-- The engine reads every packet of kennel `n`. -/
def kDrain (s : State) (n : Nat) : State :=
  let k := s.knl n
  if k.pkts.isEmpty then s else s.setKn n { k with pkts := [], rd := 0, rdStall := false, out := (k.pkts.getLastD [], false) }

/-- The engine requests the complete feeder supply state, and the lead half posts one notice for each feeder (R39, R678), which the
engine reads. DESIGN CHOICE (log entry 75): the request, the notices and their reading are one step. -/
def askFeeders (s : State) : State :=
  match s.lead with
  | none => s
  | some h => kDrain ((leadFeeders s).foldl (fun s f =>
      let p := (s.hf h).fcst.getD f.1 (0, 0)
      postNotice s h f.1 f.2 p.1 p.2) (kDrain s (64 + h))) (64 + h)

/-- One feeder of a complete state reply: 0 open, 1 closed, 2 reclose pending. -/
def feederReply (s : State) (f st : Nat) : State :=
  let x := s.feeder f
  if 31 < f then s
  else if st = 0 then (if x.st = 1 then s else feederLost s f 0 s.now false)
  else if st = 2 then (if x.st = 2 then s else feederTo (feederLost s f 0 s.now false) f (((feederLost s f 0 s.now false)).feeder f) 2 0)
  else if x.st = 1 || x.st = 2 then feederPickup s f 0 s.now else s

/-- The notice sequence number of the lead half. -/
def leadSeq (s : State) : Nat :=
  match s.lead with
  | some h => (s.hf h).nseq
  | none => s.lux.nseq

/-- The engine replaces its feeder states by the lead's, and takes the lead's notice number. -/
def takeFeeders (s : State) (states : List (Nat × Nat)) : State :=
  states.foldl (fun s p =>
    let s := feederReply s p.1 p.2
    match p.2, (s.lead.bind fun h => (s.hf h).fcst.get? p.1) with
    | 2, some (close, shot) => s.setFeeder p.1 { s.feeder p.1 with shot := shot, closeAt := close }
    | _, _ => s) (s.setLux { s.lux with nseq := leadSeq s })

/-- KENNEL_DROP_DETECTED (R39): DROPCNT of kennel 64 or 65 has changed, and the lead's complete state replaces the engine's; with no
lead there is no reply, and the change stays to be found. -/
def execKennelDropDetected (k : Nat) (s : State) : Host.Outcome State Fault Refusal :=
  done s <|
    let n := s.rd (Reg.KNL_STAT_DROPCNT k)
    if !(k = 64 || k = 65) || !s.runs 1 || s.lead.isNone || n = s.lux.drops.getD k 0 then s
    else
      let s := askFeeders s
      let s := s.setLux { s.lux with drops := s.lux.drops.set k n }
      kickAll (takeFeeders s (leadFeeders s)) s.now

/-- The engine starts: it takes the lead's feeder states, and a closed feeder that was not SUPPLIED is placed in GRACE, its lanterns on their
FALLBACK (R552). -/
def luxStart (s : State) : State :=
  let s := askFeeders s
  let s := s.setLux { s.lux with nseq := leadSeq s }
  (leadFeeders s).foldl (fun s p =>
    let x := s.feeder p.1
    if 31 < p.1 then s
    else if p.2 = 1 then
      if x.st = 0 then s.setFeeder p.1 x
      else feederTo s p.1 { x with waiting := [], batch := [], left := feederLns s p.1, graceAt := s.now } 4 x.cause
    else if x.st = 1 && p.2 = 0 then s.setFeeder p.1 x
    else feederReply s p.1 p.2) s

/-- GRACE_EXPIRY (R538, R542): SUPGRACE seconds after the feeder entered GRACE. -/
def execGraceExpiry (feeder : Nat) (s : State) : Host.Outcome State Fault Refusal :=
  done s <|
    let x := s.feeder feeder
    if !s.runs 1 || x.st != 4 || s.now < x.graceAt + (sec05 s).supGrace * 1000000000 then s
    else
      let s := feederTo s feeder { x with left := [] } 0 3
      let l := (feederLns s feeder).filter fun ln => ((s.node ln).map fun d => d.lux.suppr).getD false
      let s := l.foldl (fun s ln => queueData (s.modLux ln fun u => { u with suppr := false, asked := true }) ln
        { src := .query, cmd := false, op := 0x17, body := le 1 3 }) s
      kickAll s s.now

/-- BATCH_RELEASE (R546 to R550, R765): the next batch of a pickup, from START after its entry or T_STEP after the last frame of the batch
before; in suite L once the halves' result is there. -/
def execBatchRelease (feeder t : Nat) (s : State) : Host.Outcome State Fault Refusal :=
  done s <|
    let x := s.feeder feeder
    let c := feederCfg s feeder
    let due := if x.batches = 0 then x.pickAt + c.start * 1000000 else x.lastEnd + (x.tInr + c.stepgap) * 1000000
    if !s.runs 1 || x.st != 3 || !x.batch.isEmpty || t < due then s
    else
      let s := leaveRest s feeder t
      let s := if (s.feeder feeder).waiting.isEmpty then endPickup s feeder
        else if batchReady s feeder then releaseBatch s feeder
        else s
      kickAll s t

/-- UV_SUMMARY (R556): 30 s after the first report. -/
def execUvSummary (feeder : Nat) (s : State) : Host.Outcome State Fault Refusal :=
  done s <|
    let x := s.feeder feeder
    match x.uv with
    | none => s
    | some y =>
      if !s.runs 1 || s.now < y.start + 30000000000 then s
      else (s.setFeeder feeder { x with uv := none }).report 0x0604 1 (luxBody 0xFFFFFF (if feeder < 32 then feeder else 0xFF) s.now
        (le 4 y.n ++ le 4 y.lost ++ le 2 y.vmin ++ le 3 y.vln ++ zeros 1 ++ le 8 y.first ++ le 8 y.last))

/-- A new section 0x05 in force (R518): an override whose target is gone ends, and each node is sent what differs from what it holds. -/
def applyLux (s : State) : State :=
  let c := sec05 s
  let gone := s.lux.ovr.filter fun p =>
    match p.2.kind with
    | 0 => !(lanterns s).contains p.2.id
    | 1 => !c.groups.has p.2.id
    | 2 => !c.feeders.has p.2.id
    | _ => false
  let s := (gone.map (·.1)).foldl endOverride s
  s.lnt.nodes.keys.foldl queueTables s

/-- Step 10 of an apply waits no longer: a schedule step has come (Table BOOT-9). -/
def luxDue (s : State) : State := ((dueTake s 10).map applyLux).getD s

/-- LIGHTING_DAY_END (R515, R559): each lantern's total, burning hours and mean power go to the archive, and tables that run low are
refreshed. -/
def execLightingDayEnd (day : Nat) (s : State) : Host.Outcome State Fault Refusal :=
  let _ := day
  done s <|
    if !s.runs 1 then s
    else
      let s := (lanterns s).foldl (fun s ln =>
        if ((s.node ln).bind (·.lux.base)).isNone then s
        else
          let u := ((s.node ln).map (·.lux)).getD {}
          (archivePost s ⟨2, 0, 0, s.now, [], luxRec s.now ln u.day u.burn u.power⟩).modLux ln fun u => { u with day := 0 }) s
      kickAll (s.lnt.nodes.keys.foldl queueTables (luxDue s)) s.now

end Sys2Proof.Machine
end

