-- ==== Sys2Proof/Machine/Metering.lean ====
section
/-! DEFINITION. Metering: the front end's checks, windows, accumulators and saves, aggregation, and the commands of range 0x0A
(13_metering.md). -/
namespace Sys2Proof.Machine

/-- Section 0x0A in force; a module without it has every point OFF. -/
def sec0A (s : State) : Sec0A := s.cfg.secs.s0a.getD ⟨[], [], [], [], [], 10, 0, []⟩

/-- Change the metering state. -/
def State.setMtr (s : State) (m : Meter) : State := { s with mtr := m }

/-- The kind of a meter point: 0 OFF, 1 CURRENT, 2 VOLTAGE. -/
def mpKind (s : State) (p : Nat) : Nat := (sec0A s).kind.getD p 0

/-- The circuits: the CURRENT points. -/
def circuits (s : State) : List Nat := (List.range 8).filter fun p => mpKind s p = 1

/-- The back end computes quantities: APP and MFE run, and section 0x0A is neither absent nor on defaults (R780). -/
def backEnd (s : State) : Bool := s.runs 1 && s.runs 6 && s.rd Reg.MTR_STAT_UNCAL = 0

/-! ### Front end (R781 to R786) -/

/-- MOD_RUN_START (R782). -/
def execModRunStart (ch : Nat) (run : Bool) (s : State) : Host.Outcome State Fault Refusal :=
  done s <|
    if 32 ≤ ch || !s.runs 6 || bit (s.rd Reg.MTR_RUN_RUN) ch = run then s
    else (s.setMtr { s.mtr with modAt := s.mtr.modAt.set ch s.up }).wr Reg.MTR_RUN_RUN (putBit (s.rd Reg.MTR_RUN_RUN) ch run)

/-- The channel's bit of MTR_RUN has stood for 20 ms, of which the 64 clocks before a run shows are part (R782, R783). -/
def stood20 (s : State) (ch : Nat) : Bool :=
  decide (s.mtr.modAt.getD ch 0 + 20000000 ≤ s.up +
    if bit (s.rd Reg.MTR_RUN_RUN) ch then 6400000 / max 1 (s.rd Reg.OUT_MCLK_FREQ) else 0)

/-- MTR_CHANNEL_STUCK (R783), of a channel whose run has lasted 20 ms. -/
def execMtrChannelStuck (ch : Nat) (s : State) : Host.Outcome State Fault Refusal :=
  done s <|
    if 32 ≤ ch || !s.runs 6 || !bit (s.rd Reg.MTR_RUN_RUN) ch || bit (s.rd Reg.MTR_STUCK_STUCK) ch || !stood20 s ch then s
    else
      ((s.wr Reg.MTR_STUCK_STUCK (putBit (s.rd Reg.MTR_STUCK_STUCK) ch true)).raise Reg.MTR_EVT_STUCK).event
        4 Ev.MTR_CHANNEL_STUCK 6 ch [ch]

/-- STUCK_CLEAR (R783). -/
def execStuckClear (ch : Nat) (s : State) : Host.Outcome State Fault Refusal :=
  done s <|
    if 32 ≤ ch || !s.runs 6 || bit (s.rd Reg.MTR_RUN_RUN) ch || !stood20 s ch then s
    else s.wr Reg.MTR_STUCK_STUCK (putBit (s.rd Reg.MTR_STUCK_STUCK) ch false)

/-- A channel of the point is in a run (R786). -/
def pointRuns (s : State) (p : Nat) : Bool := s.rd Reg.MTR_RUN_RUN / 2 ^ (4 * p) % 16 != 0

/-- The 10 min of UTC that have ended (Table MTR-3). -/
def tenMin (s : State) : Nat := ((s.sec : Int) - utcOffset s).toNat / 600

/-! ### Accumulators, saves and gaps (R800 to R807) -/

/-- What Table MTR-4 adds for energies `p`, `q` and `a`. -/
def accAdd (p q : Int) (a : Nat) : List Nat :=
  let n := q.natAbs
  [if 0 < p then p.natAbs else 0, if p < 0 then p.natAbs else 0,
   if 0 ≤ p ∧ 0 < q then n else 0, if p < 0 ∧ 0 ≤ q then n else 0,
   if p ≤ 0 ∧ q < 0 then n else 0, if 0 < p ∧ q ≤ 0 then n else 0, a]

/-- A constant in 2^−30 units times a signed quantity. -/
def scale30 (k : Nat) (v : Int) : Int := (v * k).tdiv (2 ^ 30)

/-- The total of a list of signed numbers. -/
def sumI (l : List Int) : Int := l.foldl (· + ·) 0

/-- The newest windows down to one second. -/
def lastSecond (l : List (Nat × Int)) : List (Nat × Int) :=
  (l.foldl (fun (r : Nat × List (Nat × Int)) w => if 1000000000 ≤ r.1 then r else (r.1 + w.1, r.2 ++ [w])) (0, [])).2

/-- The mean active power of windows in W (R803). -/
def meanPower (l : List (Nat × Int)) : Int :=
  (sumI (l.map (·.2)) * 3600000000).tdiv ((max 1 (l.map (·.1)).sum : Nat) : Int)

/-- Advance the accumulators of a circuit by a window: each phase by its own signs, the total by the signs of the sums (R789,
R800, R801). -/
def accumulate (s : State) (w : CircWin) : State :=
  let c := sec0A s
  let p := (padTo 3 0 w.p).map (scale30 (c.kp.getD w.circ (2 ^ 30)))
  let q := (padTo 3 0 w.q).map (scale30 (c.kq.getD w.circ (2 ^ 30)))
  let a := padTo 3 0 w.s
  let adds := ((List.range 3).map fun i => accAdd (p.getD i 0) (q.getD i 0) (a.getD i 0)) ++ [accAdd (sumI p) (sumI q) a.sum]
  let m := s.mtr
  let recent := lastSecond ((w.dur, sumI p) :: m.recent.getD w.circ [])
  let acc := adds.zipIdx.foldl (fun acc ph => ph.1.zipIdx.foldl (fun acc x =>
    let k := 28 * w.circ + 7 * ph.2 + x.2
    if x.1 = 0 then acc else KMap.set acc k ((KMap.getD acc k 0 + x.1) % 2 ^ 64)) acc) m.acc
  s.setMtr { m with acc := acc, recent := m.recent.set w.circ recent, power := m.power.set w.circ (meanPower recent) }

/-- The save slot written last. -/
def newestSlot (m : Meter) : Option (Nat × SaveSlot) :=
  m.slots.foldl (fun best p =>
    match best with
    | some b => if b.2.seq < p.2.seq then some p else best
    | none => some p) none

/-- Write the slot not written last (R803), and answer the MTR_SAVE_NOW commands that wait (R805). -/
def meterSave (s : State) : State :=
  let m := s.mtr
  let last := newestSlot m
  let i := match last with
    | some (j, _) => 1 - j
    | none => 0
  let sl : SaveSlot := ⟨m.acc, s.now, s.qual, s.opsec, s.rd Reg.RTC_PCYC_PCYC, m.power, ((last.map (·.2.seq)).getD 0) + 1⟩
  let s := (s.setMtr { m with slots := m.slots.set i sl, lastSave := s.now, saveTags := [] }).inc Reg.MTR_CNT_SAVES
  m.saveTags.foldl (fun s t => s.respond 0x0A07 t 0 []) s

/-- The body of a report of range 0x0A (R813). -/
def mtrBody (s : State) (circ : Nat) (l : List (Nat × Nat)) : List Byte :=
  pack ([(1, circ), (3, 0), (8, s.tai)] ++ l)

/-- A METER_GAP of a circuit: the record, MTR_EVT.GAP and the report (R802, R806, R807). -/
def meterGap (s : State) (circ cause : Nat) (lower : Bool) (ms : Nat) (watts : Int) (saveSeq : Nat) : State :=
  let est := ofS 32 (clampI (-2 ^ 31) (2 ^ 31 - 1) ((watts * ms).tdiv 3600000))
  let ms := min ms (2 ^ 32 - 1)
  let s := (s.raise Reg.MTR_EVT_GAP).event 4 Ev.METER_GAP 1 circ [circ + 256 * cause + 65536 * b2n lower, ms, est]
  s.report 0x0A02 0 (mtrBody s circ [(1, cause), (1, b2n lower), (2, 0), (4, ms), (4, est), (4, saveSeq % 2 ^ 32)])

/-- The gap since the restored slot, at the start of the first valid window of a circuit (R806, R807). -/
def stopGap (s : State) (circ start : Nat) : State :=
  match s.mtr.restored with
  | none => s
  | some sl =>
    if !s.mtr.gapDue.contains circ then s
    else
      let s := s.setMtr { s.mtr with gapDue := s.mtr.gapDue.filter (· != circ) }
      let lower := sl.qual = 0 || s.qual = 0
      let ms := if lower then (s.opsec - sl.opsec) * 1000 else (start - sl.at_) / 1000000
      meterGap s circ 0 lower ms (sl.power.getD circ 0) sl.seq

/-- The end of a run of invalid windows (R802). -/
def invalGap (s : State) (circ : Nat) : State :=
  match s.mtr.inval.get? circ with
  | none => s
  | some (_, ns) =>
    let s := s.setMtr { s.mtr with inval := s.mtr.inval.erase circ }
    let sl := (newestSlot s.mtr).map (·.2)
    meterGap s circ 1 false (ns / 1000000) ((sl.map (·.power.getD circ 0)).getD 0) ((sl.map (·.seq)).getD 0)

/-- The start of the back end (R804): the accumulators come from the newer save slot, or start at 0. -/
def meterRestore (s : State) : State :=
  match newestSlot s.mtr with
  | some (_, sl) =>
    s.setMtr { s.mtr with acc := sl.acc, base := sl.acc, lastSave := sl.at_, restored := some sl, gapDue := circuits s, intAt := tenMin s }
  | none =>
    ((s.setMtr { s.mtr with acc := [], base := [], lastSave := s.now, restored := none, gapDue := [], intAt := tenMin s }).raise
      Reg.MTR_EVT_SAVELOST).event 4 Ev.METER_RESTORE_FAILED 1 0 []

/-! ### Aggregation (R793, Table MTR-3) -/

/-- Element by element. -/
def zipSum (a b : List Nat) : List Nat :=
  (List.range (max a.length b.length)).map fun i => a.getD i 0 + b.getD i 0

@[inherit_doc zipSum] def zipSumI (a b : List Int) : List Int :=
  (List.range (max a.length b.length)).map fun i => a.getD i 0 + b.getD i 0

/-- Squares. -/
def squares (l : List Nat) : List Nat := l.map fun x => x * x

/-- Add the values of an interval to those of the next longer one. Magnitudes are summed as squares; frequency and the signed
powers as they are (DESIGN CHOICE, log entry 42). -/
def aggAdd (a : MtrAgg) (v : MtrVals) : MtrAgg :=
  { n := a.n + 1, flags := a.flags ||| v.flags, freq := a.freq + v.freq, rms := zipSum a.rms (squares v.rms),
    p := zipSumI a.p v.p, q := zipSumI a.q v.q, thd := zipSum a.thd (squares v.thd),
    harm := (List.range (max a.harm.length v.harm.length)).map fun i =>
      zipSum (a.harm.getD i []) (squares (v.harm.getD i [])) }

/-- The root of a mean of squares. -/
def rootMean (n : Nat) (l : List Nat) : List Nat := l.map fun x => isqrt (x / max 1 n)

/-- The values of an interval: the flags of what it sums, and UNSYNC at its boundary (R793). -/
def aggClose (s : State) (a : MtrAgg) : MtrVals :=
  let n := max 1 a.n
  { stamp := s.now
    flags := a.flags ||| (if s.qual < 3 then 4 else 0)
    freq := a.freq / n
    rms := rootMean n a.rms
    p := a.p.map fun x => x.tdiv n
    q := a.q.map fun x => x.tdiv n
    thd := rootMean n a.thd
    harm := a.harm.map (rootMean n) }

/-- Close interval `intv` of point `mp`, when it has any value, and add it to the next one. -/
def closePoint (s : State) (intv mp : Nat) : State :=
  let m := s.mtr
  let a := m.agg.getD (8 * intv + mp) {}
  if a.n = 0 then s
  else
    let v := aggClose s a
    let agg := m.agg.erase (8 * intv + mp)
    let agg := if intv < 3 then agg.set (8 * (intv + 1) + mp) (aggAdd (agg.getD (8 * (intv + 1) + mp) {}) v) else agg
    s.setMtr { m with vals := m.vals.set (8 * intv + mp) v, agg := agg }

/-- Close interval `intv` of the bands of channel `ch` (R799). -/
def closeBands (s : State) (intv ch : Nat) : State :=
  let m := s.mtr
  let a := m.supra.getD (32 * intv + ch) {}
  if a.n = 0 then s
  else
    let fl := a.flags ||| (if s.qual < 3 then 4 else 0)
    let l := a.sq.map fun x => if x = 0xFFFFFFFFFF then 0xFFFF else isqrt (x / a.n)
    let up := m.supra.getD (32 * (intv + 1) + ch) {}
    let supra := m.supra.erase (32 * intv + ch)
    let supra := if intv < 3 then supra.set (32 * (intv + 1) + ch)
        ⟨up.n + 1, up.flags ||| fl, (List.range 740).map fun b =>
          if l.getD b 0 = 0xFFFF then 0xFFFFFFFFFF else up.sq.getD b 0 + l.getD b 0 * l.getD b 0⟩
      else supra
    s.setMtr { m with bands := m.bands.set (32 * intv + ch) (s.now, fl, l), supra := supra }

/-- Close interval `intv` of every point and channel. -/
def closeInterval (s : State) (intv : Nat) : State :=
  let s := (List.range 8).foldl (fun s p => closePoint s intv p) s
  (List.range 32).foldl (fun s c => closeBands s intv c) s

/-! ### Windows -/

/-- The constants of a channel: on trial, from section 0x0A, or the defaults of Table MTR-2 (R179, R787). -/
def calOf (s : State) (ch : Nat) : ChanCal := s.mtr.trial.getD ch ((sec0A s).chans.getD ch ⟨1000, 0, 0x40000000, 0⟩)

/-- The modulator clock in 10 kHz. -/
def modClock (s : State) : Nat := s.rd Reg.OUT_MCLK_FREQ

/-- The span of a channel is all there, valid, and its channel in no run (R786, R801). -/
def chanOk (s : State) (dur : Nat) (spans : List ModSpan) (ch : Nat) : Bool :=
  match spans.find? fun p => p.ch = ch with
  | some p => spanOk (modClock s) dur (calOf s ch).delay p && !bit (s.rd Reg.MTR_RUN_RUN) ch
  | none => false

/-- A channel's engineering values over an interval (R787, R788). -/
def chanXs (s : State) (spans : List ModSpan) (ch : Nat) : List Int :=
  match spans.find? fun p => p.ch = ch with
  | some p => let c := calOf s ch; samplesOf (modClock s) c.delay (engOf c) p
  | none => []

/-- FNOM in Hz (R628). -/
def fnom (s : State) : Nat := match s.s08 with
  | some c => c.fnom
  | none => Config.fnomBare

/-- Cycles in a harmonic window (R791). -/
def winCycles (s : State) : Nat := if fnom s = 60 then 12 else 10

/-- A harmonic window of `dur` with measured frequency `freq` in mHz ends now: it begins where the last one ended, and spans its cycles
of the measured frequency, or 200 ms while that lies outside FNOM ± 15 % or FSRC is invalid (R791, R792). Answers whether it is
locked. -/
def windowKind (s : State) (dur freq : Nat) (spans : List ModSpan) : Option Bool :=
  let locked := chanOk s dur spans (4 * (sec0A s).fsrc) && decide (850 * fnom s ≤ freq) && decide (freq ≤ 1150 * fnom s)
  let cyc := winCycles s * 1000000000000
  let exact := if locked then decide (cyc ≤ dur * freq + dur) && decide (dur * freq ≤ cyc + dur) else dur = 200000000
  if exact && (s.mtr.winUp.all fun t => t + dur = s.up) then some locked else none

/-- The windows of a circuit's three phases (R800, R801): energies of a window in mWh, mvarh and mVAh. -/
def formCirc (s : State) (dur : Nat) (spans : List ModSpan) (c : Nat) : CircWin :=
  let v := (sec0A s).vref.getD c 0
  let ph (i : Nat) : List Int × List Int := (chanXs s spans (4 * v + i), chanXs s spans (4 * c + i))
  let n (x : List Int × List Int) : Int := max 1 x.1.length
  let hour (x : Int) : Int := (x * dur).tdiv (3600 * 10 ^ 12)
  let p (i : Nat) : Int := let x := ph i; hour ((dot x.1 x.2).tdiv (n x * 2 ^ 106))
  let q (i : Nat) : Int := let x := ph i; hour ((reactive (winCycles s) x.1 x.2).tdiv (2 ^ 106))
  let a (i : Nat) : Int := let x := ph i; hour (rmsOf x.1 * rmsOf x.2 : Nat)
  { circ := c
    dur := dur
    ok := (List.range 3).all fun i => chanOk s dur spans (4 * v + i) && chanOk s dur spans (4 * c + i)
    p := (List.range 3).map fun i => withError 1 (64 * s.now + 8 * c + i) ((p i).natAbs * 3 / 1000 + 1) (p i)
    q := (List.range 3).map fun i => withError 2 (64 * s.now + 8 * c + i) ((q i).natAbs / 100 + 1) (q i)
    s := (List.range 3).map fun i => (a i).toNat }

/-- The window of a meter point (R794, R795, R800). -/
def formPoint (s : State) (freq : Nat) (spans : List ModSpan) (mp : Nat) : PointWin :=
  let xs := (List.range 4).map fun i => chanXs s spans (4 * mp + i)
  let v := (sec0A s).vref.getD mp 0
  let vs := (List.range 3).map fun i => chanXs s spans (4 * v + i)
  let subs := xs.map (subgroups (winCycles s))
  let low (i : Nat) : Bool := decide ((subs.getD i []).getD 1 0 * 100 < (calOf s (4 * mp + i)).fscale * 2 ^ 53)
  let phase (f : List Int → List Int → Int) : List Int := (List.range 3).map fun i => (f (vs.getD i []) (xs.getD i [])).tdiv (10 ^ 6 * 2 ^ 106)
  { mp := mp
    flags := if (List.range 4).any low then 16 else 0
    freq := freq
    rms := (xs.map rmsOf).zipIdx.map fun r => (withError 0 (64 * s.now + 4 * mp + r.2)
      (max (r.1 / 1000) (if mpKind s mp = 1 then (calOf s (4 * mp + r.2)).fscale / 20000 else 0)) r.1).toNat
    p := phase fun v i => (dot v i).tdiv (max 1 v.length : Int)
    q := phase (reactive (winCycles s))
    thd := subs.map (thdOf s.now)
    harm := subs.map (ofFirst s.now) }

/-- The measurement's part of a window: OFS applied, GAIN and DELAY not (R811). -/
def formMeas (s : State) (dur freq : Nat) (spans : List ModSpan) (m : Meas) : MeasWin :=
  let xs (ch : Nat) : List Int := match spans.find? fun p => p.ch = ch with
    | some p => samplesOf (modClock s) 0 (fun r => r - (calOf s ch).ofs) p
    | none => []
  let x := xs m.ch
  let ang (ch : Nat) : Int := angleOf (dftBin (resample (xs ch)) (winCycles s))
  { ok := chanOk s dur spans m.ch && (m.mode != 3 || chanOk s dur spans m.refch)
    mean := (sumI x).tdiv (max 1 x.length : Int)
    rms := rootOf (meanSquare x)
    angle := (ang m.ch - ang m.refch + 180000) % 360000 - 180000
    freq := freq }

/-- The window that ends now, when one does. -/
def formWin (s : State) (dur freq : Nat) (spans : List ModSpan) : Option Win :=
  (windowKind s dur freq spans).map fun locked =>
    { locked := locked, freq := freq, circs := (circuits s).map (formCirc s dur spans),
      pts := ((List.range 8).filter fun p => mpKind s p != 0).map (formPoint s freq spans),
      meas := s.mtr.meas.map (formMeas s dur freq spans) }

/-- A circuit at a window end: its accumulators advance, or the window is counted when a sample of its six channels is not valid (R801,
R802). -/
def circuitWindow (s : State) (start dur : Nat) (circs : List CircWin) (c : Nat) : State :=
  let bad := match circs.find? fun w => w.circ = c with
    | some w => !w.ok
    | none => true
  if bad then
    let e := s.mtr.inval.getD c (start, 0)
    (s.setMtr { s.mtr with inval := s.mtr.inval.set c (e.1, e.2 + dur) }).inc Reg.MTR_CNT_INVWIN
  else
    let s := invalGap (stopGap s c start) c
    match circs.find? fun w => w.circ = c with
    | some w => accumulate s w
    | none => s

/-- A point at a window end: its window values, and their part in the 3 s value. -/
def pointWindow (s : State) (locked : Bool) (bad : List Nat) (w : PointWin) : State :=
  if 8 ≤ w.mp || mpKind s w.mp = 0 then s
  else
    let c := sec0A s
    let cur := mpKind s w.mp = 1
    let v : MtrVals :=
      { stamp := s.now
        flags := b2n (!locked) + (w.flags &&& 16)
        freq := if locked then w.freq else 0
        rms := padTo 4 0 w.rms
        p := if cur then (padTo 3 0 w.p).map (scale30 (c.kp.getD w.mp (2 ^ 30))) else [0, 0, 0]
        q := if cur then (padTo 3 0 w.q).map (scale30 (c.kq.getD w.mp (2 ^ 30))) else [0, 0, 0]
        thd := padTo 4 0 w.thd
        harm := padTo 4 [] w.harm }
    let invalid := pointRuns s w.mp || bad.any fun c' => c' = w.mp || c.vref.getD c' 8 = w.mp
    let m := s.mtr
    let a := aggAdd (m.agg.getD (8 + w.mp) {}) { v with flags := v.flags ||| (if invalid || !locked then 2 else 0) }
    let s := s.setMtr { m with vals := m.vals.set w.mp v, agg := m.agg.set (8 + w.mp) a }
    if a.n = 15 then closePoint s 1 w.mp else s

/-- A mean of signed numbers, toward 0. -/
def meanI (l : List Int) : Int := (sumI l).tdiv (max 1 l.length)

/-- A measurement at a window end (R811). -/
def measWindow (s : State) (w : Option MeasWin) : State :=
  match s.mtr.meas with
  | none => s
  | some m =>
    let good : Option MeasWin := w.filter (·.ok)
    let m := { m with seen := m.seen + 1, got := match good with
      | some x => m.got ++ [x]
      | none => [] }
    if m.windows ≤ m.got.length then
      let mean := meanI (m.got.map (·.mean))
      let rms := (m.got.map (·.rms)).sum / max 1 m.got.length
      let ang := meanI (m.got.map (·.angle))
      let frq := (m.got.map (·.freq)).sum / max 1 m.got.length
      (s.setMtr { s.mtr with meas := none }).respond 0x0A05 m.tag 0
        (pack [(4, ofS 32 mean), (4, rms), (4, ofS 32 ang), (4, frq), (2, m.got.length)])
    else if 3 * m.windows ≤ m.seen then (s.setMtr { s.mtr with meas := none }).respond 0x0A05 m.tag 0x82 []
    else s.setMtr { s.mtr with meas := some m }

/-- Load section 0x0A (R780): the registers of Table MTR-2's items; a runtime apply marks the sums of the running intervals CALCHG,
and a longer interval takes the flag from the shorter one (R808); the trial constants end (R179). -/
def loadMeter (s : State) (runtime : Bool) : State :=
  let c := sec0A s
  let s := s.wr Reg.MTR_STAT_UNCAL (b2n (s.cfg.secs.s0a.isNone || onDefault s 10))
  let s := s.wr Reg.MTR_SAVE_SAVEPER c.saveper
  let s := (List.range 8).foldl (fun s p => s.wrs
    [(Reg.MTR_MPCFG_KIND p, c.kind.getD p 0), (Reg.MTR_MPCFG_PROTMP p, b2n (c.protmp.contains p)),
     (Reg.MTR_MPCFG_VREF p, c.vref.getD p 0)]) s
  let m := s.mtr
  let mark (fl : Nat) : Nat := if runtime then fl ||| 8 else fl
  s.setMtr { m with
    trial := []
    agg := m.agg.map fun p => (p.1, { p.2 with flags := mark p.2.flags })
    supra := m.supra.map fun p => (p.1, { p.2 with flags := mark p.2.flags }) }

/-- Step 5 of an apply waits no longer: a harmonic window begins (Table BOOT-9). -/
def meterDue (s : State) : State := ((dueTake s 5).map fun t => loadMeter t true).getD s

/-- The frequency of a window goes into its 10 s mean, which the window that first ends in the next 10 s of the spindle completes (R790). -/
def freqWindow (s : State) (w : Win) : State :=
  let m := s.mtr
  let m := if m.lastWin / 10000000000 = s.now / 10000000000 then m
    else { m with freqs := [], freq10 := m.freqs.sum / max 1 m.freqs.length }
  s.setMtr (if w.locked then { m with freqs := m.freqs ++ [w.freq] } else m)

/-- A window ends: its frequency, its circuits, its points and the measurement. -/
def takeWin (s : State) (dur : Nat) (w : Win) : State :=
  let s := s.wr Reg.MTR_STAT_FUNLOCK (b2n (!w.locked))
  let s := freqWindow (s.wr Reg.MTR_FREQ_FREQ (if w.locked then min w.freq 100000 else 0)) w
  let all := circuits s
  let s := all.foldl (fun s c => circuitWindow s (s.now - dur) dur w.circs c) s
  let bad := all.filter fun c => s.mtr.inval.has c
  let s := s.wr Reg.MTR_STAT_BKRUN (b2n bad.isEmpty)
  let s := w.pts.foldl (fun s p => pointWindow s w.locked bad p) s
  measWindow (s.setMtr { s.mtr with lastWin := s.now, winUp := some s.up }) w.meas

/-- METER_WINDOW_END (R780, R781, R786 to R807, R811): `spans` are the modulator bits of the window, `freq` the measured frequency in
mHz. Where no window ends so, nothing happens. -/
def execMeterWindowEnd (dur freq : Nat) (spans : List ModSpan) (s : State) : Host.Outcome State Fault Refusal :=
  done s <|
    if !s.runs 1 || !s.runs 6 then s
    else
      let saved (s : State) : State := meterDue (if s.mtr.saveTags.isEmpty then s else meterSave s)
      if s.rd Reg.MTR_STAT_UNCAL = 1 then saved s
      else match formWin s dur freq spans with
        | some w => saved (takeWin s dur w)
        | none => s

/-- METER_SAVE (R803), at the first window end after SAVEPER: in the cycle in which a window has ended. -/
def execMeterSave (s : State) : Host.Outcome State Fault Refusal :=
  done s <| if !backEnd s || s.mtr.winUp != some s.up || s.now < s.mtr.lastSave + (sec0A s).saveper * 1000000000 then s else meterSave s

/-- The delta of a total accumulator over the 10 min interval in Wh, varh or VAh. -/
def totalDelta (m : Meter) (circ i : Nat) : Nat :=
  let k := 28 * circ + 21 + i
  (m.acc.getD k 0 / 1000 + 2 ^ 64 - m.base.getD k 0 / 1000) % 2 ^ 32

/-- The values of an interval go to the archive, one item a point (Table REC-7, class 1). -/
def archiveMeter (s : State) (intv : Nat) : State :=
  (List.range 8).foldl (fun s p => if mpKind s p = 0 then s else 
    archivePost s ⟨1, 0, 0, s.now, mtrChans p (s.mtr.vals.getD (8 * intv + p) {}), []⟩) s

/-- METER_INTERVAL_END (R793, R799, R813), at a boundary of 600 s of UTC: the 3 s interval closes early, the 10 min values are formed,
reported and archived, and at a boundary of 7,200 s the 2 h values. -/
def execMeterIntervalEnd (s : State) : Host.Outcome State Fault Refusal :=
  done s <|
    if !backEnd s || tenMin s = s.mtr.intAt then s
    else
      let twoHour := tenMin s / 12 != s.mtr.intAt / 12
      let s := s.setMtr { s.mtr with intAt := tenMin s }
      let s := closeInterval (closeInterval s 1) 2
      let s := (circuits s).foldl (fun s c =>
        let fl := (s.mtr.vals.getD (16 + c) {}).flags
        s.report 0x0A01 1 (mtrBody s c ([(2, fl), (2, 0)] ++ (List.range 7).map fun i => (4, totalDelta s.mtr c i)))) s
      let s := archiveMeter (s.setMtr { s.mtr with base := s.mtr.acc }) 2
      if twoHour then archiveMeter (closeInterval s 3) 3 else s

/-- Band `b` is ABSENT at the modulator clock in force (R798): 2,200 + 200 b Hz exceeds 0.48 × f / 64, f in units of 10 kHz. -/
def bandAbsent (s : State) (b : Nat) : Bool := 48 * s.rd Reg.OUT_MCLK_FREQ * 10000 < (2200 + 200 * b) * 6400

/-- Band `b` of a channel over 200 ms in 10^−6 of FSCALE, within ±1.5 dB (R796, R797, R812). -/
def bandValue (s : State) (p : ModSpan) (b : Nat) : Nat :=
  let c := { calOf s p.ch with fscale := 1 }
  let v := supraBand (modClock s) (samplesOf (modClock s) c.delay (engOf c) p) b * 1000000 / 2 ^ 53
  (withError 3 (32768 * s.now + 740 * p.ch + b) (v * 158 / 1000) v).toNat

/-- The bands of a channel: its window's, and their part in the 3 s value. -/
def chanBands (s : State) (p : ModSpan) : State :=
  if 32 ≤ p.ch || mpKind s (p.ch / 4) = 0 then s
  else
    let l := (List.range 740).map fun b => if bandAbsent s b then 0xFFFF else min 0xFFFE (bandValue s p b)
    let bad := !chanOk s 200000000 [p] p.ch
    let m := s.mtr
    let a := m.supra.getD (32 + p.ch) {}
    let a : SupAgg := ⟨a.n + 1, a.flags ||| (if bad then 2 else 0), (List.range 740).map fun b =>
      if l.getD b 0 = 0xFFFF then 0xFFFFFFFFFF else a.sq.getD b 0 + l.getD b 0 * l.getD b 0⟩
    let s := s.setMtr { m with bands := m.bands.set p.ch (s.now, 0, l), supra := m.supra.set (32 + p.ch) a }
    if a.n = 15 then closeBands s 1 p.ch else s

/-- SUPRA_WINDOW_END (R796 to R799): the modulator bits of each channel over the 200 ms of the spindle that have ended. -/
def execSupraWindowEnd (spans : List ModSpan) (s : State) : Host.Outcome State Fault Refusal :=
  done s <|
    if !backEnd s || s.now / 200000000 ≤ s.mtr.supAt then s
    else spans.foldl chanBands (s.setMtr { s.mtr with supAt := s.now / 200000000 })

/-- A channel's value at an instant after OFS, GAIN and DELAY, in raw units, and its validity (R809). -/
def protValue (s : State) (p : ModSpan) : Nat × Nat × Bool :=
  let c := calOf s p.ch
  let x := (samplesOf (modClock s) c.delay (fun r => (r - c.ofs) * c.gain) { p with n := 1 }).getD 0 0
  (p.ch, ofS 32 (x.tdiv (2 ^ 30)), chanOk s (6400000 / max 1 (modClock s)) [{ p with n := 1 }] p.ch)

/-- METER_PROT_SAMPLE (R787, R788, R809): the points with PROTMP go to both halves in the same cycle, points 0–3 to kennels 76 and 78,
points 4–7 to 77 and 79. `spans` are the modulator bits about the instant of sample `k`. -/
def execMeterProtSample (k : Nat) (spans : List ModSpan) (s : State) : Host.Outcome State Fault Refusal :=
  done s <|
    if !s.runs 6 then s
    else (List.range 2).foldl (fun s g =>
      let l := (spans.map (protValue s)).filter fun v => v.1 / 16 = g && (sec0A s).protmp.contains (v.1 / 4)
      if l.isEmpty then s
      else
        let pkt := kword [(0, 7, 1 + l.length), (7, 4, 6), (11, 16, k)] ::
          l.map fun v => kword [(0, 32, v.2.1), (32, 5, v.1), (40, 1, b2n v.2.2)]
        (kPost (kPost s (76 + g) pkt).1 (78 + g) pkt).1) s

/-! ### Section 0x0A -/

/-! ### Commands (Table MTR-6) -/

/-- MTR_READ (R800). -/
def execMtrRead (tag circ : Nat) (s : State) : Host.Outcome State Fault Refusal :=
  done s <| command s 0x0A01 tag fun s =>
    if 8 ≤ circ then deny s St.BAD_PARAM
    else if mpKind s circ != 1 then deny s 0x80
    else okay s (pack ((8, s.mtr.lastWin) :: (List.range 28).map fun i => (8, s.mtr.acc.getD (28 * circ + i) 0)))

/-- The answer about a meter point: its range, its kind, the flag UNCAL. -/
def mpCommand (s : State) (mp ch intv : Nat) (f : State → Answer) : Answer :=
  if 8 ≤ mp || 4 ≤ ch || 4 ≤ intv then deny s St.BAD_PARAM
  else if mpKind s mp = 0 then deny s 0x80
  else f s

/-- The FLAGS of an answer: those of the values, and UNCAL. -/
def mtrFlags (s : State) (fl : Nat) : Nat := fl ||| (if s.rd Reg.MTR_STAT_UNCAL = 1 then 32 else 0)

/-- MTR_VALUES (R793). -/
def execMtrValues (tag mp intv : Nat) (s : State) : Host.Outcome State Fault Refusal :=
  done s <| command s 0x0A02 tag fun s => mpCommand s mp 0 intv fun s =>
    let v := s.mtr.vals.getD (8 * intv + mp) {}
    okay s (pack ([(8, v.stamp), (2, mtrFlags s v.flags), (4, v.freq)] ++ (padTo 4 0 v.rms).map (fun x => (4, x)) ++
      (padTo 3 0 v.p).map (fun x => (4, ofS 32 x)) ++ (padTo 3 0 v.q).map fun x => (4, ofS 32 x)))

/-- MTR_HARM (R794, R795). -/
def execMtrHarm (tag mp ch intv : Nat) (s : State) : Host.Outcome State Fault Refusal :=
  done s <| command s 0x0A03 tag fun s => mpCommand s mp ch intv fun s =>
    let v := s.mtr.vals.getD (8 * intv + mp) {}
    okay s (pack ([(8, v.stamp), (2, mtrFlags s v.flags), (2, v.thd.getD ch 0)] ++
      (padTo 64 0 (v.harm.getD ch [])).map fun x => (2, x)))

/-- MTR_SUPRA (R796 to R799). -/
def execMtrSupra (tag mp ch intv first count : Nat) (s : State) : Host.Outcome State Fault Refusal :=
  done s <| command s 0x0A04 tag fun s =>
    if count = 0 || 112 < count || 740 < first + count then deny s St.BAD_PARAM
    else mpCommand s mp ch intv fun s =>
      let (t, fl, l) := s.mtr.bands.getD (32 * intv + 4 * mp + ch) (0, 0, [])
      okay s (pack ([(8, t), (2, mtrFlags s fl), (2, 0)] ++ (List.range count).map fun i => (2, l.getD (first + i) 0)))

/-- MTR_CAL_MEASURE (R811): the answer follows at a window end. -/
def execMtrCalMeasure (tag ch mode refch windows : Nat) (s : State) : Host.Outcome State Fault Refusal :=
  done s <| command s 0x0A05 tag fun s =>
    if 32 ≤ ch || mode = 0 || 3 < mode || 32 ≤ refch || windows < 10 || 250 < windows then deny s St.BAD_PARAM
    else if mpKind s (ch / 4) = 0 || (mode = 3 && mpKind s (refch / 4) = 0) then deny s 0x80
    else if s.mtr.meas.isSome then deny s 0x81
    else later (s.setMtr { s.mtr with meas := some { tag := tag, ch := ch, mode := mode, refch := refch, windows := windows } })

/-- MTR_CAL_TRIAL (R179): the constants of a channel in the running configuration. -/
def execMtrCalTrial (tag ch : Nat) (ofs : Int) (gain : Nat) (delay : Int) (s : State) : Host.Outcome State Fault Refusal :=
  done s <| command s 0x0A06 tag fun s =>
    if 32 ≤ ch || ofs < -2 ^ 23 || 2 ^ 23 ≤ ofs || gain < 0x20000000 || 0x60000000 < gain || delay < -50000 || 50000 < delay then
      deny s St.BAD_PARAM
    else if mpKind s (ch / 4) = 0 then deny s 0x80
    else
      let c := ((sec0A s).chans.getD ch ⟨1000, 0, 0x40000000, 0⟩).fscale
      okay (edited (s.setMtr { s.mtr with trial := s.mtr.trial.set ch ⟨c, ofs, gain, delay⟩ }) 10) []

/-- MTR_SAVE_NOW (R805). -/
def execMtrSaveNow (tag : Nat) (s : State) : Host.Outcome State Fault Refusal :=
  done s <| command s 0x0A07 tag fun s => later (s.setMtr { s.mtr with saveTags := s.mtr.saveTags ++ [tag] })

end Sys2Proof.Machine
end

