-- ==== Sys2Proof/Machine/Apply.lean ====
section
/-! DEFINITION. The steps of Table BOOT-9, and the way back when one fails (R191 to R198, 03_startup_configuration.md). The
commands that stage and commit an image are in `Machine/Image.lean`. -/
namespace Sys2Proof.Machine

/-- What the module takes of an image's sections: a suite L module treats 0x07 and 0x08 as absent, an archive 0 module 0x0C (R9, R12). -/
def effSecs (s : State) (c : Secs) : Secs :=
  let c := if s.fuses.suiteP then c else { c with s07 := none, s08 := none }
  if s.fuses.arch then c else { c with s0c := none }

/-! ### The steps -/

/-- The sections of each step. -/
def stepSecs (n : Nat) : List Nat :=
  match n with
  | 1 => [13] | 2 => [14] | 3 => [2] | 4 => [6] | 5 => [10] | 6 => [7, 8, 9, 15] | 7 => [15] | 8 => [3] | 9 => [4] | 10 => [5]
  | _ => [12]

/-- The body CRC of a section of an image. -/
def secCrc (i : Image) (id : Nat) : Option Nat := (i.dir.find? fun e => e.id = id).map (·.crc)

/-- Section `id` differs from the one it takes the place of, or has been edited at runtime. -/
def secDiffers (a : Apply) (id : Nat) : Bool :=
  a.edits.contains id || (match a.cmp with
    | some c => secCrc c id != secCrc a.img id
    | none => true)

/-- Step 6 has something to change: section 0x07, 0x08, 0x09, or the output part of 0x0F. -/
def step6Due (s : State) (a : Apply) : Bool :=
  (match a.cmp with
    | some c => [7, 8, 9].any fun id => secCrc c id != secCrc a.img id
    | none => true) ||
  (s.cfg.secs.s0f.map (·.outCrc)).getD 0 != (a.img.secs.s0f.map (·.outCrc)).getD 0

/-- The lowest section that step 6 changes. -/
def step6Sec (a : Apply) : Nat := (([7, 8, 9].find? (secDiffers a)).getD 15)

/-- Sections that are in force as an image gives them run on no default. -/
def defOff (s : State) (ids : List Nat) : State :=
  cfgDef s (ids.foldl (fun m id => putBit m (id - 1) false) (s.rd Reg.SUP_CFGSTAT_DEF))

/-- Step `n` takes effect at a moment of its own, and that has not come (Table BOOT-9): the next announce interval, harmonic window, schedule
step, or archive extent. -/
def stepWaits (s : State) (n : Nat) : Bool :=
  match n with
  | 3 => s.runs 5
  | 5 => s.runs 6 && s.cfg.secs.s0a.isSome
  | 10 => s.runs 1 && (nextStep s).isSome
  | 11 => s.cfg.secs.s0c.isSome && s.arc.extents.any fun e => !e.isSealed
  | _ => false

/-- A step that waits, with the sections it will put in force. -/
def defer (s : State) (t : Secs) (n : Nat) : State :=
  { s with cfg := { s.cfg with due := s.cfg.due.erase n ++ [n], next := secsTake s.cfg.next t n } }

/-- One step of Table BOOT-9 other than step 6, made now with the sections `t`; `none` when it fails. -/
def stepNow (s : State) (t : Secs) (n : Nat) : Option State :=
  let c := s.cfg.secs
  let s := { s with cfg := { s.cfg with due := s.cfg.due.erase n, secs := secsTake c t n } }
  match n with
  | 1 => some (keySection s)
  | 2 => some (openFabric s (.windows t.s0e))
  | 3 => some (loadTime s)
  | 4 => applyForward s
  | 5 => some (loadMeter s true)
  | 7 => some (loadField (s.setSecs { c with s0f := restPart c.s0f t.s0f }))
  | 8 =>
    let old := c.s03.map fun x => (x, (List.range 512).filter (exchanging s))
    let s := loadRadio { s with cfg := { s.cfg with old03 := old } }
    some (kickAll (s.lnt.nodes.keys.foldl rederive s) s.now)
  | 9 => some (applyRoster s)
  | 10 => some (applyLux s)
  | _ => some (if c.s0c.isNone then arcStart s else arcKey s)

/-- One step of Table BOOT-9 other than step 6, made or put off to its moment; `none` when it fails. The overrides of the edits that the apply
discards end at once. -/
def applyStep (s : State) (a : Apply) (n : Nat) : Option State :=
  let s := defOff s (if n = 7 then [] else stepSecs n)
  let s := if n = 10 && a.edits.contains 5 then (s.lux.ovr.map (·.1)).foldl endOverride s else s
  if stepWaits s n then some (defer s a.img.secs n) else stepNow s a.img.secs n

/-- The steps of the list that have something to change, in order; the section of the first that fails. The grid is compared whether step
8 has anything to change or not (R5). -/
def applySteps (a : Apply) : List Nat → State → State × Option Nat
  | [], s => (s, none)
  | n :: l, s =>
    if !(stepSecs n).any (secDiffers a) then applySteps a l (if n = 8 then gridRecord s else s)
    else match applyStep s a n with
      | some t => applySteps a l t
      | none => (s, some ((stepSecs n).headD 0))

/-- The steps before and after the handover. -/
def earlySteps : List Nat := [1, 2, 3, 4, 5]
@[inherit_doc earlySteps] def lateSteps : List Nat := [7, 8, 9, 10, 11]

/-- Protection comes into service with no half in service yet: the halves in IN_STEP, LEASH to half A, or to the other when A has no
core left (R705, R739). In a suite L module the halves carry the lighting-side tasks the same way, with no protection in service
(R765, R766; log entry 47). -/
def bringUp (s : State) : State :=
  let can := (List.range 2).filter fun h => s.runs (2 + h) && !s.brc.held.contains (h + 2)
  if s.fuses.suiteP && (coreDefault s || s.s08.isNone) then s
  else match can with
    | [] => s
    | h :: _ =>
      let s := grantLeash (can.foldl (fun s h => setBrace s h 2) s) h
      partnerStat { s with sup := { s.sup with inServ := s.fuses.suiteP }, brc := { s.brc with granted := true } }

/-- The passes of half `h` that were computed under the old settings go; those with provisional results count as expired (R177, R659). -/
def dropPasses (s : State) (h : Nat) : State :=
  let v := s.hf h
  let n := (v.hist.filter fun p => !p.expired && p.res.any fun r => r.2.2).length
  (s.setHf h { v with hist := [], nExp := up32 v.nExp n }).add (Reg.PR_CNT0_EXPIRED h) n

/-- The sections of step 6 in force in both halves at one sample-count epoch without a handover: suite L (R762), no half in
service, or a way back that no handover serves (log entry 45). -/
def forceProt (s : State) (t : Secs) : State :=
  let c := s.cfg.secs
  let old7 := sec07 s
  let xold := (sec09 s).xwins
  let carry (v : Half) : Half := match c.s08, t.s08 with
    | some c0, some c1 => carryPubs (carrySettings v c0 c1) c0 c1
    | _, _ => { v with insts := [], gates := [], outs := [], pubs := [] }
  let s := [0, 1].foldl dropPasses s
  let s := (s.setHf 0 (carry (s.hf 0))).setHf 1 (carry (s.hf 1))
  let s := s.setSecs { c with s07 := t.s07, s08 := t.s08, s09 := t.s09, s0f := outPart c.s0f t.s0f }
  let s := loadProt (loadBrace (subscribe (defOff s [7, 8, 9, 15]) old7))
  let s := if (sec09 s).xwins = xold then s else openFabric s (.xwins (sec09 s).xwins)
  let s := { s with cfg := { s.cfg with sampleEpoch := smpNow s + 1 } }
  if s.lead.isNone && s.rd Reg.BRC_HO_PHASE = 0 && s.brace 0 = 0 && s.brace 1 = 0 && !s.sup.inServ then bringUp s else s

/-! ### The end of an apply -/

/-- The end of steps 1 to 9 (R192); steps 10 and 11 may still wait for their moments. Or the end of a return to the previous image (R198), or of the return after a failure (R194). -/
def applyEnd (s : State) (a : Apply) : State :=
  let s := s.setSecs (s.cfg.due.foldl (fun c n => secsTake c s.cfg.secs n) a.img.secs)
  match a.kind with
  | 0 =>
    let d := 1 - s.cfg.dev
    let s := { s with cfg := { s.cfg with apply := none, image := some a.raw, dev := d, before := a.frm, beforeDef := a.def0 } }
    let s := (cfgDef s 0).wr Reg.SUP_CFGACT_SEQ (devSeq s d)
    if a.prob = 0 then confirmImage s
    else cfgState { s with cfg := { s.cfg with probEnd := some (s.up + a.prob * 1000000000) } } 5
  | 1 =>
    let d := 1 - s.cfg.dev
    let s := withdraw s s.cfg.dev
    let s := { s with cfg := { s.cfg with apply := none, image := some a.raw, dev := d, before := none, probEnd := none } }
    (cfgState ((cfgDef s a.def0).wr Reg.SUP_CFGACT_SEQ (devSeq s d)) 0).event 8 Ev.CFG_ROLLBACK 0 0 []
  | _ =>
    let s := withdraw s (1 - s.cfg.dev)
    let s := { s with
      free := s.free + 1
      cfg := { s.cfg with apply := none, lastStat := Config.freeNat s.free % 256 } }
    (cfgState (cfgDef s a.def0) 0).event 8 Ev.CFG_APPLY_FAILED 0 0 [a.sec]

/-- The apply that leads back from `a` after the step of section `sec` failed (R194). -/
def backFrom (a : Apply) (sec : Nat) : Apply :=
  match a.frm with
  | some (i, c) =>
    { a with kind := 2, img := { i with secs := c }, raw := i, cmp := some a.img, sec := sec, phase := 2 }
  | none => { a with kind := 2, sec := sec, phase := 2 }

/-- The last part of an apply of kind `a.kind`, once step 6 has been made. -/
def applyRest (s : State) (a : Apply) : State :=
  if a.kind = 2 then applyEnd (applySteps a earlySteps.reverse s).1 a
  else applyEnd (applySteps a lateSteps s).1 a

/-- Step 6 has failed (R194, R761). On the way back its sections go into force without a handover. -/
def applyFail (s : State) : State :=
  match s.cfg.apply with
  | none => s
  | some a =>
    if a.phase != 2 then s
    else if a.kind = 0 then
      let b := backFrom a (step6Sec a)
      applyRest { s with cfg := { s.cfg with apply := some b } } b
    else applyRest (forceProt s a.img.secs) a

end Sys2Proof.Machine
end

