-- ==== Sys2Proof/Machine/Brace.lean ====
section
/-! DEFINITION. The brace: comparison, failing a half, LEASH, rejoining, module leadership, the partner link, handovers
(12_brace.md). -/
namespace Sys2Proof.Machine

/-! ### Requests (R733 to R735, R744, R776) -/

/-- End a planned move the host asked for with a status. -/
def endReq (s : State) (st : Nat) : State :=
  match s.brc.req with
  | none => s
  | some r =>
    let s := { s with brc := { s.brc with req := none } }
    s.respond (match r.kind with | 0 => 0x0902 | 1 => 0x0903 | _ => 0x0904) r.tag st []

/-! ### LEASH (R704, R726 to R732) -/

/-- What a half that becomes lead carries over of the series it did not commit itself: which confirmed bits the records have
told, the feeder states last posted, and FLOC's work on the trips so far (R664, R690, R709). -/
def carryOver (s : State) (frm nw : Nat) : State :=
  let a := s.hf frm
  s.setHf nw { s.hf nw with told := a.told, feeders := a.feeders, floc := a.floc }

/-- Give LEASH to half `to` with cause `xc` and let it present its latest confirmed vector (Table BRC-4, R730, R731). -/
def takeLeash (s : State) (frm nw xc : Nat) : State :=
  let s := grantLeash (carryOver s frm nw) nw
  let s := ((s.raise Reg.BRC_EVT_TRANSFER).inc Reg.BRC_CNT0_XFERS)
  let s := { s with
    pins := { s.pins with prearm := 0 }
    brc := { s.brc with lastXfer := s.tai, xcause := xc, await := none } }
  let k := (s.hf nw).vecK
  let s := logBrace s Ev.LEASH_TRANSFER [xc, frm + 256 * nw, k]
  let s := arcRepost s nw
  match s.s08For nw, (s.hf nw).hist.getLast? with
  | some c, some p =>
    let s := (s.hf nw).hist.foldl (fun t q => tellPass t nw c q) s
    let s := presentLead s nw c p.k p.tk
    pubsUpdate s nw c s.brc.await.isNone
  | _, _ => s

/-- No half holds LEASH: the hold stays engaged with cause 2 and LSH_OUT falls (R726, R732). -/
def noLead (s : State) : State :=
  let s := engageHold (s.clr Reg.BRC_STAT_LEASH) 2
  setLsh { s with pins := { s.pins with prearm := 0 }, brc := { s.brc with await := none } } false 5

/-- The lead presents again what it may, after agreement, disagreement or the heel's failure. -/
def presentAgain (s : State) : State :=
  match s.lead with
  | none => s
  | some h =>
    match s.s08For h, (s.hf h).hist.getLast? with
    | some c, some p =>
      let s := presentLead s h c p.k p.tk
      pubsUpdate s h c s.brc.await.isNone
    | _, _ => s

/-! ### Declaring a half failed (R723 to R726) -/

/-- A handover that runs and whose LEASH has not moved fails, and step 6 with it (R761, R194). A heel that ran the new settings is reset. -/
def hoLost (s : State) : State :=
  let ph := s.rd Reg.BRC_HO_PHASE
  if ph = 0 || ph = 4 then s
  else
    let s := [0, 1].foldl (fun t h => if t.brace h = 3 then setBrace (domainReset t (2 + h)) h 0 else t) s
    applyFail { (s.clr Reg.BRC_HO_PHASE).clr Reg.BRC_STAT_HO with brc := { s.brc with ho := none } }

/-- Declare half `h` failed with a reason of Table BRC-12 on SmpCnt `k`; `xc` is the cause of the LEASH transfer when it was the
lead, `cause` the HOLDCAUSE (Table BRC-4). A half already DOWN is not declared again. LEASH goes only to a heel in IN_STEP (R728, R732). -/
def declareFailed (s : State) (h reason k xc cause : Nat) : State :=
  if s.brace h = 0 then s
  else
    let wasLead := s.isLead h
    let other := 1 - h
    let s := setBrace s h 0
    let s := (s.raise Reg.BRC_EVT_HEELFAIL).inc Reg.BRC_CNT0_HFAILS
    let s := logBrace s Ev.HALF_FAILED [h, reason, k]
    let s := { s with brc := { s.brc with
      failed := h :: s.brc.failed.filter (· != h), disRun := [], inRun := false, lateRun := 0 } }
    let s := hoLost (endReq s 0x80)
    let s :=
      if wasLead then
        if s.brace other = 2 then takeLeash (engageHold s cause) h other xc else noLead s
      else s
    let s := attemptDue (domainReset s (2 + h))
    let s := if wasLead then s else presentAgain s
    partnerStat (checkReady s 2)

/-! ### Planned transfer (R733, R734) -/

/-- The VEC that half `h` holds of its own pass, with the digest of the settings it runs. -/
def ownVec (s : State) (h : Nat) : VecPkt := vecOf s h (settingsDigest (secsFor s h))

/-- The logical outputs that depend on signal 0x1801 (R980). -/
def leadOutputs (c : Sec08) : Nat := c.outs.foldl (fun m q => if dependsLead c q.2.src then m ||| one q.1 else m) 0

/-- The pass `k` meets R733 with the half `to` as target, the halves' vectors of `k` being `a` and `b`. -/
def quiet (s : State) (c : Sec08) (nw : Nat) (a b : VecPkt) : Bool :=
  let out := leadOutputs c
  let l := 1 - nw
  s.brace l = 2 && (s.brace nw = 2 || (s.brace nw = 3 && s.rd Reg.BRC_HO_PHASE = 3)) && a.smp = b.smp &&
  andNot 32 a.val out = andNot 32 b.val out && andNot 32 a.prov out = 0 && andNot 32 b.prov out = 0 &&
  s.pins.prearm = 0 && s.brc.await.isNone &&
  (s.hf l).pubs.vals.all fun p => !p.started || decide (s.now + 10000 < p.next)

/-- A planned transfer to half `to` (R733, R734): the hold for at most 2 µs, with cause 1. -/
def planned (s : State) (nw xc : Nat) : State := takeLeash (engageHold s 1) (1 - nw) nw xc

/-- The publishers of half `nw` go over to the settings `n` (R758). -/
def pubsOver (s : State) (n : Secs) (nw : Nat) : State :=
  match s.cfg.secs.s08, n.s08 with
  | some c0, some c1 => s.setHf nw (carryPubs (s.hf nw) c0 c1)
  | _, _ => s

/-- Step 3 of Table BRC-7: LEASH goes to the heel, the new settings run from k + 1 (R759), the former lead rejoins. -/
def hoMove (s : State) (a : Apply) (nw k : Nat) : State :=
  let n := a.img.secs
  let old := sec07 s
  let s := setBrace (pubsOver s n nw) nw 2
  let xold := (sec09 s).xwins
  let s := { s with cfg := { s.cfg with secs := { s.cfg.secs with
    s07 := n.s07, s08 := n.s08, s09 := n.s09, s0f := outPart s.cfg.secs.s0f n.s0f } } }
  let s := planned s nw 6
  let s := loadProt (loadBrace (subscribe s old))
  let s := if (sec09 s).xwins = xold then s else openFabric s (.xwins (sec09 s).xwins)
  let s := setBrace s (1 - nw) 1
  let s := s.wrs [(Reg.BRC_HO_PHASE, 4), (Reg.BRC_HO_EPK, k + 1)]
  { s with cfg := { s.cfg with sampleEpoch := k + 1 }, brc := { s.brc with ho := some (1 - nw, k + 1, s.now) } }

@[inherit_doc hoMove] def hoSwitch (s : State) (nw k : Nat) : State :=
  match s.cfg.apply with
  | none => s
  | some a => hoMove s a nw k

/-- What a pass that meets R733 lets the module do: a planned transfer, a yield, a handover's step 3. -/
def tryQuiet (s : State) (c : Sec08) (a b : VecPkt) : State :=
  match s.lead with
  | none => s
  | some h =>
    let nw := 1 - h
    if !quiet s c nw a b then s
    else if s.rd Reg.BRC_HO_PHASE = 3 then hoSwitch s nw a.smp
    else match s.brc.req with
      | none => s
      | some r =>
        if r.kind = 0 then endReq (planned s nw 5) 0
        else if r.kind = 1 then
          let s := endReq (planned s nw 5) 0
          declareFailed s h 8 a.smp 5 1
        else
          let p := s.brc.partner
          if p.vec = a.val && p.vecp = 0 then endReq (setLsh s false 7) 0 else s

/-! ### Comparison (R710 to R722) -/

/-- The core that ran the lowest-numbered instance feeding output `n` (R720). -/
def coreOf (c : Sec08) (n : Nat) : Nat :=
  let src := ((c.outs.get? n).map (·.src)).getD 0xFFFE
  let ids := sortBy (fun a b => decide (a < b)) (((feeds c src).filter fun x => decide (x < 0x0C00)).map (· / 16))
  match ids with
  | i :: _ => ((c.insts.get? i).map (·.core)).getD 0
  | [] => 0

/-- A failed core of half `h`: the SUBST record and the spare in its place (R720, R764); with no spare left the half is held DOWN
(R739). -/
def coreSubst (s : State) (h core reason : Nat) : State :=
  let m := s.margin (1 + h)
  if m = 0 then { s with brc := { s.brc with held := (h + 2) :: s.brc.held.filter (· != h + 2) } }
  else
    let s := subst s (1 + h) core (10 - m) (m - 1) reason 0
    s.setHf h { s.hf h with cores := coreReplace (s.hf h).cores core (10 - m) }

/-- The first DISN vectors after a rejoin did not all agree (R738). -/
def rejoinFailed (s : State) (h : Nat) : State :=
  let n := s.brc.tries + 1
  let s := (logBrace s Ev.REJOIN_FAILED [h, n]).raise Reg.BRC_EVT_REJOINFAIL
  let s := { s with brc := { s.brc with tries := n, first := 0, rejoined := none, disRun := [], inRun := false } }
  if 3 ≤ n then
    let s := setBrace s h 0
    { s with brc := { s.brc with held := h :: s.brc.held, tries := 0 } }
  else setBrace s h 1

/-- The mask of the outputs that two vectors of one pass disagree on, and of those compared and equal (R710, R711, R980). -/
def disagreeMask (c : Sec08) (a b : VecPkt) : Nat × Nat :=
  let out := leadOutputs c
  let all := c.outs.foldl (fun m q => m ||| one q.1) 0
  if a.gcrc != b.gcrc || a.nseq != b.nseq then (andNot 32 all out, 0)
  else
    let cmp := andNot 32 (andNot 32 (andNot 32 all out) a.prov) b.prov
    ((a.val ^^^ b.val) &&& cmp, andNot 32 cmp (a.val ^^^ b.val))

/-- Outputs that stay at one policy: a TRIP output with LEADALONE counts as FOLLOW. -/
def effPolicy (s : State) (n : Nat) (o : OutRec) : Nat := if o.trip && o.leadAlone then 0 else policy s n o

/-- A split (R721, R743). -/
def declareSplit (s : State) (k mask : Nat) : State :=
  if s.rd Reg.BRC_STAT_SPLIT = 1 then s
  else
    let s := (s.raise Reg.BRC_STAT_SPLIT).raise Reg.BRC_EVT_SPLIT
    let s := logBrace { s with brc := { s.brc with agreeRun := 0 } } Ev.BRACE_SPLIT [k, mask]
    if partnerReady s then setLsh s false 6 else s

/-- DISN disagreeing passes on an output of policy FOLLOW or DEPEND: the heel fails (R718), or the lead, when the run began
within RECUR of the heel's rejoin after such a failure (R719, R720). -/
def disnReached (s : State) (c : Sec08) (lead heel k out : Nat) : State :=
  let back := match s.brc.rejoined with
    | some t => decide (s.brc.runAt ≤ t + (sec09 s).recur * 1000000000) && s.brc.dis718
    | none => false
  if back then
    let n := coreOf c out
    let s := coreSubst s lead ((s.hf lead).cores.getD n n) 4
    declareFailed { s with brc := { s.brc with rejoined := none, dis718 := false } } lead 4 k 4 1
  else declareFailed { s with brc := { s.brc with dis718 := true, rejoined := none } } heel 3 k 0 0

/-- The count of disagreeing passes of each output (R716, R717): `dis` disagree and `agr` agree on the pass of `a`. -/
def countDisagree (s : State) (a : VecPkt) (dis agr : Nat) : State :=
  let run := (ones 32 (dis ||| agr)).foldl (fun (m : KMap Nat) n => if bit dis n then m.set n (m.getD n 0 + 1) else m.erase n) s.brc.disRun
  let agreed := andNot 32 s.brc.agreed agr ||| (a.val &&& agr)
  let was := s.brc.inRun
  let s := { s with brc := { s.brc with
    disRun := run, disMask := dis, agreed := agreed, inRun := !run.isEmpty,
    runAt := if was || dis = 0 then s.brc.runAt else s.up } }
  if dis = 0 then s
  else
    let s := s.inc Reg.BRC_CNT0_DISPASS
    if was then s else (logBrace s Ev.BRC_DISAGREE [a.smp, dis, a.val]).raise Reg.BRC_EVT_DISAGREE

/-- SPLIT ends after DISN consecutive passes on which every output with policy SECURE agrees (R721); a pass that does not compare one of them
leaves the count. -/
def countAgree (s : State) (dis agr : Nat) (sec : List Nat) : State :=
  if s.rd Reg.BRC_STAT_SPLIT = 1 then
    let n := if sec.any (bit dis) then 0 else if sec.all (bit agr) then s.brc.agreeRun + 1 else s.brc.agreeRun
    let s := { s with brc := { s.brc with agreeRun := n } }
    if (sec09 s).disn ≤ n then s.clr Reg.BRC_STAT_SPLIT else s
  else s

/-- A pass after the first of a rejoin: what reaches DISN (R718, R719, R721). -/
def compareRuns (s : State) (c : Sec08) (lead smp dis agr : Nat) : State :=
  let first := s.brc.first - 1
  let s := { s with brc := { s.brc with first := first, tries := if first = 0 then 0 else s.brc.tries } }
  let sec := c.outs.filter fun q => effPolicy s q.1 q.2 = 2 && !dependsLead c q.2.src
  let s := countAgree s dis agr (sec.map (·.1))
  let due := (s.brc.disRun.filter fun p => (sec09 s).disn ≤ p.2).map (·.1)
  let secDue := due.filter fun n => KMap.has sec n
  let s := if secDue.isEmpty then s else declareSplit s smp (secDue.foldl (fun m n => m ||| one n) 0)
  match due.filter fun n => !KMap.has sec n with
  | n :: _ => disnReached s c lead (1 - lead) smp n
  | [] => if s.brc.await.isSome || !sec.isEmpty then presentAgain s else s

/-- The lead compares the two halves' vectors of one pass (R710 to R722, R738). -/
def compareVecs (s : State) (c : Sec08) (lead : Nat) (a b : VecPkt) : State :=
  let m := disagreeMask c a b
  let s := countDisagree s a m.1 m.2
  if s.brc.first != 0 && m.1 != 0 then rejoinFailed s (1 - lead) else compareRuns s c lead a.smp m.1 m.2

/-- One more pass on which the heel was late or missing (R715). -/
def heelLate (s : State) (heel k : Nat) : State :=
  if s.brc.lateK = some k then s
  else
    let n := s.brc.lateRun + 1
    let s := { s with brc := { s.brc with lateRun := n, lateK := some k } }
    if (sec09 s).hmiss ≤ n then declareFailed s heel 2 k 0 0 else s

/-- The heel's VEC of the pass of `a`, arriving now, is late: the lead ended that pass more than 10 µs ago (R715). -/
def vecLate (s : State) (lead : Nat) (a : VecPkt) : Bool :=
  (s.hf lead).vecK != a.smp || decide ((s.hf lead).vecAt + 10000 < s.now)

/-- A vector of half `h` of SmpCnt `k`: its own, or the one that arrived. -/
def vecFor (s : State) (h k : Nat) : Option VecPkt :=
  let v := s.hf h
  if v.vecK = k && v.vecAt != 0 then some (ownVec s h) else (s.brc.vecs.getD h []).find? fun x => x.smp = k

/-- VEC_RECEIVED (R707, R710 to R722, R733, R738, R756): half `h`'s VEC has crossed and reached the arbiter. -/
def execVecReceived (h : Nat) (v : VecPkt) (s : State) : Host.Outcome State Fault Refusal :=
  done s <|
    if 1 < h || !s.fuses.suiteP then s
    else
      let s := kTake s (if h = 0 then 80 else 84)
      let s := { s with brc := { s.brc with
        vecs := s.brc.vecs.set h ((v :: s.brc.vecs.getD h []).take 8), arr := s.brc.arr.set h (v.smp, s.now) } }
      match s.lead with
      | none => s
      | some lead =>
        let heel := 1 - lead
        match s.s08For lead with
        | none => s
        | some c =>
          let s := if h != heel || s.brace heel != 2 then s
            else match vecFor s lead v.smp with
              | some a =>
                if vecLate s lead a then
                  heelLate (s.inc Reg.BRC_CNT1_LATEVEC) heel v.smp
                else { s with brc := { s.brc with lateRun := 0 } }
              | none => { s with brc := { s.brc with lateRun := 0 } }
          if s.lead != some lead || !(s.brace lead = 2) then s
          else match vecFor s lead v.smp, (s.brc.vecs.getD heel []).find? fun x => x.smp = v.smp with
            | some a, some b =>
              if s.brc.cmpK = some (a.smp, a.sec) then s
              else
                let s := { s with brc := { s.brc with cmpK := some (a.smp, a.sec) } }
                let s := if s.brace heel = 2 && a.dig = b.dig then compareVecs s c lead a b else s
                if s.lead = some lead then tryQuiet s c a b else s
            | _, _ => s

/-- The values that the heel holds of a publication whose stNum the lead reports: unchanged with an unchanged stNum, else its own confirmed ones
(R709, Table BRC-4 step 4). -/
def heelValues (s : State) (h i st : Nat) : List Bool :=
  let x := (s.hf h).pubs.getD i {}
  if x.started && x.st = st then x.vals
  else match (s.s08For h).bind fun c => (c.pubs.get? i).map fun p => (c, p) with
    | some (c, p) => pubValues s h c p x.vals true
    | none => x.vals

/-- STATE_PACKET_RECEIVED (R709): the heel `h` replaces its series values, latched outputs and MINON ends with those of the packet that has
crossed. -/
def execStatePacketReceived (h : Nat) (s : State) : Host.Outcome State Fault Refusal :=
  done s <|
    match (s.hf (1 - h)).stOut with
    | none => s
    | some p =>
    if 1 < h || s.isLead h || !s.runs (2 + h) then s
    else
      let s := kTake s (if h = 1 then 81 else 85)
      let s := s.setHf (1 - h) { s.hf (1 - h) with stOut := none }
      let v := s.hf h
      let pubs := p.pubs.foldl (fun (m : KMap PubSt) q =>
        let (st, sq, next, intv) := q.2
        m.set q.1 { m.getD q.1 {} with st := st, sq := sq, next := next, intv := intv, vals := heelValues s h q.1 st, started := true }) v.pubs
      let outs := v.outs.map fun q =>
        let o := q.2
        (q.1, { o with
          conf := if ((s.s08For h).bind fun c => (c.outs.get? q.1).map (·.mode)) = some 1 then bit p.latched q.1 else o.conf
          minEnd := p.minOn.getD q.1 o.minEnd })
      s.setHf h { v with nseq := p.nseq, pubs := pubs, outs := outs }

/-- AGWAIT_EXPIRY (R713 to R715): 10 µs after the lead's pass `k` the heel's VEC of `k` has not come. -/
def execAgwaitExpiry (k : Nat) (s : State) : Host.Outcome State Fault Refusal :=
  done s <|
    match s.lead with
    | none => s
    | some lead =>
      let heel := 1 - lead
      let v := s.hf lead
      let came := (s.brc.vecs.getD heel []).any fun x => x.smp = k
      if v.vecK != k || s.brace heel != 2 || came || s.now < v.vecAt + 10000 then s
      else if s.brc.await.isSome then declareFailed s heel 1 k 0 0
      else heelLate s heel k

/-- LIVEWIN_EXPIRY (R727): 20 µs after the heel's VEC of `k` reached the arbiter the lead's has not. -/
def execLivewinExpiry (k : Nat) (s : State) : Host.Outcome State Fault Refusal :=
  done s <|
    match s.lead with
    | none => s
    | some lead =>
      let heel := 1 - lead
      let came := (s.brc.vecs.getD lead []).any fun x => x.smp = k
      match s.brc.arr.get? heel with
      | some (k', t) => if k' != k || came || s.brace lead != 2 || s.now < t + 20000 then s else declareFailed s lead 7 k 1 1
      | none => s

/-! ### Commands of range 0x09 -/

/-- A handover or a rejoin runs (R776). -/
def braceBusy (s : State) : Bool := s.rd Reg.BRC_HO_PHASE != 0 || s.brace 0 = 1 || s.brace 1 = 1

/-- BRC_TRANSFER (R733, R735, R776). A request while another waits is answered BUSY (log entry 25). -/
def execBrcTransfer (tag : Nat) (s : State) : Host.Outcome State Fault Refusal :=
  done s <| command s 0x0902 tag fun s =>
    if braceBusy s then deny s 0x83
    else match s.lead with
      | none => deny s 0x80
      | some h =>
        if s.brace (1 - h) != 2 then deny s 0x80
        else if s.brc.req.isSome then deny s St.BUSY
        else later { s with brc := { s.brc with req := some ⟨0, tag, s.now, 0⟩ } }

/-- TRANSFER_TIMEOUT (R735, R744): no pass has met R733 within 10 s of the request. -/
def execTransferTimeout (s : State) : Host.Outcome State Fault Refusal :=
  done s <|
    match s.brc.req with
    | none => s
    | some r => if s.now < r.at_ + 10000000000 then s else endReq s 0x82

/-- BRC_RESYNC (R723, R738, R776): a heel fails at once, the lead after a planned transfer, a half held DOWN by R738 is let go. -/
def execBrcResync (tag h : Nat) (s : State) : Host.Outcome State Fault Refusal :=
  done s <| command s 0x0903 tag fun s =>
    if 1 < h then deny s St.BAD_PARAM
    else if braceBusy s then deny s 0x83
    else if s.isLead h then
      if s.brace (1 - h) != 2 then deny s 0x80
      else if s.brc.req.isSome then deny s St.BUSY
      else later { s with brc := { s.brc with req := some ⟨1, tag, s.now, h⟩ } }
    else
      let s := { s with brc := { s.brc with held := s.brc.held.filter (· != h), tries := 0 } }
      okay (if s.brace h = 0 then domainReset s (2 + h) else declareFailed s h 8 (smpNow s) 0 0) []

/-- BRC_PART as it reads now: FRAMES, CFGEQ, BILEQ, PFVER, AGE. -/
def brcPart (s : State) : Nat :=
  let p := s.brc.partner
  let age := if p.seen then min 0xFFFF ((s.now - p.at_) / 1000000) else 0xFFFF
  b2n (p.seen && !p.lost) * 2 ^ 31 + s.rd Reg.BRC_PART_CFGEQ * 2 ^ 30 + s.rd Reg.BRC_PART_BILEQ * 2 ^ 29 +
    s.rd Reg.BRC_PART_PFVER * 2 ^ 16 + age

/-- BRC_STAT as a word. -/
def brcStat (s : State) : Nat :=
  [Reg.BRC_STAT_ROLE, Reg.BRC_STAT_PARTNER, Reg.BRC_STAT_LSHIN, Reg.BRC_STAT_LSHOUT, Reg.BRC_STAT_SPLIT, Reg.BRC_STAT_HO,
   Reg.BRC_STAT_CMPON, Reg.BRC_STAT_HALFB, Reg.BRC_STAT_HALFA, Reg.BRC_STAT_LEASH].foldl (fun a f => a + s.rd f * 2 ^ f.lo) 0

/-- BRC_STATUS (Table BRC-9). -/
def execBrcStatus (tag : Nat) (s : State) : Host.Outcome State Fault Refusal :=
  done s <| command s 0x0901 tag fun s =>
    let p := s.brc.partner
    okay s (le 4 (brcStat s) ++ le 4 (brcPart s) ++ le 4 s.brc.disMask ++ le 8 s.brc.lastXfer ++ le 1 s.brc.xcause ++ zeros 3 ++
      le 16 (sec09 s).puid ++ le 4 p.cfgseq ++ le 4 p.bilver)

/-- PARTNER_YIELD (R744, R776). -/
def execPartnerYield (tag : Nat) (s : State) : Host.Outcome State Fault Refusal :=
  done s <| command s 0x0904 tag fun s =>
    if !(sec09 s).partner then deny s 0x81
    else if braceBusy s then deny s 0x83
    else if !partnerReady s then deny s 0x80
    else if s.rd Reg.BRC_STAT_LSHOUT = 0 then okay s []
    else if s.brc.req.isSome then deny s St.BUSY
    else later { s with brc := { s.brc with req := some ⟨2, tag, s.now, 0⟩ } }

/-! ### Rejoining (R736 to R739) -/

/-- Copy the lead's state to half `h`: instances, buffers, synthesis history, gates, outputs, and the STATE values (R736). -/
def copyState (s : State) (frm h : Nat) : State :=
  let a := s.hf frm
  let v := s.hf h
  s.setHf h { v with
    next := a.next, tk := a.tk, streams := a.streams, insts := a.insts, hist := a.hist, gates := a.gates, outs := a.outs, pubs := a.pubs,
    floc := a.floc, feeders := a.feeders, fcst := a.fcst, nseq := a.nseq, told := a.told, hostBlk := a.hostBlk }

/-- Half `h` starts passes with no other half to copy from: IN_STEP, and LEASH when none holds it (R704, R705). -/
def startAlone (s : State) (h : Nat) : State :=
  let s := setBrace s h 2
  if s.lead.isSome then s else grantLeash s h

/-- A half that starts alone is no longer one that has failed. -/
def aloneAgain (s : State) (h : Nat) : State :=
  let s := startAlone s h
  { s with brc := { s.brc with failed := s.brc.failed.filter (· != h) } }

/-- HALF_REJOIN_START (R155, R736, R739): the half's domain is back in RUN. While the other half leads it receives its state;
with no lead it starts alone. A half held for lack of cores, or by R738 until its domain starts again, stays as the rule says. -/
def execHalfRejoinStart (h : Nat) (s : State) : Host.Outcome State Fault Refusal :=
  done s <|
    if 1 < h || s.dom (2 + h) != 1 || s.pwr.quiesced || s.pwr.thermal || s.rd Reg.SUP_DOMSTAT_OCXO_LOST = 1 ||
      s.rd Reg.UPD_STAT_RCV = 1 then s
    else
      let s := domainRun s (2 + h)
      let s := { s with brc := { s.brc with held := s.brc.held.filter (· != h) } }
      if s.brc.held.contains (h + 2) then s
      else if !s.fuses.suiteP then
        aloneAgain s h
      else if (s.s08For h).isNone || coreDefault s then s
      else if s.isLead (1 - h) then setBrace (copyState s (1 - h) h) h 1
      else aloneAgain s h

/-- The expected sample time of k_j, from that of the pass which the copied state of half `h` expects next (R737). -/
def joinTime (s : State) (h k : Nat) : Nat :=
  match (s.hf h).next, s.s08For h with
  | some n, some c => (s.hf h).tk + (k + c.prate - n) % max 1 c.prate * periodNs s
  | _, _ => (s.hf h).tk

/-- REJOIN_COMPLETE (R704, R705, R737, R738, R756): from SmpCnt `k` on the half is in IN_STEP; a handover ends. -/
def execRejoinComplete (h k : Nat) (s : State) : Host.Outcome State Fault Refusal :=
  done s <|
    if 1 < h || s.brace h != 1 || !s.runs (2 + h) then s
    else match s.lead with
      | none =>
        let s := startAlone s h
        s.setHf h { s.hf h with next := some k }
      | some lead =>
        if lead = h then s
        else
          let s := copyState s lead h
          let s := s.setHf h { s.hf h with next := some k, tk := joinTime s h k, running := none }
          let s := (setBrace s h 2).inc Reg.BRC_CNT1_REJOINS
          let wasFailed := s.brc.failed.contains h
          let s := { s with brc := { s.brc with
            failed := s.brc.failed.filter (· != h), first := (sec09 s).disn, disRun := [], inRun := false, lateRun := 0,
            rejoined := if wasFailed && s.brc.dis718 then some s.up else s.brc.rejoined } }
          if s.rd Reg.BRC_HO_PHASE = 4 then
            let s := logBrace s Ev.CMP_RESUMED [k, settingsDigest s.cfg.secs]
            let s := (s.clr Reg.BRC_HO_PHASE).clr Reg.BRC_STAT_HO
            { s with brc := { s.brc with ho := none } }
          else s

/-! ### LSH pins (R742 to R747) -/

/-- The module may take leadership by its role: SECONDARY waits 10 s from its start (R742). -/
def roleMayTake (s : State) : Bool := effRole s = 0 || decide (s.brc.startAt + 10000000000 ≤ s.up)

/-- LSH_IN_LOW_DEBOUNCE (R85, R742): LSH_IN has been low for 20 µs; a module with no partner only shows the level. -/
def execLshInLowDebounce (s : State) : Host.Outcome State Fault Refusal :=
  done s <|
    let s := { (s.clr Reg.BRC_STAT_LSHIN) with brc := { s.brc with lshLow := some s.now } }
    if partnerCfg s && moduleReady s && roleMayTake s then setLsh s true 1 else s

/-- LEADERSHIP_START_WAIT_EXPIRY (R742): a SECONDARY whose LSH_IN is already low raises LSH_OUT 10 s after its start. -/
def execLeadershipStartWaitExpiry (s : State) : Host.Outcome State Fault Refusal :=
  done s <|
    if partnerCfg s && moduleReady s && s.brc.lshLow.isSome && s.rd Reg.BRC_STAT_LSHIN = 0 && roleMayTake s then setLsh s true 1 else s

/-- LSH_TIE_SAMPLE (R745): LSH_IN as sampled 5 µs after LSH_OUT rose. -/
def execLshTieSample (high : Bool) (s : State) : Host.Outcome State Fault Refusal :=
  done s <|
    let s := s.wr Reg.BRC_STAT_LSHIN (b2n high)
    let s := if high then { s with brc := { s.brc with lshLow := none } } else s
    match s.brc.tie with
    | none => s
    | some t =>
      if !partnerCfg s || s.up < t + 5000 then s
      else
        let s := { s with brc := { s.brc with tie := none } }
        if high && s.rd Reg.BRC_STAT_LSHOUT = 1 && effRole s = 1 then
          logBrace (setLsh s false 8) Ev.LSH_TIE [s.fuses.unitId % 2 ^ 32, s.brc.partner.uid % 2 ^ 32]
        else s

/-! ### Partner frames (R748 to R754) -/

/-- The STATE byte of a partner frame (Table BRC-5). -/
def stateByte (s : State) : Nat :=
  s.rd Reg.BRC_STAT_LSHOUT + 2 * b2n (moduleReady s) + 4 * b2n s.sup.inServ + 8 * s.rd Reg.BRC_STAT_SPLIT + 16 * s.rd Reg.BRC_STAT_HO

/-- The version of partner frames in use: the lower of both sides' highest (R752). -/
def pfVersion (s : State) : Nat := min ((s.upd.run.map (·.pfmax)).getD 1) s.brc.partner.pfmax

/-- A partner frame before its MAC (Table BRC-5). -/
def partnerBytes (f : PartnerFrame) : List Byte :=
  pack [(1, f.pfver), (1, f.pfmax), (16, f.uid), (1, f.role), (1, f.st), (4, f.cfgseq), (4, f.setdig), (4, f.bilver), (2, f.smp), (2, 0),
    (4, f.vec), (4, f.vecp), (8, f.sentNs), (8, f.txseq)]

/-- The MAC of a partner frame under chuck slot `k` (Table BRC-5). -/
def partnerMac (s : State) (k : Nat) (f : PartnerFrame) : List Byte :=
  (hmac (be 32 (((s.key.slots.get? k).map (·.key)).getD 0)) (partnerBytes f)).take 16

/-- A partner frame is due: 1 ms after the last one, or at a change of the STATE byte (R748). -/
def partnerDue (s : State) : Bool :=
  match s.brc.partner.sent with
  | some f => f.st != stateByte s || decide (f.sentNs + 1000000 ≤ s.now)
  | none => true

/-- A frame of the partner link as it leaves P5: untagged, to the broadcast address, to no other port (R748). -/
def partnerOut (s : State) : State :=
  if (portCfg s 5).en then
    s.setFwd { s.fwd with egress := [{ port := 5, queue := 0, tag := none, src := 0, dst := 0xFFFFFFFFFFFF, hop := 0, rct := none }] }
  else s

/-- PARTNER_FRAME_SEND (R748, R750, R752): the next TXSEQ, under the ceiling in MRAM, and the lead's confirmed vector. The frame's source address
and its queue are not given, nor the MAC when the chuck does not serve the slot (log entry 98). -/
def execPartnerFrameSend (s : State) : Host.Outcome State Fault Refusal :=
  done s <|
    if !(sec09 s).partner || s.cfg.secs.s09.isNone || !s.runs 5 || !partnerDue s then s
    else
      let p := s.brc.partner
      let tx := (p.txSeq + 1) % 2 ^ 64
      let lead := s.hf (s.lead.getD 0)
      let k := (sec09 s).pkslot
      let f : PartnerFrame :=
        { pfver := pfVersion s, pfmax := (s.upd.run.map (·.pfmax)).getD 1, uid := s.fuses.unitId, role := (sec09 s).role,
          st := stateByte s, cfgseq := s.rd Reg.SUP_CFGACT_SEQ, setdig := settingsDigest s.cfg.secs,
          bilver := s.rd Reg.UPD_BILVER_VERSION, smp := lead.vecK, vec := lead.vecC, vecp := lead.vecP, sentNs := s.now, txseq := tx, mac := [] }
      let (s, mac) := if k = 0xFF then (s, zeros 16) else
        let r := keyServe s 0 k 3 .mac
        (r.1, if r.2 then partnerMac s k f else be 16 (Config.freeNat s.free % 2 ^ 128))
      let s := { s with free := s.free + 1 }
      partnerOut { s with brc := { s.brc with partner := { p with txSeq := tx, ceil := if p.ceil ≤ tx then p.ceil + 2 ^ 20 else p.ceil, sent := some { f with mac := mac } } } }

/-- PARTNER_FRAME_RECEIVED (R746, R749, R751 to R754). -/
def execPartnerFrameReceived (f : PartnerFrame) (s : State) : Host.Outcome State Fault Refusal :=
  done s <|
    let c := sec09 s
    if !c.partner || s.cfg.secs.s09.isNone || !s.runs 5 then s
    else
      let p := s.brc.partner
      let (s, mac) := if c.pkslot = 0xFF then (s, true)
        else if f.uid = c.puid && p.rxSeq < f.txseq then
          let r := keyServe s 0 c.pkslot 3 .verify
          (r.1, r.2 && f.mac = partnerMac s c.pkslot f)
        else (s, false)
      let par := [f.cfgseq, f.bilver, f.setdig]
      if f.uid != c.puid || f.txseq ≤ p.rxSeq || !mac then
        let due := match p.foreignAt with
          | some t => decide (t + 60000000000 ≤ s.now)
          | none => true
        if due then
          logBrace { s with brc := { s.brc with partner := { p with foreignAt := some s.now } } } Ev.PARTNER_FOREIGN par
        else s
      else
        let q := { p with
          role := f.role, st := f.st, cfgseq := f.cfgseq, setdig := f.setdig, bilver := f.bilver, smp := f.smp, vec := f.vec, vecp := f.vecp,
          pfmax := f.pfmax, uid := f.uid, seen := true, at_ := s.now, lost := false, rxSeq := f.txseq, conflict := f.role = c.role }
        let s := { s with brc := { s.brc with partner := q } }
        let s := if p.lost then (logBrace s Ev.PARTNER_BACK par).raise Reg.BRC_EVT_PARTCHG else s
        let s := if q.conflict && !p.conflict then
            logBrace s Ev.ROLE_CONFLICT [s.fuses.unitId % 2 ^ 32, f.uid % 2 ^ 32]
          else s
        let ceq := decide (f.setdig = settingsDigest s.cfg.secs)
        let beq := decide (f.bilver = s.rd Reg.UPD_BILVER_VERSION)
        let s := s.wrs [(Reg.BRC_PART_FRAMES, 1), (Reg.BRC_PART_CFGEQ, b2n ceq), (Reg.BRC_PART_BILEQ, b2n beq),
          (Reg.BRC_PART_PFVER, pfVersion s)]
        let s := if p.eq.getD (false, false) = (ceq, beq) then s
          else (logBrace s Ev.PARTNER_MISMATCH par).raise Reg.BRC_EVT_MISMATCH
        let s := { s with brc := { s.brc with partner := { s.brc.partner with eq := some (ceq, beq) } } }
        let lead := s.hf (s.lead.getD 0)
        let s := if ceq && beq && s.lead.isSome && lead.vecK = f.smp &&
            andNot 32 (andNot 32 (lead.vecC ^^^ f.vec) lead.vecP) f.vecp != 0 then s.inc Reg.BRC_CNT1_PVDIFF
          else s
        partnerStat (checkReady s 2)

/-- PARTNER_LOST (R751): no frame accepted for 30 ms. -/
def execPartnerLost (s : State) : Host.Outcome State Fault Refusal :=
  done s <|
    let p := s.brc.partner
    if p.lost || !p.seen || s.now < p.at_ + 30000000 then s
    else
      let s := { s with brc := { s.brc with partner := { p with lost := true } } }
      let s := (logBrace s Ev.PARTNER_LOST [p.cfgseq, p.bilver, p.setdig]).raise Reg.BRC_EVT_PARTCHG
      partnerStat (s.clr Reg.BRC_PART_FRAMES)

/-- Save the last TXSEQ accepted (R750). -/
def saveTxseq (s : State) : State :=
  let p := s.brc.partner
  { s with brc := { s.brc with partner := { p with saved := p.rxSeq, puid := (sec09 s).puid, savedUp := s.up } } }

/-- PARTNER_SEQ_SAVE (R750): every 10 s. -/
def execPartnerSeqSave (s : State) : Host.Outcome State Fault Refusal :=
  done s <| if s.up < s.brc.partner.savedUp + 10000000000 then s else saveTxseq s

/-! ### Handover (R755 to R761) -/

/-- Start step 6 of an apply (R755, R756, R762): `none` when it fails because the halves are not both in IN_STEP. -/
def handoverStart (s : State) : Option State :=
  match s.lead with
  | some h =>
    if s.brace 0 != 2 || s.brace 1 != 2 || braceBusy s then none
    else some { (s.wr Reg.BRC_HO_PHASE 1).raise Reg.BRC_STAT_HO with brc := { s.brc with ho := some (1 - h, 0, s.now) } }
  | none => none

/-- HANDOVER_LOAD_DONE (R756 to R758): the heel runs the new settings from `k` in SUSPENDED. -/
def execHandoverLoadDone (k : Nat) (s : State) : Host.Outcome State Fault Refusal :=
  done s <|
    match s.brc.ho, s.cfg.apply with
    | some (heel, _, _), some a =>
      if s.rd Reg.BRC_HO_PHASE != 1 || s.brace heel != 2 then s
      else
        let v := match s.s08, a.img.secs.s08 with
          | some c0, some c1 => carrySettings (s.hf heel) c0 c1
          | _, _ => { s.hf heel with insts := [], gates := [], outs := [] }
        let s := (setBrace (s.setHf heel v) heel 3).wr Reg.BRC_HO_PHASE 2
        let s := { s with brc := { s.brc with ho := some (heel, k, s.now), disRun := [], inRun := false } }
        logBrace s Ev.CMP_SUSPENDED [k, settingsDigest a.img.secs]
    | _, _ => s

/-- HANDOVER_WARM_EXPIRY (R756): HOWARM after k_w the handover waits for a pass that meets R733. -/
def execHandoverWarmExpiry (s : State) : Host.Outcome State Fault Refusal :=
  done s <|
    match s.brc.ho with
    | some (heel, k, t) =>
      if s.rd Reg.BRC_HO_PHASE != 2 || s.now < t + (sec09 s).howarm * 1000000 then s
      else { s.wr Reg.BRC_HO_PHASE 3 with brc := { s.brc with ho := some (heel, k, s.now) } }
    | none => s

/-- HANDOVER_WAIT_TIMEOUT (R761, R194): no pass has met R733 within HOWAIT. The heel is reset and will rejoin on the old
settings; step 6 fails. -/
def execHandoverWaitTimeout (s : State) : Host.Outcome State Fault Refusal :=
  done s <|
    match s.brc.ho with
    | some (heel, _, t) =>
      if s.rd Reg.BRC_HO_PHASE != 3 || s.now < t + (sec09 s).howait * 1000000 then s
      else
        hoLost (setBrace (domainReset s (2 + heel)) heel 0)
    | none => s

end Sys2Proof.Machine
end

