-- ==== Sys2Proof/Machine/Checks.lean ====
section
/-! DEFINITION. The checks of an image (Table BOOT-6) and of a module billet (Table UPD-3), with the rules on section contents
of the owning chapters (03_startup_configuration.md, 16_updates.md). -/
namespace Sys2Proof.Machine

/-- FORMAT_NEW or FORMAT_OLD for a format version that differs from the one read (R165, R183, R935). -/
def fmtStatus (found want : Nat) : Nat := if want < found then St.FORMAT_NEW else St.FORMAT_OLD

/-- The format version of section `id` that a billet reads (FMTTAB). -/
def fmtOf (tab : List Nat) (id : Nat) : Nat := tab.getD (id - 1) 0

/-! ### Section contents (order 7) -/

/-- A step of a day-profile lies within Tables LUX-2 and NET-4: its anchor, OFFSET, LEVEL and RAMP. -/
def stepOk (p : Step) : Bool :=
  p.anchor ≤ 2 && withinI (-720) (if p.anchor = 0 then 719 else 720) p.offset && p.level ≤ 1000 && p.ramp ≤ 0xFFFF

/-- A group's fields, and the PIDs it names (R497). -/
def groupOk (c : Sec05) (primary : Bool) (g : Group) : Bool :=
  (g.week.isEmpty || g.week.length = 7) && g.exc.length ≤ 64 && (groupPids g).all c.profiles.has &&
  (!primary || (g.week.length = 7 && (groupPids g).length ≤ 16))

/-- A path's fields. -/
def pathOk (p : PathCfg) : Bool :=
  within 1 64 p.lanterns.length && within 1 4 p.sensors.length && within 1 1000 p.lwave && p.ramp ≤ 600 && p.lead ≤ 2000 &&
  within 1 600 p.trail && within 5 200 p.vdef

/-- Section 0x05 lies within Table LUX-1 and names only what is defined; a FEEDER that section 0x04 names is a reference, 0xFFFF
none (R497, Table NET-1). -/
def sec05Ok (c : Sec05) (rs : List RosterRec) : Bool :=
  let prim := c.nodes.vals.filterMap fun x => x.grp.head?
  withinI (-6000) (-833) c.elev && within 160 3600 c.supGrace && within 1 400 c.luxRate &&
  c.profiles.length ≤ 256 && c.profiles.all (fun p => p.1 < 256 && within 1 16 p.2.length && p.2.all stepOk) &&
  c.groups.length ≤ 4096 && c.groups.all (fun g => g.1 < 4096 && groupOk c (prim.contains g.1) g.2) &&
  c.nodes.length ≤ 131072 && c.nodes.vals.all (fun x => x.grp.length ≤ 16 && x.grp.all c.groups.has &&
    (match x.drv with
      | some d => c.drivers.has d
      | none => true) && x.rprio ≤ 3) &&
  c.drivers.all (fun d => d.1 < 64 && within 1 10000 d.2.iInr && within 1 1000 d.2.tInr) &&
  c.feeders.all (fun f => f.1 < 32 && within 1 20000 f.2.iAllow && within 100 10000 f.2.start && f.2.stepgap ≤ 500 &&
    within 2 64 f.2.infcnt) &&
  c.paths.all (fun p => p.1 < 2048 && pathOk p.2) &&
  rs.all (fun r => r.feeder = 0xFFFF || c.feeders.has r.feeder)

/-- Section 0x07: at most 4,915,200 channel-samples a second (R607). -/
def sec07Ok (c : Sec07) : Bool := (c.sv.vals.map fun x => x.nch * x.rate).sum ≤ 4915200

/-- The cycles of an instance on a pass (Table PROT-3); FUNC is its row (R979). -/
def instCycles (i : Inst) : Nat :=
  match i.func with
  | 0 => 1600 | 1 => 2400 | 2 => 9600 | 3 => 2000 + 1200 * i.n | 4 => 1000 + 400 * i.n | 5 => 500 | 6 => 900 | 7 => 1800
  | 8 => 200 | 9 => 1600 | 10 => 400 | 11 => 1000 | _ => 0

/-- The cycle budget of a half and of each core (R644, R666). -/
def cyclesOk (c : Sec08) : Bool :=
  let l := c.insts.vals
  decide ((l.map instCycles).sum + 24 * c.gates.length ≤ 491520) &&
  l.all fun i => decide (((l.filter fun j => j.core = i.core).map instCycles).sum ≤ 61440)

/-- Section 0x08: rates, the rate of every subscription a bay names (R628, R629), the cycle budget (R644). -/
def sec08Ok (c : Sec08) (t : Option Sec07) : Bool :=
  [4000, 4800, 14400].contains c.prate && (c.fnom = 50 || (c.fnom = 60 && c.prate != 4000)) &&
  (match t with
    | none => true
    | some t => c.insts.vals.all fun i => i.ins.all fun p => 128 ≤ p.1 || (match t.sv.get? p.1 with
      | some x => x.rate = c.prate
      | none => false)) &&
  cyclesOk c

/-- Section 0x09 lies within Table BRC-10, HOWARM at 2 × Ncyc passes or more, with no reserved policy (Table BRC-3). -/
def sec09Ok (c : Sec09) (p : Option Sec08) : Bool :=
  c.pol.vals.all (· < 3) && c.role ≤ 1 && c.pkslot ≤ 255 && within 1 15 c.disn && within 1 15 c.hmiss && within 10 255 c.recur &&
  within 100 10000 c.howarm && within 1000 60000 c.howait && p.all fun x => decide (2 * ncyc x * 1000 ≤ c.howarm * x.prate)

/-- Section 0x0A lies within Table MTR-2; VREF and FSRC name VOLTAGE points, and every CURRENT point has a VREF (R778). -/
def sec0AOk (c : Sec0A) : Bool :=
  let volt (p : Nat) : Bool := p < 8 && c.kind.getD p 0 = 2
  c.kind.all (fun k => k.1 < 8 && k.2 ≤ 2) &&
  c.kind.all (fun k => k.2 != 1 || (match c.vref.get? k.1 with
    | some v => volt v
    | none => false)) &&
  c.chans.all (fun x => x.1 < 32 && within 1 100000000 x.2.fscale && withinI (-8388608) 8388607 x.2.ofs &&
    within 0x20000000 0x60000000 x.2.gain && withinI (-50000) 50000 x.2.delay) &&
  (c.kp ++ c.kq).all (fun k => k.1 < 8 && decide (9 * 2 ^ 30 ≤ 10 * k.2) && decide (10 * k.2 ≤ 11 * 2 ^ 30)) &&
  within 1 60 c.saveper && (volt c.fsrc || !c.kind.any fun k => k.2 = 2)

/-- Every enabled backup element of section 0x08 watches a CURRENT point, element e point e (R779). -/
def backupOk (c : Sec08) (m : Sec0A) : Bool := c.bks.all fun b => !b.2.en || m.kind.getD b.1 0 = 1

/-- Section 0x0B: sizes in multiples of 1,024 records, rings of at least one, 64 areas together (R823). -/
def sec0BOk (l : List LogCfg) : Bool :=
  distinct (l.map (·.log)) && l.all (fun d => within 9 15 d.log && d.firsts % 1024 = 0 && d.ring % 1024 = 0 && 1024 ≤ d.ring) &&
  decide ((l.map fun d => (d.firsts + d.ring + 2047) / 2048).sum ≤ 64)

/-- The contents of the sections that an image puts in force (order 7 of Table BOOT-6). -/
def contentOk (s : State) (c : Secs) : Bool :=
  let c := effSecs s c
  let opt {α : Type} (x : Option α) (f : α → Bool) : Bool := (x.map f).getD true
  opt c.s03 (fun x => x.region = 1 || x.region = 2) && opt c.s04 sec04Ok &&
  opt c.s05 (fun x => sec05Ok x ((c.s04.map (·.recs)).getD [])) && opt c.s07 sec07Ok &&
  opt c.s08 (fun x => sec08Ok x c.s07) && opt c.s09 (fun x => sec09Ok x c.s08) && opt c.s0a sec0AOk && opt c.s0b sec0BOk &&
  (match c.s08, c.s0a with
    | some p, some m => backupOk p m
    | _, _ => true)

/-! ### Images (Table BOOT-6) -/

/-- The body of an entry lies inside the image, between the directory and the signature. -/
def Image.inside (i : Image) (e : DirEnt) : Bool :=
  decide (40 + 16 * i.dir.length ≤ e.off) && decide (e.off + e.body.length + 64 ≤ i.total)

/-- IDs 0x01 to 0x0F rising, every section inside the image, section 0x01 present (order 4). -/
def dirOk (inside : DirEnt → Bool) : Nat → List DirEnt → Bool
  | _, [] => true
  | lo, e :: l => decide (lo < e.id) && decide (e.id ≤ 15) && inside e && dirOk inside e.id l

/-- The first section of the directory whose FMT the firmware with FMTTAB `tab` does not take: at a start a lower FMT goes to
defaults, but for section 0x01 (R165, R166); at runtime every difference fails (R183, R935). -/
def fmtBad (tab : List Nat) (strict : Bool) (l : List DirEnt) : Option Nat :=
  (l.find? fun e => e.fmt != fmtOf tab e.id && (strict || e.id = 1 || fmtOf tab e.id < e.fmt)).map fun e =>
    fmtStatus e.fmt (fmtOf tab e.id)

/-- The sections that a start replaces by defaults (R166): id, FMT found, FMT read. -/
def defaulted (tab : List Nat) (l : List DirEnt) : List (Nat × Nat × Nat) :=
  (l.filter fun e => e.id != 1 && e.fmt < fmtOf tab e.id).map fun e => (e.id, e.fmt, fmtOf tab e.id)

/-- Take section `id` out. -/
def dropSec (c : Secs) (id : Nat) : Secs :=
  match id with
  | 2 => { c with s02 := none } | 3 => { c with s03 := none } | 4 => { c with s04 := none } | 5 => { c with s05 := none }
  | 6 => { c with s06 := none } | 7 => { c with s07 := none } | 8 => { c with s08 := none } | 9 => { c with s09 := none }
  | 10 => { c with s0a := none } | 11 => { c with s0b := none } | 12 => { c with s0c := none } | 13 => { c with s0d := [] }
  | 14 => { c with s0e := none } | 15 => { c with s0f := none } | _ => c

/-- The CRC-32 of the output part of a section 0x0F: bytes 4 to 3 + L of its body, L being the u32 of bytes 0 to 3 (R985). -/
def outPartCrc (body : List Byte) : Nat := crc32 ((body.drop 4).take (fromLe (body.take 4)))

/-- The section contents with the body CRCs that the directory and the bytes give them. -/
def withCrcs (i : Image) : Secs :=
  let crc (id : Nat) : Nat := ((i.dir.find? fun e => e.id = id).map (·.crc)).getD 0
  let c := i.secs
  { c with
    s07 := c.s07.map fun x => { x with crc := crc 7 }
    s08 := c.s08.map fun x => { x with crc := crc 8 }
    s0f := c.s0f.map fun x => { x with outCrc := ((i.dir.find? fun e => e.id = 15).map fun e => outPartCrc e.body).getD 0 } }

/-- The sections of an image that the firmware reads: those in its directory and not defaulted. -/
def readSecs (tab : List Nat) (i : Image) : Secs :=
  let c := (List.range 16).foldl (fun c id => if i.dir.any (fun e => e.id = id) then c else dropSec c id) (withCrcs i)
  (defaulted tab i.dir).foldl (fun c d => dropSec c d.1) c

/-- The checks of an image in the order of Table BOOT-6: the status of the first failure. `len` is CFGLEN or the staged length; the
last two orders are left out for recovery (R944). -/
def imageCheck (s : State) (tab : List Nat) (strict whole : Bool) (len : Nat) (i : Image) : Option Nat :=
  if i.magic != 0x49435456 || i.ver != 1 || len < i.total then some St.FORMAT_BAD
  else if i.typ != s.fuses.typ || !(i.unit = 0 || i.unit = s.fuses.unitId) then some St.BIND_FAIL
  else if !ownerSigned s i.signers then some St.SIG_FAIL
  else if !dirOk (Image.inside i) 0 i.dir || !(i.dir.any fun e => e.id = 1) then some St.FORMAT_BAD
  else if !(i.dir.all fun e => crc32 e.body = e.crc) then some St.CRC_FAIL
  else match fmtBad tab strict i.dir with
    | some st => some st
    | none =>
      if !whole then none
      else if !contentOk s (readSecs tab i) then some St.CONTENT_FAIL
      else if !i.flashOk then some St.FLASH_FAIL
      else none

/-- What a failed attempt adds to a device's count: 1 for FLASH_FAIL, 2 for any other status of the tables (R172). -/
def failWeight (st : Nat) : Nat := if st = St.FLASH_FAIL then 1 else 2

/-! ### Module billets (Table UPD-3) -/

/-- Each component once, inside the billet, with its SHA-256 (order 5). -/
def compsOk (b : Billet) : Bool :=
  [1, 2, 3, 4, 5, 6].all (fun id => (b.dir.filter fun c => c.id = id).length = 1) &&
  b.dir.all fun c => c.off + c.body.length ≤ b.total && sha256 c.body = c.sha

/-- SIG verifies under the vendor key of KEYIDX, and no fuse revokes that key (R924). -/
def vendorSigned (s : State) (b : Billet) : Bool :=
  match s.fuses.vendor[b.keyidx]? with
  | some h => b.signers.contains h && !bit s.fuses.revoked b.keyidx
  | none => false

/-- The checks of a billet in the order of Table UPD-3; `len` is BILLEN or the staged length. -/
def billetCheck (s : State) (len : Nat) (b : Billet) : Option Nat :=
  if b.magic != 0x4D425456 || b.bver != 1 || b.ncomp != 6 || b.resv != 0 || len < b.total then some St.FORMAT_BAD
  else if b.typ != s.fuses.typ || s.fuses.hwrev < b.hwmin || b.hwmax < s.fuses.hwrev ||
      !(b.unit = 0 || b.unit = s.fuses.unitId) then some St.BIND_FAIL
  else if !vendorSigned s b then some St.SIG_FAIL
  else if b.svn < s.rd Reg.UPD_FLOOR_FLOOR then some 0x80
  else if !compsOk b then some St.CRC_FAIL
  else if !b.flashOk then some St.FLASH_FAIL
  else none

/-- FMTTAB of the running billet; that of VERSION 1.x before any runs (Table BOOT-7). -/
def fmtTab (s : State) : List Nat :=
  (s.upd.run.map (·.fmttab)).getD [3, 2, 4, 3, 5, 2, 3, 6, 2, 2, 1, 2, 1, 3, 4]

end Sys2Proof.Machine
end

