-- ==== Sys2Proof/Machine/Counters.lean ====
section
/-! DEFINITION. The reads that clear the saturating counters of the blocks (R67, R207), and the comparison of the lighting results
of the halves (12_brace.md). -/
namespace Sys2Proof.Machine

/-- FWD_CNT_READ (R207): FWD_PARCNT, FWD_CNT0, FWD_CNT1. -/
def execFwdCntRead (k : Nat) (upd : List Nat) (s : State) : Host.Outcome State Fault Refusal :=
  done s <|
    match k with
    | 0 => hostRead s 7 fun s => rcReadAll s
        [Reg.FWD_PARCNT_SUB, Reg.FWD_PARCNT_DUPT, Reg.FWD_PARCNT_PFX, Reg.FWD_PARCNT_MACT] upd
    | 1 => hostRead s 7 fun s => rcReadAll s [Reg.FWD_CNT0_VLANDROP, Reg.FWD_CNT0_LEARNFULL] upd
    | 2 => hostRead s 7 fun s => rcReadAll s [Reg.FWD_CNT1_DDOVF, Reg.FWD_CNT1_STATVIOL, Reg.FWD_CNT1_MOVES] upd
    | _ => s

/-- PRX_CNT_READ (R207): PR_PASS (LASTK is no counter), PR_CNT0, PR_CNT1 of half `h`. -/
def execPrxCntRead (h k : Nat) (upd : List Nat) (s : State) : Host.Outcome State Fault Refusal :=
  done s <|
    if 1 < h then s
    else match k with
      | 0 => hostRead s (8 + h) fun s =>
          let (v, t) := rcRead s (Reg.PR_PASS_MAXPASS h) (upd.getD 0 0)
          (v * 2 ^ (Reg.PR_PASS_MAXPASS h).lo + s.rd (Reg.PR_PASS_LASTK h) * 2 ^ (Reg.PR_PASS_LASTK h).lo, t)
      | 1 => hostRead s (8 + h) fun s => rcReadAll s [Reg.PR_CNT0_SYNTH h, Reg.PR_CNT0_EXPIRED h, Reg.PR_CNT0_OVERRUN h] upd
      | 2 => hostRead s (8 + h) fun s => rcReadAll s [Reg.PR_CNT1_REEVAL h, Reg.PR_CNT1_REDROP h, Reg.PR_CNT1_LATE h] upd
      | _ => s

/-- BRC_CNT_READ (R207): BRC_CNT0, BRC_CNT1, BRC_XCNT0, BRC_XCNT1. -/
def execBrcCntRead (k : Nat) (upd : List Nat) (s : State) : Host.Outcome State Fault Refusal :=
  done s <|
    match k with
    | 0 => hostRead s 10 fun s => rcReadAll s [Reg.BRC_CNT0_DISPASS, Reg.BRC_CNT0_XFERS, Reg.BRC_CNT0_HFAILS] upd
    | 1 => hostRead s 10 fun s => rcReadAll s [Reg.BRC_CNT1_LATEVEC, Reg.BRC_CNT1_PVDIFF, Reg.BRC_CNT1_REJOINS] upd
    | 2 => hostRead s 10 fun s => rcReadAll s [Reg.BRC_XCNT0_ORPHAN, Reg.BRC_XCNT0_FALLBK] upd
    | 3 => hostRead s 10 fun s => rcReadAll s
        [Reg.BRC_XCNT1_LOCKAB, Reg.BRC_XCNT1_EPAB, Reg.BRC_XCNT1_BOUNDS, Reg.BRC_XCNT1_DENY] upd
    | _ => s

/-- HBR_CNT_READ (R207): HBR_CNT0 to HBR_CNT3. -/
def execHbrCntRead (k : Nat) (upd : List Nat) (s : State) : Host.Outcome State Fault Refusal :=
  done s <|
    match k with
    | 0 => hostRead s 19 fun s => rcReadAll s [Reg.HBR_CNT0_RDTO, Reg.HBR_CNT0_ORPHAN] upd
    | 1 => hostRead s 19 fun s => rcReadAll s [Reg.HBR_CNT1_FALLBK, Reg.HBR_CNT1_SIZE] upd
    | 2 => hostRead s 19 fun s => rcReadAll s
        [Reg.HBR_CNT2_LOCKAB, Reg.HBR_CNT2_EPAB, Reg.HBR_CNT2_BOUNDS, Reg.HBR_CNT2_DENY] upd
    | 3 => hostRead s 19 fun s => rcReadAll s [Reg.HBR_CNT3_TUNMAC, Reg.HBR_CNT3_TUNOTHER] upd
    | _ => s

/-- MTR_CNT_READ (R207). -/
def execMtrCntRead (upd : List Nat) (s : State) : Host.Outcome State Fault Refusal :=
  done s <| hostRead s 12 fun s => rcReadAll s [Reg.MTR_CNT_INVWIN, Reg.MTR_CNT_SAVES] upd

/-- EVR_CNT_READ (R207). -/
def execEvrCntRead (upd : List Nat) (s : State) : Host.Outcome State Fault Refusal :=
  done s <| hostRead s 13 fun s => rcReadAll s [Reg.EVR_CNT_NOCOPY, Reg.EVR_CNT_COALFULL, Reg.EVR_CNT_NOTLEAD] upd

/-- KEY_CNT_READ (R207). -/
def execKeyCntRead (upd : List Nat) (s : State) : Host.Outcome State Fault Refusal :=
  done s <| hostRead s 15 fun s => rcReadAll s [Reg.KEY_CNT_REJECT, Reg.KEY_CNT_EPAB, Reg.KEY_CNT_PREEMPT] upd

/-- ARB_MAXW_READ (R67): a wait that ends in the same cycle is the new maximum. -/
def execArbMaxwRead (n : Nat) (wait : Option Nat) (s : State) : Host.Outcome State Fault Refusal :=
  done s <| if 8 ≤ n then s else hostRead s 17 fun s => rcReadAll s [Reg.ARB_MAXW_MAXW n] [wait.getD 0]

/-- ARB_EMPTY_READ (R67): an empty grant in the same cycle counts 1. -/
def execArbEmptyRead (n : Nat) (empty : Bool) (s : State) : Host.Outcome State Fault Refusal :=
  done s <| if 8 ≤ n then s else hostRead s 17 fun s => rcReadAll s [Reg.ARB_EMPTY_EMPTY n] [b2n empty]

/-- MBX_DROP_READ (R207): event copies and reports dropped. -/
def execMbxDropRead (ev rpt : Nat) (s : State) : Host.Outcome State Fault Refusal :=
  done s <| hostRead s 20 fun s => rcReadAll s [Reg.MBX_DROP_EV, Reg.MBX_DROP_RPT] [ev, rpt]

/-- The lighting engine may distribute a result: a SET and RISE table (task 0) goes out to its node, a release batch (task 1) waits for its
moment. -/
def luxResult (s : State) (task id : Nat) (r : List Nat) : State :=
  match task with
  | 0 => queueTables (s.setLux { s.lux with astro := s.lux.astro.set id r }) id
  | _ => s.setLux { s.lux with agreed := s.lux.agreed.set id r }

/-- The second difference between the halves' results: recorded, and a second one within one hour declares the heel failed. -/
def luxDiffer (s : State) (task id : Nat) : State :=
  let s := s.event 2 Ev.LUX_RESULT_DIFFER 1 0 [task, id]
  let twice := match s.brc.luxDiff with
    | some t => decide (s.sec < t + 3600)
    | none => false
  let s := { s with brc := { s.brc with luxDiff := some s.sec } }
  match s.lead with
  | some h => if twice then declareFailed s (1 - h) 9 (smpNow s) 0 0 else s
  | none => s

/-- LUX_RESULT_COMPARE (R765 to R767), suite L: a result `a` of half A and `b` of half B. Identical results may be distributed; results that
differ are computed again, and when they differ again the lead's is used. A half that runs alone carries the task. -/
def execLuxResultCompare (task id : Nat) (again : Bool) (a b : List Nat) (s : State) : Host.Outcome State Fault Refusal :=
  done s <|
    let one (r : List Nat) : State := kickAll (luxResult s task id r) s.now
    if s.fuses.suiteP || 1 < task || !s.runs 1 then s
    else match s.runs 2, s.runs 3 with
      | false, false => s
      | true, false => one a
      | false, true => one b
      | true, true =>
        if a = b then one a
        else if !again then s
        else luxDiffer (one (if s.isLead 1 then b else a)) task id

end Sys2Proof.Machine
end

