-- ==== Sys2Proof/Machine/Records.lean ====
section
/-! DEFINITION. The event recorder: posting, the lane, commits with coalescing, lost counts, MRAM areas, and the commands of
range 0x0B (the first half of 14_records_archive.md). -/
namespace Sys2Proof.Machine

/-! ### Records as bytes (R814, R817) -/

/-- The first 31 bytes of a record (Table REC-1). -/
def recBody (r : Rec) : List Byte :=
  let (st, fl) := match r.stamp with
    | .cal t q => (le 8 t, q % 8)
    | .op o p q => (le 4 o ++ le 3 p ++ le 1 q, 8)
  le 2 r.code ++ le 2 r.source ++ le 4 r.seq ++ st ++ le 4 r.par0 ++ le 4 r.par1 ++ le 4 r.par2 ++ le 2 r.rep ++
    le 1 (fl + 16 * b2n r.coal + 32 * b2n r.hw + 64 * b2n r.restored)

/-- A record with its CRC-8. -/
def recBytes (r : Rec) : List Byte := let b := recBody r; b ++ le 1 (crc8 b)

/-! ### Commits (R818, R819, R821, R822) -/

/-- The next sequence number of a log: 0 never appears. -/
def nextSeq (n : Nat) : Nat := if n = 0xFFFFFFFF then 1 else n + 1

/-- The last `n` elements of a list. -/
def lastN {α : Type} (n : Nat) (l : List α) : List α := l.drop (l.length - n)

/-- Put a record in a log: the firsts area while it has room, else the ring, whose oldest record gives way. -/
def Log.place (g : Log) (r : Rec) : Log :=
  if g.firsts.length < g.firstsCap then { g with firsts := g.firsts ++ [r] }
  else { g with ring := lastN g.ringCap (g.ring ++ [r]) }

/-- Copy a committed record to the event copy ring (R819, R226). -/
def evCopy (s : State) (r : Rec) : State :=
  if !s.runs 1 then s.inc Reg.EVR_CNT_NOCOPY
  else if unread s Reg.MBX_EVPI Reg.MBX_EVCI < 16384 then
    let pi := s.rd Reg.MBX_EVPI
    { s with mbx := { s.mbx with evs := s.mbx.evs.set (pi % 16384) r } }.wr Reg.MBX_EVPI (pi + 1)
  else s.inc Reg.MBX_DROP_EV

/-- Commit a record to log `n`: its SEQ, its place, its copy, the LOG stream of the archive (R857), and the answer of a
LOG_APPEND (R969). A record for an undefined log is dropped. -/
def commitRec (s : State) (n : Nat) (r : Rec) (tag : Option Nat) : State :=
  let g := s.log n
  if !g.defd then s
  else
    let r := { r with seq := nextSeq g.seq }
    let s := s.setLog n { g.place r with seq := r.seq }
    let s := if r.code = Ev.LOST then s.raise Reg.EVR_EVT_LOST else s
    let s := archivePost (evCopy s r) ⟨3, 0, 0, s.now, [], recBytes r⟩
    match tag with
    | some t => s.respond 0x0B04 t 0 (le 4 r.seq)
    | none => s

/-- Commit the summary of a held entry (R844, R846). -/
def commitSummary (s : State) (e : Coal) (restored : Bool) : State :=
  if e.count = 0 then s
  else commitRec s e.log { e.last with rep := min 0xFFFF e.count, coal := true, restored := restored } none

/-! ### Coalescing (R842 to R847) -/

/-- The held entry of a key. -/
def coalFind (s : State) (log code source par0 : Nat) : Option Coal :=
  s.recs.coal.find? fun e => e.log = log && e.code = code && e.source = source && e.par0 = par0

/-- Two entries have the same key. -/
def Coal.same (a b : Coal) : Bool := a.log = b.log && a.code = b.code && a.source = b.source && a.par0 = b.par0

/-- Replace, or with `none` release, the entry with the key of `e`. -/
def coalPut (s : State) (e : Coal) (x : Option Coal) : State :=
  { s with recs := { s.recs with coal := (s.recs.coal.filter fun c => !c.same e) ++ x.toList } }

/-- The end of an entry's window (R844). -/
def coalClose (s : State) (e : Coal) : State :=
  if e.count = 0 then coalPut s e none
  else
    let s := coalPut s e (some { e with count := 0, stop := e.stop + (s.log e.log).coalw * 1000000000 })
    commitSummary s e false

/-- COALESCE_WINDOW_END (R844): a window whose end has come. -/
def execCoalesceWindowEnd (log code source par0 : Nat) (s : State) : Host.Outcome State Fault Refusal :=
  done s <|
    match coalFind s log code source par0 with
    | some e => if s.now < e.stop then s else coalClose s e
    | none => s

/-- Count a record in the held entry of its key (R843, R846). -/
def coalCount (s : State) (e : Coal) (p : Posted) : State :=
  let e := { e with count := e.count + 1, last := p.rcd }
  let s := match p.tag with
    | some t => s.respond 0x0B04 t 0 (le 4 0)
    | none => s
  if e.count < 0xFFFF then coalPut s e (some e)
  else
    commitSummary (coalPut s e (some { e with count := 0, stop := p.time + (s.log e.log).coalw * 1000000000 })) e false

/-- Commit a record whose key has no held entry, and open one while the table has room (R842, R847). -/
def coalOpen (s : State) (p : Posted) : State :=
  let w := (s.log p.log).coalw
  let e : Coal := ⟨p.log, p.rcd.code, p.rcd.source, p.rcd.par0, 0, p.time + w * 1000000000, p.rcd⟩
  let s := if s.recs.coal.length < 256 then coalPut s e (some e) else s.inc Reg.EVR_CNT_COALFULL
  commitRec s p.log p.rcd p.tag

/-- Close the windows of a key that ended at or before time `t`, two at most: the second holds no count (R845). -/
def coalCatchUp : Nat → State → Posted → State
  | 0, s, _ => s
  | n + 1, s, p =>
    match coalFind s p.log p.rcd.code p.rcd.source p.rcd.par0 with
    | some e => if e.stop ≤ p.time then coalCatchUp n (coalClose s e) p else s
    | none => s

/-- Commit a record from the ingress buffer. LOST records are committed as they are (R840). -/
def commitIngress (s : State) (p : Posted) : State :=
  if (s.log p.log).coalw = 0 || p.rcd.code = Ev.LOST then commitRec s p.log p.rcd p.tag
  else
    let s := coalCatchUp 2 s p
    match coalFind s p.log p.rcd.code p.rcd.source p.rcd.par0 with
    | some e => coalCount s e p
    | none => coalOpen s p

/-! ### Lost records and the commit engine (R835 to R840) -/

/-- A LOST record of log `n`: the number lost, the log or 0xFF, the newest SEQ at the first loss; SOURCE names the producer. -/
def lostRec (s : State) (n dom count par1 seq : Nat) : Rec := mkRec s n Ev.LOST dom 0 [count, par1, seq]

/-- Put LOST records for the non-zero counts in the ingress buffer while it holds fewer than 896 records (R840). -/
def flushLost (s : State) : State :=
  if 896 ≤ s.recs.ingress.length then s
  else
    let logs := s.recs.lostLog.map fun e => (⟨e.1, lostRec s e.1 e.2.2.2 e.2.1 e.1 e.2.2.1, s.now, none⟩ : Posted)
    let doms := s.recs.lostDom.map fun e => (⟨0, lostRec s 0 e.1 e.2.1 0xFF e.2.2, s.now, none⟩ : Posted)
    { s with recs := { s.recs with ingress := s.recs.ingress ++ logs ++ doms, lostLog := [], lostDom := [] } }

/-- The LOST record of the lane, once a slot is free (R837). -/
def flushLane (s : State) : State :=
  let e := s.recs.laneLost
  if e.1 = 0 || 64 ≤ s.recs.lane.length then s
  else
    let r := { lostRec s 0 0 e.1 0 e.2 with hw := true }
    { s with recs := { s.recs with lane := s.recs.lane ++ [⟨0, r, s.now, none⟩], laneLost := (0, 0) } }

/-- RECORD_COMMIT (R835 to R847): the next lane record, and without one the next ingress record; then the LOST records that have
room. -/
def execRecordCommit (s : State) : Host.Outcome State Fault Refusal :=
  done s <|
    let s := flushLost s
    match s.recs.lane with
    | p :: l => flushLost (flushLane (commitRec { s with recs := { s.recs with lane := l } } p.log p.rcd none))
    | [] =>
      match s.recs.ingress with
      | p :: l => flushLost (commitIngress { s with recs := { s.recs with ingress := l } } p)
      | [] => s

/-- RECORD_POST (R815, R824, R838, R839): a producer that runs posts a record. -/
def execRecordPost (dom log code inst : Nat) (par : List Nat) (s : State) : Host.Outcome State Fault Refusal :=
  done s <|
    if 7 ≤ dom || !s.runs dom || laneCodes.contains code then s else s.event log code dom inst par

/-- LANE_EVENT (R834, R837): the lane carries the codes of R834 and nothing else. -/
def execLaneEvent (code source : Nat) (par : List Nat) (s : State) : Host.Outcome State Fault Refusal :=
  done s <|
    if !laneCodes.contains code then s
    else lanePost s 0 { mkRec s 0 code 0 0 par with source := source % 65536 }

/-! ### Saving at a quiesce (R841) -/

/-- Save the lane, the ingress buffer and the held counts in MRAM. -/
def recSave (s : State) : State :=
  let held := (s.recs.coal.filter fun e => e.count != 0).map fun e =>
    (⟨e.log, { e.last with rep := min 0xFFFF e.count, coal := true }, s.now, none⟩ : Posted)
  { s with recs := { s.recs with
    saved := s.recs.saved ++ s.recs.lane ++ s.recs.ingress ++ held, lane := [], ingress := [], coal := [] } }

/-- Commit the saved records, with RESTORED set, before any new one. -/
def recRestore (s : State) : State :=
  let l := s.recs.saved
  l.foldl (fun s p => commitRec s p.log { p.rcd with restored := true } none) { s with recs := { s.recs with saved := [] } }

/-- What the recorder loses with the supply, and what begins afresh at a start. -/
def recLose (s : State) : State :=
  { s with recs := { s.recs with lane := [], ingress := [], coal := [], laneLost := (0, 0), lostLog := [], lostDom := [] } }

/-- The records of a log whose CRC failure has been recorded start afresh (R827). -/
def recStart (s : State) : State :=
  { s with recs := { s.recs with logs := s.recs.logs.map fun p => (p.1, { p.2 with crcSeen := [] }) } }

/-! ### MRAM areas (R825, R826) -/

/-- Drop the records with these SEQs. -/
def Log.dropSeqs (g : Log) (l : List Nat) : Log :=
  { g with firsts := g.firsts.filter fun r => !l.contains r.seq, ring := g.ring.filter fun r => !l.contains r.seq }

/-- One LOST record for records of a log that could not be read. -/
def lostUnread (s : State) (n count : Nat) : State :=
  if count = 0 then s
  else (commitRec s n (lostRec s n 0 count n (s.log n).seq) none).add (Reg.EVR_LOG_LOST_LOST n) count

/-- LOG_AREA_SUBST (R825, R826). With a spare, the readable records move to it. Without one, the log gives up an area of its
ring, but never its last; there the records that fail stay as stored (R827). -/
def execLogAreaSubst (log : Nat) (firsts : Bool) (area : Nat) (unreadable : List Nat) (s : State) :
    Host.Outcome State Fault Refusal :=
  done s <|
    let g := s.log log
    if !g.defd then s
    else
      let bad := unreadable.filter fun q => (g.firsts ++ g.ring).any fun r => r.seq = q
      let m := s.margin 8
      if m != 0 then
        let s := subst s 8 area (4 - m) (m - 1) 1 log
        let s := ((s.setLog log (g.dropSeqs bad)).raise Reg.EVR_EVT_AREASUB).event 0 Ev.LOG_AREA_SUBST 0 0 [log, area]
        lostUnread s log bad.length
      else if g.ringCap ≤ 2048 then s.setLog log { g with bad := bad ++ g.bad.filter fun q => !bad.contains q }
      else
        let g := g.dropSeqs bad
        let cap := g.ringCap - 2048
        let ring := if firsts then g.ring.take cap else lastN cap g.ring
        lostUnread (s.setLog log { g with ringCap := cap, ring := ring, areas := g.areas - 1 }) log bad.length

/-! ### The logs of section 0x0B (R823) -/

/-- Load section 0x0B: a log that keeps its sizes keeps its records; one without a definition keeps its MRAM and is undefined. -/
def loadLogs (s : State) : State :=
  let defs := s.cfg.secs.s0b.getD []
  (List.range 7).foldl (fun s i =>
    let n := 9 + i
    let g := s.log n
    match defs.find? fun d => d.log = n with
    | none => s.setLog n { g with defd := false }
    | some d =>
      let new : Log := { cal := d.cal, auth := d.auth, firstsCap := d.firsts, ringCap := d.ring, coalw := d.coalw,
                         areas := (d.firsts + d.ring + 2047) / 2048 }
      if g.firstsCap = d.firsts && g.ringCap = d.ring then
        s.setLog n { g with defd := true, cal := d.cal, auth := d.auth, coalw := d.coalw }
      else s.setLog n new) s

/-! ### Commands (Table REC-5) -/

/-- The log a command names: its range, and whether it is defined. -/
def logCommand (s : State) (n lo : Nat) (f : Log → Answer) : Answer :=
  if n < lo || 15 < n then deny s St.BAD_PARAM
  else if !(s.log n).defd then deny s 0x82
  else f (s.log n)

/-- The SEQ of the first and of the last record of a list, 0 when it is empty. -/
def seqEnds (l : List Rec) : Nat × Nat := ((l.head?.map (·.seq)).getD 0, (l.getLast?.map (·.seq)).getD 0)

/-- LOG_INFO. -/
def execLogInfo (tag log : Nat) (s : State) : Host.Outcome State Fault Refusal :=
  done s <| command s 0x0B01 tag fun s => logCommand s log 0 fun g =>
    let f := seqEnds g.firsts
    let r := seqEnds g.ring
    okay s (pack [(4, f.1), (4, f.2), (4, r.1), (4, r.2), (4, s.rd (Reg.EVR_LOG_LOST_LOST log)), (4, g.ccnt), (2, g.areas),
      (2, g.coalw)])

/-- `a` lies at or above `b`, by their s32 difference (R818). -/
def seqGe (a b : Nat) : Bool := decide (0 ≤ toS 32 (a + 2 ^ 32 - b % 2 ^ 32))

/-- The area of a log in which the record with `seq` stands, as the model numbers areas: those of the firsts area by position,
the ring's from 1,000 on. -/
def areaOf (g : Log) (seq : Nat) : Nat :=
  match g.firsts.findIdx? fun r => r.seq = seq with
  | some i => i / 2048
  | none => 1000 + seq % max 1 g.ringCap / 2048

/-- The records as a read returns them: one that fails its CRC keeps its stored CRC, a free value other than the right one
(R827). -/
def readBytes (s : State) (g : Log) (r : Rec) : List Byte :=
  if g.bad.contains r.seq then
    let b := recBody r
    b ++ le 1 ((crc8 b + 1 + Config.freeNat s.free % 255) % 256)
  else recBytes r

/-- Record each failing record that a read found, once per area per start (R827). -/
def noteBad (s : State) (n : Nat) (l : List Rec) : State :=
  l.foldl (fun s r =>
    let g := s.log n
    if !g.bad.contains r.seq then s
    else
      let a := areaOf g r.seq
      let s := { s with free := s.free + 1 }
      if g.crcSeen.contains a then s
      else ((s.setLog n { g with crcSeen := a :: g.crcSeen }).raise Reg.EVR_EVT_CRCERR).event 0 Ev.LOG_CRC_ERROR 0 0 [n, r.seq]) s

/-- LOG_READ (R848). -/
def execLogRead (tag log frm count : Nat) (s : State) : Host.Outcome State Fault Refusal :=
  done s <| command s 0x0B02 tag fun s =>
    if count = 0 || 7 < count then deny s St.BAD_PARAM
    else logCommand s log 0 fun g =>
      let l := (sortBy (fun a b => !seqGe a.seq b.seq) ((g.firsts ++ g.ring).filter fun r => seqGe r.seq frm)).take count
      let next := match l.getLast? with
        | some r => nextSeq r.seq
        | none => frm
      let t := noteBad s log l
      okay t (pack [(4, next), (1, l.length), (3, 0)] ++ l.flatMap (readBytes s g))

/-- Clear a log up to a SEQ (R828). -/
def Log.clear (g : Log) (upto : Nat) : Log :=
  let keep (q : Nat) : Bool := !seqGe upto q
  { g with firsts := g.firsts.filter fun r => keep r.seq, ring := g.ring.filter fun r => keep r.seq,
           bad := g.bad.filter keep, ccnt := (g.ccnt + 1) % 2 ^ 32 }

/-- LOG_CLEAR (R828 to R833, R849): `sigOk` says that SIG verifies under an owner key. -/
def execLogClear (tag log upto ccnt : Nat) (sigOk : Bool) (s : State) : Host.Outcome State Fault Refusal :=
  done s <| command s 0x0B03 tag fun s => logCommand s log 0 fun g =>
    if !seqGe g.seq upto then deny s St.BAD_PARAM
    else
      let sig := sigOk && !s.key.owner.isEmpty
      let ctr := ccnt = (g.ccnt + 1) % 2 ^ 32
      if g.auth && !(sig && ctr) then
        deny (s.event 3 Ev.LOG_CLEAR_DENIED 0 0 [log, ccnt]) (if sig then 0x81 else 0x80)
      else
        let s := (s.setLog log (g.clear upto)).raise Reg.EVR_EVT_CLEARED
        let r := mkRec s 3 Ev.LOG_CLEARED 0 0 [log, upto, ccnt]
        okay (if log = 3 then commitRec s 3 r none else ingressPost s 3 r none) []

/-- LOG_APPEND (R968, R969): the answer follows the commit. -/
def execLogAppend (tag log code : Nat) (par : List Nat) (s : State) : Host.Outcome State Fault Refusal :=
  done s <| command s 0x0B04 tag fun s =>
    if code < 0xF000 || 0xFFFF < code then deny s St.BAD_PARAM
    else logCommand s log 9 fun _ =>
      if 1008 ≤ s.recs.ingress.length then deny s St.BUSY
      else later (ingressPost s log (mkRec s log code 1 0 par) (some tag))

end Sys2Proof.Machine
end

