-- ==== Sys2Proof/Machine/Start.lean ====
section
/-! DEFINITION. Starts: the loss of supply, the warm restart, boot attempts, device selection, recovery mode, BOOT_OK
(03_startup_configuration.md, 16_updates.md). -/
namespace Sys2Proof.Machine

/-! ### What a start clears (R104, R144 to R149, R976) -/

/-- The levels at the binary input pins, before INV. -/
def rawInputs (s : State) : Nat :=
  (List.range 64).foldl (fun m n => putBit m n (bit s.pins.bi n != (s.rd (Reg.OUT_BICFG_INV n) = 1))) 0

/-- Fields that show a level or a state of the always-on domain which a warm restart does not end: supply, temperature, the
modulator clock source, the requests of the backup elements, LSH_IN, cage pins, OCXO_LOST, VBAK, boot attempts, and HOLD, under
which the lines keep their levels (R976). -/
def liveKeys : List Nat :=
  ([Reg.PWR_STAT_WARN, Reg.PWR_STAT_VINA_OK, Reg.PWR_STAT_VINB_OK, Reg.PWR_STAT_THROTTLE, Reg.PWR_STAT_HOLD_OK,
    Reg.PWR_MON_TEMP, Reg.PWR_MON_VHOLD, Reg.PWR_MON_VIN, Reg.OUT_MCLK_FALLBK, Reg.OUT_BKSTAT_REQ, Reg.BRC_STAT_LSHIN, Reg.SUP_DOMSTAT_OCXO_LOST,
    Reg.SUP_DOMSTAT_AON, Reg.RTC_STAT_VBAKLOW, Reg.OUT_STAT_HOLD, Reg.SUP_BOOT_BURLTRY, Reg.SUP_BOOT_ATTEMPT] ++
   (List.range 6).flatMap fun p => [Reg.FWD_PORTSTAT_MODABS p, Reg.FWD_PORTSTAT_TXFAULT p, Reg.FWD_PORTSTAT_RXLOS p]).map Fld.key

/-- The bus has collapsed (R104): what MRAM, the configuration devices, the RTC on VBAK (its count and OSF) and the world outside hold is
left. -/
def powerLost (s : State) : State :=
  let kept := s.regs.filter fun (p : Nat × Nat) => mramKeys.contains p.1 || p.1 = Reg.RTC_STAT_OSF.key
  let p := s.brc.partner
  let z := State.reset
  { z with
    pending := s.pending
    fuses := s.fuses
    regs := kept.foldl (fun r (q : Nat × Nat) => KMap.set r q.1 q.2) resetRegs
    sup := { marker := s.sup.marker, tally := s.sup.tally, tseq := s.sup.tseq, rowMap := s.sup.rowMap, appCores := s.sup.appCores }
    pins := { bi := rawInputs s, rb := s.pins.rb, moved := s.pins.moved }
    hbr := { tseq := s.hbr.tseq }
    tb := { rtc := s.tb.rtc, rtcEpoch := s.tb.rtcEpoch, opsecSaved := s.tb.opsecSaved, utcSaved := s.tb.utcSaved, lastLeap := s.tb.lastLeap }
    rad := { failed := s.rad.failed, dead := s.rad.dead, bound := s.rad.bound }
    recs := { logs := s.recs.logs, saved := s.recs.saved }
    arc := { extents := s.arc.extents, shelf := s.arc.shelf, extno := s.arc.extno, free := s.arc.free, total := s.arc.total,
             dist := s.arc.dist.filter (·.closed), did := s.arc.did }
    lnt := { ctr := s.lnt.ctr, gceil := s.lnt.gceil }
    half := [(0, { cores := (s.hf 0).cores }), (1, { cores := (s.hf 1).cores })]
    wear := { mark := s.wear.mark, limit := s.wear.limit }
    brc := { held := s.brc.held.filter (2 ≤ ·),
             partner := { txSeq := p.ceil, ceil := p.ceil, rxSeq := p.saved, saved := p.saved, puid := p.puid } }
    mtr := { slots := s.mtr.slots, lastSave := s.mtr.lastSave }
    key := { store := s.key.store, gen := s.key.gen, owner := s.key.owner, ucnt := s.key.ucnt, latch := s.key.latch,
             helperBad := s.key.helperBad }
    cfg := { devA := s.cfg.devA, devB := s.cfg.devB }
    upd := { campNo := s.upd.campNo, trial := s.upd.trial }
    free := s.free }

/-- The bits 8 to 0 of SUP_RSTCAUSE. -/
def causeFld (c : Nat) : Fld :=
  match c with
  | 0 => Reg.SUP_RSTCAUSE_COLD | 1 => Reg.SUP_RSTCAUSE_BROWNOUT | 2 => Reg.SUP_RSTCAUSE_QUIESCE | 3 => Reg.SUP_RSTCAUSE_THERMAL
  | 4 => Reg.SUP_RSTCAUSE_OCXO | 5 => Reg.SUP_RSTCAUSE_HOSTCMD | 6 => Reg.SUP_RSTCAUSE_BOOTFAIL | 7 => Reg.SUP_RSTCAUSE_RECOVERY
  | _ => Reg.SUP_RSTCAUSE_APPLYRST

/-- Record the cause of a start (R149). -/
def setCause (s : State) (c : Nat) : State := ((List.range 9).foldl (fun s k => s.clr (causeFld k)) s).raise (causeFld c)

/-- The resets of a warm restart (R145, R147, R976): the cause, the hold, every register that is not sticky, every kennel, and what
domains 1 to 6 hold; the RTC count, MRAM, tally, levels and RSEQ stay. A halted count runs on (log entry 10). -/
def warmReset (s : State) (c : Nat) : State :=
  let loops := (List.range 8).filter fun n => s.rd (Reg.OUT_LPCFG_EN n) = 1
  let bi := rawInputs s
  let s := setCause (setLsh s false 2) c
  let s := regReset s (List.range 21) (stickyKeys ++ liveKeys)
  let s := engageHold (if c = 5 then s.clr Reg.SUP_BOOT_ATTEMPT else s) 6
  let s := [1, 2, 3, 4, 5, 6].foldl domainReset s
  let s := loops.foldl (fun s n => loopPut (s.raise (Reg.OUT_LPSTAT_HOLDING n)) n (s.loop n)) s
  let p := s.brc.partner
  { s with
    kn := []
    pwr := { s.pwr with quiesced := false, thermal := false, jtag := if 3 ≤ s.pwr.jtag then 0 else s.pwr.jtag, jtagDrive := false }
    sup := { s.sup with attempt := false, bootOk := false, inServ := false, radioUp := false, lightCtl := false, archOn := false,
                        due := none, seq := 0 }
    pins := { s.pins with bi := bi, prearm := 0 }
    hbr := { tseq := s.hbr.tseq, ddr := s.hbr.ddr, lp := s.hbr.lp }
    mbx := { rseq := s.mbx.rseq }
    tb := { s.tb with rtcHost := none, rtcSup := none }
    rad := { failed := s.rad.failed, dead := s.rad.dead, bound := s.rad.bound }
    lux := {}
    fwd := { txDis := s.fwd.txDis }
    wear := { s.wear with quiet := [] }
    brc := { held := s.brc.held.filter (2 ≤ ·), startAt := s.up, lshLow := s.brc.lshLow,
             partner := { txSeq := p.ceil, ceil := p.ceil, rxSeq := p.saved, saved := p.saved, puid := p.puid } }
    mtr := { slots := s.mtr.slots, lastSave := s.mtr.lastSave }
    cfg := { devA := s.cfg.devA, devB := s.cfg.devB, discard := s.cfg.edited.length }
    upd := { campNo := s.upd.campNo, trial := s.upd.trial } }

/-! ### Billet confirmation (R926, R938 to R940) -/

/-- Raise the floor to the running billet's SVN (R926). -/
def raiseFloor (s : State) : State :=
  let old := s.rd Reg.UPD_FLOOR_FLOOR
  let new := (s.upd.run.map (·.svn)).getD 0
  if new ≤ old then s else (s.wr Reg.UPD_FLOOR_FLOOR new).event 8 Ev.SVN_RAISED 0 0 [old, new]

/-- Confirm the running billet (R939). -/
def confirmBillet (s : State) : State :=
  let s := raiseFloor (programDev s s.cfg.dev 0xFF 0x0F)
  let s := (s.clr Reg.UPD_STAT_STATE).raise Reg.UPD_EVT_CONFIRMED
  let b := s.upd.run
  { s with upd := { s.upd with trialEnd := none } }.event 8 Ev.BILLET_CONFIRMED 0 0
    [(b.map Billet.ver).getD 0, (b.map Billet.svn).getD 0, devSeq s s.cfg.dev]

/-! ### Recovery mode (R943) -/

/-- Enter recovery mode with a cause of Table UPD-6; the start has ended, with the spindle loaded as at every start (R270). -/
def enterRecovery (s : State) (cause : Nat) : State :=
  let s := startSpindle ([1, 2, 3, 4, 5, 6].foldl (fun s d => s.setDom d 1) s)
  let s := s.wrs [(Reg.UPD_STAT_RCV, 1), (Reg.UPD_STAT_RCVCAUSE, cause), (Reg.SUP_BOOT_STAGE, 7), (Reg.SUP_CFGACT_SEQ, 0),
    (Reg.UPD_BILVER_VERSION, 0), (Reg.UPD_SVN_SVN, 0)]
  { s with
    cfg := { s.cfg with devA := { s.cfg.devA with erased := false }, devB := { s.cfg.devB with erased := false } }
    upd := { s.upd with rbuf := [] } }.event 8 Ev.RECOVERY_ENTERED 0 0 [cause]

/-! ### Device selection (R175, R176, R929) -/

/-- A trial that a restart has ended (R929): the device is withdrawn, with BILLET_ROLLBACK when it showed TRIAL. -/
def endTrial (s : State) (d : Nat) : State :=
  match s.plate d with
  | none => s
  | some p =>
    if p.bst = 0xFF || p.bst = 0x0F then s
    else
      let s' := programDev s d 0 0
      if p.bst = 0x7F then (s'.raise Reg.UPD_EVT_ROLLBACK).event 8 Ev.BILLET_ROLLBACK 0 0 [devVer s d, devCode d, 0] else s'

/-- An image on probation that a restart has ended (R199): withdrawn. -/
def endProbation (s : State) (d : Nat) : State :=
  match s.plate d with
  | some p => if p.cst = 0xFF then withdraw s d else s
  | none => s

/-- Device `d` is usable: a valid faceplate, confirmed, fewer than 2 failures. -/
def usable (s : State) (d : Nat) : Bool :=
  match s.plate d with
  | some p => p.cst = 0x0F && s.rd (failFld d) < 2
  | none => false

/-- `a` is later than `b` by the s32 difference. -/
def seqAfter (a b : Nat) : Bool := decide (0 < toS 32 (a + 2 ^ 32 - b % 2 ^ 32))

/-- Step 4: the device, when one is usable. -/
def selectDevice (s : State) : State × Option Nat :=
  let s := endTrial (endTrial s 0) 1
  let s := endProbation (endProbation s 0) 1
  let d := if usable s 0 && usable s 1 then some (b2n (seqAfter (devSeq s 1) (devSeq s 0)))
    else if usable s 0 then some 0
    else if usable s 1 then some 1
    else none
  match d with
  | none => (s, none)
  | some d =>
    let o := 1 - d
    let fell := match s.plate o with
      | some p => p.cst = 0x0F && seqAfter p.seq (devSeq s d)
      | none => false
    let s := if fell then s.event 8 Ev.CFG_FALLBACK 0 0
        [devSeq s d, devSeq s o, s.rd (failFld d) + 256 * s.rd (failFld o) + 65536 * devCode d]
      else s
    (s, some d)

/-! ### Domains leave reset (Table BOOT-2, steps 6 to 10; R151, R152, R154) -/

/-- Release domains 1 to 6 and load them: the messages of section 0x0D first, then the sections by id. With the OCXO there the
modulator clocks leave the fallback source (R972). -/
def loadDomains (s : State) : State :=
  let s := [1, 2, 3, 4, 5, 6].foldl domainRun s
  let s := if s.rd Reg.SUP_DOMSTAT_OCXO_LOST = 0 then s.clr Reg.OUT_MCLK_FALLBK else s
  let s := loadTime (startSpindle (keySection s))
  let s := startForward (loadRoster (startRadio s))
  let s := loadBrace (loadProt (subscribe s ⟨[], [], 0⟩))
  let s := loadLogs (meterRestore (loadMeter s false))
  loadField (loadXwins (loadWindows (arcStart s) s.cfg.secs.s0e) (sec09 s).xwins)

/-- The milestones of steps 7 to 9 that are reached: entry `k` of `ms` is the time of step k + 1 in ms, 0 for a step that is not
reached. The archive's is the row ARC_ONLINE. -/
def milestones (s : State) (ms : List Nat) : State :=
  let at_ (k : Nat) : Nat := ms.getD k 0
  let s := if at_ 6 = 0 && s.fuses.suiteP then s else bringUp s
  let s := if s.sup.inServ then s.wr (Reg.SUP_MILE_MS 6) (at_ 6) else s
  let s := if allBound s && at_ 7 != 0 then { s with sup := { s.sup with radioUp := true } }.wr (Reg.SUP_MILE_MS 7) (at_ 7) else s
  if at_ 8 = 0 then s
  else
    let s := luxStart s
    kickAll ({ s with sup := { s.sup with lightCtl := true } }.wr (Reg.SUP_MILE_MS 8) (at_ 8)) s.now

/-- Put a verified image in force, with the records of R9 and R166. -/
def loadImage (s : State) (d : Nat) (tab : List Nat) (i : Image) (ms : List Nat) : State :=
  let absent (id : Nat) : Bool := (!s.fuses.suiteP && (id = 7 || id = 8)) || (!s.fuses.arch && id = 12)
  let s := if s.fuses.suiteP then s
    else (i.dir.filter fun e => e.id = 7 || e.id = 8).foldl (fun s e => s.event 1 Ev.SECTION_IGNORED 0 0 [e.id]) s
  let defs := (defaulted tab i.dir).filter fun e => !absent e.1
  let s := defs.foldl (fun s e => s.event 8 Ev.CFG_SECTION_DEFAULTED 0 0 [e.1, e.2.1, e.2.2]) s
  let s := cfgDef s (defs.foldl (fun m e => m ||| one (e.1 - 1)) 0)
  let s := { s with
    cfg := { s.cfg with image := some i, dev := d, secs := effSecs s (readSecs tab i), due := [], next := {}, old03 := none }
    sup := { s.sup with attempt := true, attemptAt := s.up } }
  let s := s.wrs [(Reg.SUP_CFGACT_SEQ, devSeq s d), (Reg.SUP_BOOT_STAGE, 5), (Reg.SUP_MILE_MS 5, ms.getD 5 0)]
  milestones (loadDomains s) ms

/-- Steps 5 and 6 on device `d`. Answers what the attempt adds to the device's failure count when it fails (R171, R172, R930). -/
def bootSteps (s : State) (d : Nat) (ms : List Nat) : State × Option Nat :=
  let s := s.wrs [(Reg.SUP_BOOT_DEV, d + 1), (Reg.SUP_BOOT_STAGE, 3), (Reg.SUP_MILE_MS 3, ms.getD 3 0)]
  let x := s.dev d
  match s.plate d, x.billet with
  | some p, some b =>
    match billetCheck s p.bilLen b with
    | some st => (s, some (failWeight st))
    | none =>
      let s := if p.bst = 0xFF then programDev s d 0xFF 0x7F else s
      let s := { s with upd := { s.upd with run := some b } }.wrs [(Reg.UPD_BILVER_VERSION, b.ver), (Reg.UPD_SVN_SVN, b.svn),
        (Reg.SUP_BOOT_STAGE, 4), (Reg.SUP_MILE_MS 4, ms.getD 4 0)]
      match x.image with
      | none => (s, some 2)
      | some i => match imageCheck s b.fmttab false true p.cfgLen i with
        | some st => (s, some (failWeight st))
        | none => (loadImage s d b.fmttab i ms, none)
  | _, _ => (s, some 2)

/-- A failed attempt: the count of device `d`, and the resets of a warm restart with cause BOOTFAIL (R172, R174). -/
def attemptFailed (s : State) (d w : Nat) : State := warmReset (s.wr (failFld d) (min 2 (s.rd (failFld d) + w))) 6

/-- What begins afresh at every start: saved records are committed, the areas' CRC notes, the chuck; mappings of rows and blocks
become permanent (R72). -/
def startCommon (s : State) (lost : List Nat) : State :=
  let s := { s with sup := { s.sup with rowMap := s.sup.rowMap.map fun (m : Nat × Nat × Nat × Bool) => (m.1, m.2.1, m.2.2.1, true) } }
  chuckLoad (recStart (recRestore s)) lost

/-- Boot attempts from step 4, or from step 5 on `dev` (R973). Six at most: two failures put a device out of use, and with neither
left the supervisor enters recovery mode. -/
def attempts : Nat → State → List Nat → Option Nat → State
  | 0, s, _, _ => enterRecovery s 2
  | n + 1, s, ms, dev =>
    let s := (s.inc Reg.SUP_BOOT_ATTEMPT).wr Reg.SUP_BOOT_STAGE 2
    let (s, sel) := match dev with
      | some d => (s, some d)
      | none => selectDevice s
    match sel with
    | none => enterRecovery s 2
    | some d =>
      match bootSteps s d ms with
      | (t, none) => t
      | (t, some w) => attempts n (startCommon (attemptFailed t d w) []) ms none

/-- A warm restart with a cause (R145). While the reference is lost only MFE runs, and the start waits for R29. An OCXO restart begins
at step 5 on the device last selected (R973). -/
def warmStart (s : State) (c : Nat) (ms : List Nat) : State :=
  let dev := s.rd Reg.SUP_BOOT_DEV
  let s := startCommon (warmReset s c) []
  if s.rd Reg.SUP_DOMSTAT_OCXO_LOST = 1 then domainRun (s.wr Reg.SUP_BOOT_DEV dev) 6
  else attempts 6 s ms (if c = 4 && dev != 0 then some (dev - 1) else none)

/-- A boot attempt on device `d` that has failed is counted and the module restarts (R171, R174). -/
def failAttempt (s : State) (d w : Nat) (ms : List Nat) : State := attempts 6 (startCommon (attemptFailed s d w) []) ms none

/-- The device of the boot attempt in progress. -/
def bootDev (s : State) : Nat := s.rd Reg.SUP_BOOT_DEV - 1

/-! ### The rows -/

/-- The marker is there and good for the count held (R148). -/
def markerOk (s : State) : Bool :=
  match s.sup.marker with
  | some m => m.take 4 = le 4 0x4B524D53 && m.drop 12 = le 4 (crc32 (m.take 12)) && (m.drop 8).take 3 = le 3 (s.rd Reg.RTC_PCYC_PCYC)
  | none => false

/-- COLD_START (R144, R148, R149, R312, R428, Table BOOT-2): the power-cycle count and OPSEC first, then burl, RECOVER_N, and the boot
attempts. -/
def execColdStart (b : BurlRun) (recoverLow : Bool) (ms : List Nat) (s : State) : Host.Outcome State Fault Refusal :=
  done s <|
    if s.dom 0 = 2 then s
    else
      let brown := !markerOk s
      let s := { s with sup := { s.sup with marker := none, seq := 0 }, brc := { s.brc with startAt := s.up } }
      let s := (s.inc Reg.RTC_PCYC_PCYC).wr Reg.RTC_OPSEC_OPSEC s.tb.opsecSaved
      let s := setCause (s.setDom 0 2) 0
      let s := if brown then (s.raise Reg.SUP_RSTCAUSE_BROWNOUT).event 3 Ev.AIR_REPLAY_STALE 0 0 [] else s
      let s := engageHold ([1, 2, 3, 4, 5, 6].foldl (fun s d => s.setDom d 1) s) 6
      let s := s.wr (Reg.SUP_MILE_MS 0) (ms.getD 0 0)
      let (s, ok) := burlStart (s.wr Reg.SUP_BOOT_STAGE 1) b
      if !ok then enterRecovery (startCommon s []) 1
      else
        let s := startCommon (s.wr (Reg.SUP_MILE_MS 1) (ms.getD 1 0)) b.lost
        let s := s.wr (Reg.SUP_MILE_MS 2) (ms.getD 2 0)
        if recoverLow then enterRecovery s 0 else attempts 6 s ms none

/-- WARM_RESTART (R145, R146, R189, R940): a restart that has been decided (cause 5 HOSTCMD, 6 BOOTFAIL, 8 APPLYRST). The other
causes have rows of their own. -/
def execWarmRestart (cause : Nat) (ms : List Nat) (s : State) : Host.Outcome State Fault Refusal :=
  done s <| if s.dom 0 != 2 || s.sup.due != some cause then s else warmStart s cause ms

/-- The conditions of R170 on domains and milestones. -/
def bootReady (s : State) : Bool :=
  [1, 2, 3, 4, 5, 6].all s.runs && (if s.fuses.suiteP then s.sup.inServ || s.s08.isNone else s.sup.lightCtl)

/-- BOOT_OK (R170, R173, R926, R938): the failure count is cleared; a confirmed billet raises the floor; a billet on trial starts its
TRIAL, or is confirmed at once. -/
def execBootOk (s : State) : Host.Outcome State Fault Refusal :=
  done s <|
    if !s.sup.attempt || !bootReady s then s
    else
      let s := { s with sup := { s.sup with attempt := false, bootOk := true } }
      let s := (s.wr Reg.SUP_BOOT_STAGE 6).clr (failFld s.cfg.dev)
      match s.plate s.cfg.dev with
      | some p =>
        if p.bst = 0x0F then raiseFloor s
        else if p.bst = 0x7F then
          if s.upd.trial = 0 then confirmBillet s
          else { s with upd := { s.upd with trialEnd := some (s.up + s.upd.trial * 1000000000) } }.wr
            Reg.UPD_STAT_STATE 4
        else s
      | none => s

/-- BOOT_ATTEMPT_TIMEOUT (R171): 40 s without BOOT_OK since the start of the attempt. -/
def execBootAttemptTimeout (ms : List Nat) (s : State) : Host.Outcome State Fault Refusal :=
  done s <| if !s.sup.attempt || s.up < s.sup.attemptAt + 40000000000 then s else failAttempt s (bootDev s) 1 ms

end Sys2Proof.Machine
end

