-- ==== Sys2Proof/Machine/Power.lean ====
section
/-! DEFINITION. Supply, quiesce, thermal states, the 1 ms tick of the supervisor, the reference, PERST_N and JTAG
(02_module_interfaces.md, 01_architecture.md). -/
namespace Sys2Proof.Machine

/-! ### Both halves down together (R982) -/

/-- Both halves leave service without a failure: LEASH is released with HOLDCAUSE `cause`, LSH_OUT falls with `lsh`. -/
def releaseAll (s : State) (cause lsh : Nat) : State :=
  let s := (engageHold s cause).clr Reg.BRC_STAT_LEASH
  let s := setBrace (setBrace s 0 0) 1 0
  let s := ((s.clr Reg.BRC_HO_PHASE).clr Reg.BRC_STAT_HO)
  setLsh { s with
    pins := { s.pins with prearm := 0 }
    brc := { s.brc with await := none, ho := none, req := none, disRun := [], inRun := false, lateRun := 0 } } false lsh

/-! ### Quiesce (R96 to R103, Table IF-5) -/

/-- The shutdown marker of R148. -/
def markerBytes (s : State) : List Byte :=
  let b := pack [(4, 0x4B524D53), (4, s.opsec), (3, s.rd Reg.RTC_PCYC_PCYC), (1, 0)]
  b ++ le 4 (crc32 b)

/-- The quiesce sequence. `rcd` says whether step 3 appends POWER_FAIL (Table IF-8). DESIGN CHOICE (log entry 76): domains 1 to 6 show OFF
in a thermal SHUTDOWN too, where Table IF-5 powers them off and Table IF-8 holds them in reset. -/
def quiesce (s : State) (cause : Nat) (rcd : Bool) (vin vhold : Nat) : State :=
  let s := releaseAll (s.raise Reg.PWR_STAT_QUIESCE) cause 3
  let s := if rcd then s.event 0 Ev.POWER_FAIL 0 0 [vin, vhold] else s
  let s := saveTxseq (saveCounters (recSave s))
  let s := { s with pins := { s.pins with cmd := 0, vec := 0, held := 0, limited := 0 } }
  let s := [1, 2, 3, 4, 5, 6].foldl (fun s d => (domainReset s d).setDom d 0) s
  { s with
    pwr := { s.pwr with quiesced := true }
    tb := { s.tb with opsecSaved := s.opsec }
    sup := { s.sup with
      attempt := false, due := none, marker := some (markerBytes s) } }

/-- HOLD_SWITCH_CLOSE (R96, R100): VIN_INT has stayed below WARN for 10 µs; `vin` and `vhold` are the levels at the closing. The
charger stops (R94). -/
def execHoldSwitchClose (vin vhold : Nat) (s : State) : Host.Outcome State Fault Refusal :=
  done s <|
    if s.dom 0 != 2 || s.pwr.holdSw || s.rd Reg.PWR_CFG_WARN ≤ vin then s
    else
      let s := { s with pwr := { s.pwr with holdSw := true, holdSince := s.up, charge := false } }
      let s := s.wrs [(Reg.PWR_STAT_WARN, 1), (Reg.PWR_STAT_VINA_OK, 0), (Reg.PWR_STAT_VINB_OK, 0)]
      if holdSmall s && !s.pwr.quiesced then quiesce s 4 true vin vhold else s

/-- QUIESCE_COMMIT (R98, R101): the hold switch is closed and both levels (in 0.1 V) are below VQ. -/
def execQuiesceCommit (vin vhold : Nat) (s : State) : Host.Outcome State Fault Refusal :=
  done s <|
    if s.dom 0 != 2 || !s.pwr.holdSw || s.pwr.quiesced || !belowVq s vin || !belowVq s vhold then s
    else quiesce s 4 true vin vhold

/-- The hold switch opens (R99, R103). -/
def openSwitch (s : State) : State := { s with pwr := { s.pwr with holdSw := false } }.clr Reg.PWR_STAT_WARN

/-- PWR_RIDE_THROUGH (R99): VIN_INT at WARN + 0.5 V for 10 ms before a commit; PAR0 is the time from the closing of the switch in µs. -/
def execPwrRideThrough (s : State) : Host.Outcome State Fault Refusal :=
  done s <|
    if s.dom 0 != 2 || !s.pwr.holdSw || s.pwr.quiesced then s
    else (openSwitch s).event 0 Ev.PWR_RIDE_THROUGH 0 0 [min ((s.up - s.pwr.holdSince) / 1000) 0xFFFFFFFF]

/-- QUIESCE_RESTART (R103): VIN_INT at WARN + 0.5 V for 100 ms after step 6. In SHUTDOWN the restart is left to its exit. -/
def execQuiesceRestart (ms : List Nat) (s : State) : Host.Outcome State Fault Refusal :=
  done s <|
    if s.dom 0 != 2 || !s.pwr.holdSw || !s.pwr.quiesced then s
    else
      let s := (openSwitch s).clr Reg.PWR_STAT_QUIESCE
      if s.pwr.thermal then s else warmStart s 2 ms

/-- BUS_COLLAPSE (R104). -/
def execBusCollapse (s : State) : Host.Outcome State Fault Refusal := done s (powerLost s)

/-- VIN_INPUT_LOST (R974): input A, or B, has fallen below WARN while the other is at or above it. -/
def execVinInputLost (b : Bool) (level : Nat) (s : State) : Host.Outcome State Fault Refusal :=
  done s <|
    let mine := if b then Reg.PWR_STAT_VINB_OK else Reg.PWR_STAT_VINA_OK
    let other := if b then Reg.PWR_STAT_VINA_OK else Reg.PWR_STAT_VINB_OK
    if s.dom 0 != 2 || s.rd other = 0 || s.rd Reg.PWR_CFG_WARN ≤ level then s
    else
      let s := { s with pwr := if b then { s.pwr with vinB := level } else { s.pwr with vinA := level } }
      (s.clr mine).event 0 Ev.VIN_INPUT_LOST 0 0 [if b then 0x0B else 0x0A]

/-- HEALTHY_TIMEOUT (R123): 100 ms without a re-arming. -/
def execHealthyTimeout (s : State) : Host.Outcome State Fault Refusal :=
  done s <| { s with sup := { s.sup with armed := false } }

/-- HEARTBEAT_TICK (R212): the supervisor's 1 ms tick: SUP_HEARTBEAT, the levels of PWR_MON and VBAK and what depends on them, the chargers, the
loops of SRC MAP, the HEALTHY generator re-armed; `volt` gives what the voltage of a loop now allows (R131). -/
def execHeartbeatTick (vinA vinB vhold vbak : Nat) (temp : Int) (volt : List (Nat × Nat)) (s : State) : Host.Outcome State Fault Refusal :=
  done s <|
    if s.dom 0 != 2 then s
    else
      let warn := s.rd Reg.PWR_CFG_WARN
      let s := { s with
        pwr := { s.pwr with vinA := vinA, vinB := vinB, vhold := vhold }
        sup := { s.sup with armed := true } }
      let s := s.wrs [(Reg.SUP_HEARTBEAT_HB, s.rd Reg.SUP_HEARTBEAT_HB + 1), (Reg.PWR_MON_VIN, min 1023 (max vinA vinB)),
        (Reg.PWR_MON_VHOLD, min 1023 vhold), (Reg.PWR_MON_TEMP, ofS 8 (clampI (-128) 127 temp)),
        (Reg.PWR_STAT_VINA_OK, b2n (decide (warn ≤ vinA))), (Reg.PWR_STAT_VINB_OK, b2n (decide (warn ≤ vinB)))]
      loopsMap (volt.foldl (fun s p => loopVolt s p.1 p.2) (refreshHold (takeVbak s vbak)))

/-! ### Thermal states (R143, Table IF-8) -/

/-- The record of an entry to, or an exit from, a thermal state. -/
def thermalRec (s : State) (code : Nat) (entry : Bool) : State := s.event 0 Ev.THERMAL_STATE 0 0 [code, b2n entry]

/-- THROTTLE begins or ends: the transmit cap and the archive follow. -/
def throttle (s : State) (on : Bool) : State :=
  let s := thermalRec (s.wr Reg.PWR_STAT_THROTTLE (b2n on)) 1 on
  let s := if s.runs 4 then refreshRad (s.wr Reg.RAD_STAT_THROT (b2n on)) else s
  if s.runs 1 then arcStat s else s

/-- THERMAL_THROTTLE_ENTRY: above 98 °C for 1 s. -/
def execThermalThrottleEntry (s : State) : Host.Outcome State Fault Refusal :=
  done s <| if s.dom 0 != 2 || s.rd Reg.PWR_STAT_THROTTLE = 1 then s else throttle s true

/-- THERMAL_THROTTLE_EXIT: below 93 °C for 10 s. -/
def execThermalThrottleExit (s : State) : Host.Outcome State Fault Refusal :=
  done s <| if s.dom 0 != 2 || s.rd Reg.PWR_STAT_THROTTLE = 0 then s else throttle s false

/-- THERMAL_SHUTDOWN_ENTRY: above 105 °C for 10 s; a quiesce without POWER_FAIL. -/
def execThermalShutdownEntry (s : State) : Host.Outcome State Fault Refusal :=
  done s <|
    if s.dom 0 != 2 || s.pwr.thermal then s
    else
      let s := { s with pwr := { s.pwr with thermal := true } }
      let s := thermalRec s 2 true
      if s.pwr.quiesced then s else quiesce s 5 false 0 0

/-- THERMAL_SHUTDOWN_EXIT: below 90 °C. With the hold switch closed the restart is left to R103. -/
def execThermalShutdownExit (ms : List Nat) (s : State) : Host.Outcome State Fault Refusal :=
  done s <|
    if s.dom 0 != 2 || !s.pwr.thermal then s
    else
      let s := thermalRec { s with pwr := { s.pwr with thermal := false } } 2 false
      if s.pwr.holdSw then s else warmStart s 3 ms

/-! ### The reference (R26 to R29, R140, R141, R972, R973) -/

/-- OCXO_LOST (R26 to R28, R982): the fallback clock, the hold, LEASH, LSH_OUT, domains 1 to 5 in reset, the record; time is the
RTC's. -/
def execOcxoLost (s : State) : Host.Outcome State Fault Refusal :=
  done s <|
    if s.dom 0 != 2 || s.rd Reg.SUP_DOMSTAT_OCXO_LOST = 1 then s
    else
      let s := (s.raise Reg.SUP_DOMSTAT_OCXO_LOST).raise Reg.OUT_MCLK_FALLBK
      if s.pwr.quiesced || s.rd Reg.UPD_STAT_RCV = 1 then s.event 0 Ev.OCXO_LOST 0 0 []
      else
        let s := releaseAll s 3 4
        let s := s.event 0 Ev.OCXO_LOST 0 0 []
        let s := [1, 2, 3, 4, 5].foldl domainReset s
        let (ns, q) := fromRtc s
        { s with tb := { s.tb with ns := ns, q := q }, sup := { s.sup with attempt := false } }

/-- OCXO_RESTORED (R29, R972, R973): 100 ms of edges without a gap. The clocks of the modulators stay on the fallback source until
domains 1 to 5 leave reset. -/
def execOcxoRestored (ms : List Nat) (s : State) : Host.Outcome State Fault Refusal :=
  done s <|
    if s.dom 0 != 2 || s.rd Reg.SUP_DOMSTAT_OCXO_LOST = 0 then s
    else
      let s := s.clr Reg.SUP_DOMSTAT_OCXO_LOST
      if s.pwr.quiesced || s.rd Reg.UPD_STAT_RCV = 1 then s else warmStart s 4 ms

/-! ### PERST_N and JTAG (R78 to R80) -/

/-- HOST_PERST (R78): while PERST_N is low no access comes over the endpoint, and the reads outstanding in it are lost; no domain is
reset. -/
def execHostPerst (low : Bool) (s : State) : Host.Outcome State Fault Refusal :=
  done s <|
    let s := { s with pwr := { s.pwr with perst := low } }
    if low then epSettle (s.setSide 0 { s.side 0 with chan := none, txns := [], wait := [], far := [], pass := false }) else s

/-- The IDCODE register of IEEE 1149.1: bit 0 is 1, the maker in bits 11:1, the hardware type code of SUP_ID as part number in bits 27:12
(R79), the version in bits 31:28. The spec does not give the maker or the version (log entry 79): they are free. -/
def idcode (s : State) : Nat :=
  1 + 2 * (Config.jtagMaker % 2048) + 4096 * (s.fuses.typ % 65536) + 268435456 * (Config.jtagVersion % 16)

/-- JTAG_INSTRUCTION (R79, R80): IDCODE (1) captures the register of `idcode`, BYPASS (0) a 0; an instruction that drives pins is BYPASS
outside recovery mode. -/
def execJtagInstruction (ir : Nat) (s : State) : Host.Outcome State Fault Refusal :=
  done s <|
    let drives := 3 ≤ ir
    let ok := s.rd Reg.UPD_STAT_RCV = 1
    let ir := if drives && !ok then 0 else ir
    let dr := if ir = 1 then idcode s else if ir = 0 then 0 else s.pwr.jtagDr
    { s with pwr := { s.pwr with jtag := ir, jtagDr := dr, jtagDrive := drives && ok } }

end Sys2Proof.Machine
end

