-- ==== Sys2Proof/Machine/Supervisor.lean ====
section
/-! DEFINITION. Domain watchdogs and the return of a domain, kennel accesses, the memory arbiter, spare cores and blocks, the tally
(01_architecture.md). -/
namespace Sys2Proof.Machine

/-! ### Domain watchdogs and single restarts (R31 to R34, R155 to R157) -/

/-- The running image no longer passes the checks of a start (R156): what the failed attempt adds. -/
def rereadFails (s : State) : Option Nat :=
  let x := s.dev s.cfg.dev
  match x.image, s.plate s.cfg.dev with
  | some i, some p => (imageCheck s (fmtTab s) false true p.cfgLen i).map failWeight
  | _, _ => some 2

/-- After a reset of APP: a failed attempt before BOOT_OK (R157), or when the image fails (R156); else APP waits for its return. -/
def appRestart (s : State) (ms : List Nat) : State :=
  if s.sup.attempt then failAttempt s (bootDev s) 1 ms
  else match rereadFails s with
    | some w => failAttempt s s.cfg.dev w ms
    | none => s

/-- The radio domain comes back from the DDR5 copies (R155); the frames it had on air or asked for are taken back. -/
def radioReturn (s : State) : State := kickAll (linkCut (startRadio (domainRun s 4))) s.now

/-- The metering front end comes back (R31, R155); trial constants stay. -/
def mfeReturn (s : State) : State :=
  let t := s.mtr.trial
  let s := loadMeter (domainRun s 6) false
  s.setMtr { s.mtr with trial := t }

/-- DOMAIN_WATCHDOG_EXPIRY (R31, R33, R155 to R157, R723): RADIO and MFE return at once, the others by the rows of their returns. -/
def execDomainWatchdogExpiry (d : Nat) (ms : List Nat) (s : State) : Host.Outcome State Fault Refusal :=
  done s <|
    if d = 0 || 6 < d || !s.runs d then s
    else
      let s := watchdogMark s d
      match d with
      | 1 => appRestart (domainReset s 1) ms
      | 2 | 3 =>
        let h := d - 2
        let att := s.sup.attempt
        let s := engageHold (s.setDom d 3) 2
        let s := if s.brace h = 0 then domainReset s d else declareFailed { s with sup := { s.sup with attempt := false } } h 5 (smpNow s) 2 2
        if att then failAttempt s (bootDev s) 1 ms else s
      | _ =>
        let s := domainReset s d
        if s.sup.attempt then failAttempt s (bootDev s) 1 ms
        else if d = 4 then radioReturn s
        else if d = 6 then mfeReturn s
        else s

/-- A domain may return to RUN: nothing holds domains 1 to 6 in reset. -/
def mayRun (s : State) : Bool :=
  s.dom 0 = 2 && !s.pwr.quiesced && !s.pwr.thermal && s.rd Reg.SUP_DOMSTAT_OCXO_LOST = 0 && s.rd Reg.UPD_STAT_RCV = 0

/-- NET_DOMAIN_RETURN (R155, R275, R276, R597): ports, tables from the shadow copies, subscriptions and time. -/
def execNetDomainReturn (s : State) : Host.Outcome State Fault Refusal :=
  done s <|
    if !mayRun s || s.dom 5 != 1 then s
    else subscribe (reloadForward (netTimeReturn (domainRun s 5))) ⟨[], [], 0⟩

/-- STOPPED_DOMAIN_ACCESS (R32, R204, R241): the status responder answers for a block of BAR0 whose domain does not run, and for BAR2 and
BAR4 while APP does not; so an access ends that was at the port of a domain when it was reset. -/
def execStoppedDomainAccess (space : Nat) (write : Bool) (off : Nat) (s : State) : Host.Outcome State Fault Refusal :=
  done s <|
    if write || (if space = 0 then blockRuns s (off / 0x10000) else s.runs 1) then s
    else { s with mbx := { s.mbx with lastRead := some 0xFFFFFFFF } }

/-! ### Kennels (R40 to R54) -/

/-- Producer and consumer of kennel `n` run. -/
def kLive (s : State) (n : Nat) : Bool := kExists n && s.runs (kProd n) && s.runs (kCons n)

/-- The consumer of kennel `n` runs, and can read it (R43). -/
def kReads (s : State) (n : Nat) : Bool := kExists n && s.runs (kCons n)

/-- The packet is well formed: 1 to 64 words, and its first word says so. -/
def pktOk (l : List Nat) : Bool := within 1 64 l.length && l.headD 0 % 128 = l.length

/-- KENNEL_WRITE (R40, R41, R49, R50, R54): the words of one packet. Under BLOCK a producer stalls at the first word that does not
fit. -/
def execKennelWrite (n : Nat) (words : List Nat) (s : State) : Host.Outcome State Fault Refusal :=
  done s <|
    let k := s.knl n
    if !kLive s n || !pktOk words || k.wrStall then s
    else if kDrop n then
      if kRoom k < words.length then kRefuse s n else s.setKn n { k with pkts := k.pkts ++ [words], skip := false }
    else s.setKn n (kFill { k with rest := words, skip := false })

/-- Read `w` words of the head packet, or as many as it still has; the read stalls when there is none. -/
def kReadWords (k : Kennel) (w : Nat) : Kennel :=
  match k.pkts with
  | [] => { k with rdStall := true }
  | p :: l =>
    let k := { k with rdStall := false, out := ((p.drop k.rd).take w, false) }
    if p.length ≤ k.rd + w then { k with pkts := l, rd := 0 } else { k with rd := k.rd + w }

/-- The abandon word of kennel `n`: 0x0000_0000_DEAD_00⟨id⟩ (R45). -/
def abandonWord (n : Nat) : Nat := 0xDEAD0000 + n

/-- KENNEL_READ (R42, R43): `w` words of the head packet, or a stall. -/
def execKennelRead (n w : Nat) (s : State) : Host.Outcome State Fault Refusal :=
  done s <|
    let k := s.knl n
    if !kReads s n || k.rdStall || w = 0 then s else s.setKn n (kReadWords k w)

/-- KENNEL_STALL_RESUME (R44, R47): a complete packet has arrived, and the read returns its first word. -/
def execKennelStallResume (n : Nat) (s : State) : Host.Outcome State Fault Refusal :=
  done s <|
    let k := s.knl n
    if !kReads s n || !k.rdStall || k.pkts.isEmpty then s else s.setKn n (kReadWords k 1)

/-- The marks of an abandoned read of kennel `n` (R46). -/
def abandonMark (s : State) (n : Nat) : State := (s.inc (Reg.KNL_ABNCNT_ABNCNT n)).event 0 Ev.KENNEL_ABANDON 0 0 [n]

/-- The watchdog of a half abandons its read at kennel 83 (half A) or 87 (half B), which carry the completions of its crossing reads
(Table BRC-8): its oldest crossing read ends with the abandon word (R772). -/
def crossAbandon (s : State) (n : Nat) : State :=
  let i := if n = 83 then 1 else 2
  let x := s.side i
  match x.chan.toList ++ x.txns with
  | [] => s
  | r :: _ => abandonMark (readEnds s i r ((le 8 (abandonWord n)).take r.len)) n

/-- KENNEL_ABANDON (R44 to R47): the reader's watchdog ends the stall. With a packet complete the read returns its first word;
otherwise it returns the abandon word with the bus-error flag and consumes nothing. -/
def execKennelAbandon (n : Nat) (s : State) : Host.Outcome State Fault Refusal :=
  done s <|
    let k := s.knl n
    if !kReads s n then s
    else if n = 83 || n = 87 then crossAbandon s n
    else if !k.rdStall then s
    else if !k.pkts.isEmpty then s.setKn n (kReadWords k 1)
    else abandonMark (s.setKn n { k with rdStall := false, out := ([abandonWord n], true) }) n

/-- KENNEL_WRITE_STALL_RESUME (R49): space has been freed. -/
def execKennelWriteStallResume (n : Nat) (s : State) : Host.Outcome State Fault Refusal :=
  done s <|
    let k := s.knl n
    if !kLive s n || !k.wrStall then s else s.setKn n (kFill k)

/-- What an abandoned write into the crossing means for the other side: a VEC of the heel counts as a late one (R715, R771); a STATE packet is
sent again with the next pass. -/
def vecAbandon (s : State) (n : Nat) : State :=
  let h := if n = 80 || n = 81 then 0 else 1
  if n = 80 || n = 84 then
    if s.lead = some (1 - h) && s.brace h = 2 then heelLate (s.inc Reg.BRC_CNT1_LATEVEC) h (s.hf h).vecK else s
  else if n = 81 || n = 85 then s.setHf h { s.hf h with stOut := none }
  else s

/-- KENNEL_WRITE_ABANDON (R49): the partial packet never becomes visible. -/
def execKennelWriteAbandon (n : Nat) (s : State) : Host.Outcome State Fault Refusal :=
  done s <|
    let k := s.knl n
    if !kLive s n || !k.wrStall then s
    else vecAbandon (s.setKn n { k with part := [], rest := [], wrStall := false }) n

/-- KENNEL_FAULT (R52 to R54): every packet goes; the words a producer had still to write are discarded; a stalled reader stays
stalled. -/
def execKennelFault (n : Nat) (s : State) : Host.Outcome State Fault Refusal :=
  done s <|
    if !kExists n || s.dom 0 != 2 then s
    else
      let k := s.knl n
      let s := s.setKn n { rdStall := k.rdStall, skip := k.wrStall, out := k.out }
      (s.inc (Reg.KNL_RSTCNT_RSTCNT n)).event 0 Ev.KENNEL_FAULT 0 0 [n]

/-! ### The memory arbiter (R55 to R66) -/

/-- ARB_REQUEST (R55): one request a port at a time. -/
def execArbRequest (p cycle : Nat) (s : State) : Host.Outcome State Fault Refusal :=
  done s <|
    let held := match s.arb.reqs.get? p with
      | some r => r.withdrawn.isNone
      | none => false
    if 8 ≤ p || !s.runs 1 || held then s
    else { s with arb := { s.arb with reqs := s.arb.reqs.set p ⟨cycle, none⟩ } }

/-- ARB_REQUEST_WITHDRAW (R65). -/
def execArbRequestWithdraw (p cycle : Nat) (s : State) : Host.Outcome State Fault Refusal :=
  done s <| { s with arb := { s.arb with reqs := s.arb.reqs.modify p fun r => { r with withdrawn := r.withdrawn.or (some cycle) } } }

/-- The request takes part in the decision for `cycle`: presented two cycles before, and not withdrawn before the cycle of the decision
(R62, R63). -/
def arbSeen (cycle : Nat) (r : ArbReq) : Bool :=
  decide (r.at_ + 2 ≤ cycle) && (match r.withdrawn with
    | some w => decide (cycle ≤ w + 1)
    | none => true)

/-- The port of the least value, the lowest port in a tie. -/
def arbBest (f : Nat × ArbReq → Nat) : List (Nat × ArbReq) → Option (Nat × ArbReq)
  | [] => none
  | r :: l => match arbBest f l with
    | none => some r
    | some q => if f q < f r then some q else some r

/-- ARB_GRANT (R57 to R59, R62 to R64, R66): the one decision of a cycle, later than the last; none during refresh. Every Nth
non-empty grant goes to the oldest request, the others to the most credit. -/
def execArbGrant (cycle : Nat) (s : State) : Host.Outcome State Fault Refusal :=
  done s <|
    let late := match s.arb.decided with
      | some c => decide (cycle ≤ c)
      | none => false
    if !s.runs 1 || cycle < s.arb.refreshEnd || late then s
    else
      let s := { s with arb := { s.arb with decided := some cycle } }
      let a := s.arb
      let l := a.reqs.filter fun (r : Nat × ArbReq) => arbSeen cycle r.2
      let aged := s.rd Reg.ARB_CTL_NTH ≤ a.count + 1
      let pick := if aged then arbBest (fun r => r.2.at_) l else arbBest (fun r => 2048 - s.rd (Reg.ARB_CRD_CRD r.1)) l
      match pick with
      | none => s
      | some (p, r) =>
        if r.withdrawn.isSome then
          { s with arb := { a with reqs := a.reqs.erase p, last := some (p, true) } }.inc (Reg.ARB_EMPTY_EMPTY p)
        else
          let wait := min 0xFFFF (cycle - r.at_)
          let s := { s with arb := { a with
            reqs := a.reqs.erase p, count := if aged then 0 else a.count + 1, last := some (p, false) } }
          s.wrs [(Reg.ARB_CRD_CRD p, s.rd (Reg.ARB_CRD_CRD p) - 1), (Reg.ARB_MAXW_MAXW p, max wait (s.rd (Reg.ARB_MAXW_MAXW p)))]

/-- ARB_WINDOW_START (R56, R61): the written weights take effect, and each credit is min(credit + W, 2 W). -/
def execArbWindowStart (s : State) : Host.Outcome State Fault Refusal :=
  done s <|
    if !s.runs 1 then s
    else (List.range 8).foldl (fun s p =>
      let w := s.rd (Reg.ARB_WGT_W p)
      { s with arb := { s.arb with wgt := s.arb.wgt.set p w } }.wr (Reg.ARB_CRD_CRD p) (min (s.rd (Reg.ARB_CRD_CRD p) + w) (2 * w))) s

/-- ARB_REFRESH (R64): no grant for `len` cycles. A refresh starts after the one before it has ended, and refreshes take at most 180 of
the 2,340 cycles of 3.9 µs. -/
def execArbRefresh (cycle len : Nat) (s : State) : Host.Outcome State Fault Refusal :=
  done s <|
    let recent := s.arb.refreshes.filter fun r => decide (cycle < r.1 + r.2 + 2340)
    let n := min len (180 - (recent.map (·.2)).sum)
    if !s.runs 1 || cycle < s.arb.refreshEnd || n = 0 then s
    else { s with arb := { s.arb with refreshEnd := cycle + n, refreshes := recent ++ [(cycle, n)] } }

/-- ARB_CTL_WRITE (R60). -/
def execArbCtlWrite (path : Nat) (val : Word) (s : State) : Host.Outcome State Fault Refusal :=
  done s <| hostWrite s path 17 fun s => s.wr Reg.ARB_CTL_NTH (clamp 4 64 (val.toNat % 128))

/-- ARB_WGT_WRITE (R61, R207). -/
def execArbWgtWrite (path n : Nat) (val : Word) (s : State) : Host.Outcome State Fault Refusal :=
  done s <| hostWrite s path 17 fun s => if 8 ≤ n then s else s.wr (Reg.ARB_WGT_W n) (min 1024 (val.toNat % 2048))

/-! ### Spares (R68 to R74, R763, R764) -/

/-- APP_CORE_FAILURE (R68, R70, R71): the spare goes into the core map and APP restarts; with no spare left the map stays. DESIGN CHOICE
(log entry 74): the failure of a spare that is not in service changes nothing. -/
def execAppCoreFailure (core reason : Nat) (ms : List Nat) (s : State) : Host.Outcome State Fault Refusal :=
  done s <|
    if !coreInUse 12 s.sup.appCores core || !s.runs 1 then s
    else
      let m := s.margin 3
      let s := if m = 0 then s
        else
          let s := subst s 3 core (14 - m) (m - 1) reason 0
          { s with sup := { s.sup with appCores := coreReplace s.sup.appCores core (14 - m) } }
      appRestart (domainReset s 1) ms

/-- MEMORY_BLOCK_FAILURE (R68, R72): a row of class 4 to 6 or an MRAM block of class 7. -/
def execMemoryBlockFailure (cls idx reason : Nat) (s : State) : Host.Outcome State Fault Refusal :=
  done s <|
    let m := s.margin cls
    if cls < 4 || 7 < cls || s.dom 0 != 2 || m = 0 || s.sup.rowMap.any (fun (r : Nat × Nat × Nat × Bool) => r.1 = cls && r.2.1 = idx) then s
    else
      let spare := spareCount.getD cls 0 - m
      let s := subst s cls idx spare (m - 1) reason 0
      { s with sup := { s.sup with rowMap := s.sup.rowMap ++ [(cls, idx, spare, false)] } }

/-- PROTECTION_CORE_FAILURE (R157, R739, R763, R764): the SUBST record, LEASH released, the half declared failed; a half with no spare
left stays DOWN. -/
def execProtectionCoreFailure (h core reason : Nat) (ms : List Nat) (s : State) : Host.Outcome State Fault Refusal :=
  done s <|
    if 1 < h || !coreInUse 8 (s.hf h).cores core || !s.runs (2 + h) then s
    else
      let att := s.sup.attempt
      let s := coreSubst s h core reason
      let s := { s with sup := { s.sup with attempt := false } }
      let s := if s.brace h = 0 then domainReset s (2 + h) else declareFailed s h 6 (smpNow s) 3 1
      if att then failAttempt s (bootDev s) 1 ms else s

/-- The bytes of a tally record (Table ARCH-8). -/
def tallyBytes (r : TallyRec) : List Byte :=
  let b := pack [(1, r.kind), (1, r.cls), (2, r.failed), (2, r.spare), (2, r.margin), (4, r.opsec), (3, r.pcyc), (1, r.reason),
    (8, r.stamp), (4, r.detail), (3, r.tseq)]
  b ++ le 1 (crc8 b)

/-- TALLY_READ (R74): from the record with TSEQ `first`, or from the oldest held when that one is gone. -/
def execTallyRead (tag first count : Nat) (s : State) : Host.Outcome State Fault Refusal :=
  done s <| command s 0x0110 tag fun s =>
    if !within 1 7 count then deny s St.BAD_PARAM
    else
      let l := s.sup.tally
      let from_ := l.dropWhile fun r => r.tseq != first
      let ahead := decide (0 < toS 24 (first + 2 ^ 24 - s.sup.tseq))
      let l := if ahead then [] else if from_.isEmpty then l else from_
      okay s ((l.take count).flatMap tallyBytes)

end Sys2Proof.Machine
end

