-- ==== Sys2Proof/Machine/Image.lean ====
section
/-! DEFINITION. Restarts on command, epochs, and the replacement of the running image: stage, commit, apply, probation
(03_startup_configuration.md). -/
namespace Sys2Proof.Machine

/-! ### Restart and failure counts -/

/-- A warm restart is decided; one that is already due stays the first. -/
def restartDue (s : State) (cause : Nat) : State := { s with sup := { s.sup with due := s.sup.due.or (some cause) } }

/-- RESTART (R146): the response, and the restart as WARM_RESTART with cause 5. -/
def execRestart (tag : Nat) (s : State) : Host.Outcome State Fault Refusal :=
  done s <| command s 0x0101 tag fun s => okay (restartDue s 5) []

/-- BOOT_CLEAR (R173). -/
def execBootClear (tag dev : Nat) (s : State) : Host.Outcome State Fault Refusal :=
  done s <| command s 0x0207 tag fun s =>
    if dev = 0x0A then okay (s.clr Reg.SUP_BOOT_FAILA) []
    else if dev = 0x0B then okay (s.clr Reg.SUP_BOOT_FAILB) []
    else deny s St.BAD_PARAM

/-! ### Epochs (R177) -/

/-- The drain limit of the fabric epoch (R250, R914, R915): the bridges abandon what is left of the older epoch, and crypto jobs of it end
KEY_EPOCH at their next piece boundary. -/
def fabricDrain (s : State) : State :=
  let e := s.rd Reg.SUP_FEPOCH_FEPOCH
  let s := s.hbr.sides.keys.foldl drainEpoch s
  oldKeys (epSettle (markJobs s (fun j => j.epoch != e) 2))

/-- EPOCH_DRAIN_LIMIT (R177). No item of a sample-count epoch is in flight when the next one opens (R760), and a received frame, which a
roster epoch tags, ends within the step that checks it (R443). -/
def execEpochDrainLimit (kind : EpochKind) (s : State) : Host.Outcome State Fault Refusal :=
  done s <| match kind with
    | .fabric => fabricDrain s
    | .sample | .roster => s

/-- EPOCH_PENDING_CHANGE (R177): a fabric epoch that waits opens when nothing of the older one is left; a change of the other kinds never
waits. -/
def execEpochPendingChange (kind : EpochKind) (s : State) : Host.Outcome State Fault Refusal :=
  done s <| match kind with
    | .fabric => oldKeys (epSettle s)
    | .sample | .roster => s

/-! ### Window 7 (R180, R931) -/

/-- Map or close window 7; a change opens a fabric epoch (R250). -/
def setWin7 (s : State) (k : Nat) : State :=
  if s.cfg.win7 = k then s else openFabric { s with cfg := { s.cfg with win7 := k } } (.win7 k)

/-! ### Writing a generation (R161, R162, R183, R185, R186, R883) -/

/-- Write a billet with its bytes to the slot of a device that holds another (R186). -/
def CfgDev.putBillet (x : CfgDev) (b : Option Billet) (bs : List Byte) : CfgDev :=
  if x.billet = b && x.bytes 0x1000000 bs.length = bs then x else { x.put 0x1000000 bs with billet := b }

/-- Write a billet, an image, the helper data and then the faceplates to device `d` (R161, R185, R186); its failure count is cleared
(R173). A slot that does not read back spells nothing, and its bytes are not known (R187). -/
def writeGen (s : State) (d : Nat) (b : Option Billet) (bbs : List Byte) (i : Image) (ibs : List Byte) (seq cst bst : Nat)
    (e : WriteEnd) : State :=
  let x := ((s.dev d).putBillet b bbs).put 0x5000000 ibs
  if e = .slot then
    { s.setDev d { x with image := none, flash := x.flash.filter (fun c => !(sectors 0x5000000 ibs.length).contains (c.1 / 65536)),
                          unk := sectors 0x5000000 ibs.length ++ x.unk, gen := s.free } with free := s.free + 1 }
  else
    let s := { s.setDev d { x with image := some i, helper := true } with
      key := { s.key with helperBad := s.key.helperBad.filter (· != devCode d) } }
    writePlate (if e = .ok then s.clr (failFld d) else s) d seq cst bst e

/-! ### Apply (R191 to R196) -/

/-- The sections that an image puts in force on this module under the running billet. -/
def runSecs (s : State) (i : Image) : Secs := effSecs s (readSecs (fmtTab s) i)

/-- Discard the runtime edits, and report their number (R179). -/
def discardEdits (s : State) : State :=
  let unblock (s : State) (h : Nat) : State := s.setHf h { s.hf h with hostBlk := [] }
  let s := if s.cfg.edited.contains 8 then unblock (unblock s 0) 1 else s
  { s with cfg := { s.cfg with edited := [], discard := s.cfg.edited.length } }

/-- Keep the apply under way. -/
def setApply (s : State) (a : Apply) : State := { s with cfg := { s.cfg with apply := some a } }

/-- A handover whose LEASH has not moved is given up; the heel is reset and will rejoin on the settings in force (R761). -/
def hoCancel (s : State) : State :=
  let ph := s.rd Reg.BRC_HO_PHASE
  match s.brc.ho with
  | some (heel, _, _) =>
    if ph = 0 || ph = 4 then s
    else
      let s := if ph = 1 then s else setBrace (domainReset s (2 + heel)) heel 0
      { (s.clr Reg.BRC_HO_PHASE).clr Reg.BRC_STAT_HO with brc := { s.brc with ho := none } }
  | none => s

/-- The step of section `sec` has failed, step 6 being made when `switched` (R194): the running image's sections are applied in
reverse order. -/
def failBack (s : State) (a : Apply) (sec : Nat) (switched : Bool) : State :=
  let b := backFrom a sec
  if !switched then
    let s := hoCancel s
    applyRest (setApply s b) b
  else
    let s := setApply (applySteps b lateSteps.reverse s).1 b
    if !step6Due s b then applyRest s b
    else match if s.fuses.suiteP then handoverStart s else none with
      | some t => t
      | none => applyRest (forceProt s b.img.secs) b

/-- The steps after step 6. A new image then waits for CFG_APPLY_COMPLETE; a rollback ends. -/
def applyLate (s : State) (a : Apply) : State :=
  match applySteps a lateSteps s with
  | (s, some sec) => failBack s a sec true
  | (s, none) => if a.kind = 0 then setApply s { a with phase := 3 } else applyEnd s a

/-- Run an apply from its first step (R191): step 6 by handover while both halves are in step (R193). -/
def applyRun (s : State) (a : Apply) : State :=
  let a := { a with edits := s.cfg.edited, cmp := s.cfg.image }
  match applySteps a earlySteps (setApply (discardEdits s) a) with
  | (s, some sec) => if a.kind = 0 then failBack s a sec false else applyLate (forceProt s a.img.secs) a
  | (s, none) =>
    if !step6Due s a then applyLate s a
    else if s.lead.isNone || !s.fuses.suiteP then applyLate (forceProt s a.img.secs) a
    else match handoverStart s with
      | some t => setApply t { a with phase := 2 }
      | none => if a.kind = 0 then failBack s a (step6Sec a) false else applyLate (forceProt s a.img.secs) a

/-- Return to the image before the one on probation (R198). -/
def rollback (s : State) : State :=
  match s.cfg.before with
  | none => s
  | some (i, c) =>
    applyRun (cfgState { s with cfg := { s.cfg with probEnd := none } } 6)
      { kind := 1, mode := 1, tag := 0, img := { i with secs := c }, raw := i, phase := 2, def0 := s.cfg.beforeDef }

/-! ### Stage and commit (R180 to R190) -/

/-- The state of SUP_CFGSTAT, and that of UPD_STAT. -/
def State.cst (s : State) : Nat := s.rd Reg.SUP_CFGSTAT_STATE
@[inherit_doc State.cst] def State.ust (s : State) : Nat := s.rd Reg.UPD_STAT_STATE

/-- A billet is being staged or written, or is on trial (R932). -/
def updBusy (s : State) : Bool := s.ust = 1 || s.ust = 3 || s.ust = 4

/-- CFG_STAGE_OPEN (R180, R181, R932). -/
def execCfgStageOpen (tag : Nat) (s : State) : Host.Outcome State Fault Refusal :=
  done s <| command s 0x0201 tag fun s =>
    if s.cst != 0 || updBusy s then deny s St.BUSY else okay (cfgState (setWin7 s 1) 1) []

/-- A failed commit (R190). -/
def commitFail (s : State) (st : Nat) : State :=
  (cfgState { s with cfg := { s.cfg with apply := none, lastStat := st } } 0).event 8 Ev.CFG_COMMIT_FAILED 0 0 [st]

/-- A probation or trial time: 0, or 60 to 86,400 s. -/
def trialOk (n : Nat) : Bool := n = 0 || within 60 86400 n

/-- Section `id` of a staged image differs from the running one's. -/
def imageDiffers (s : State) (i : Image) (id : Nat) : Bool := (s.cfg.image.bind fun r => secCrc r id) != secCrc i id

/-- CFG_STAGE_COMMIT (R162, R181 to R185, R932): the checks; the write to the other device ends with CFG_WRITE_COMPLETE. DESIGN CHOICE
(log entry 82): a command refused with BUSY, STAGE_ORDER or BAD_PARAM is no failed stage or commit, and leaves LASTSTAT. -/
def execCfgStageCommit (tag len mode prob : Nat) (img : Image) (s : State) : Host.Outcome State Fault Refusal :=
  done s <| command s 0x0202 tag fun s =>
    if updBusy s then deny s St.BUSY
    else if s.cst = 0 then deny s 0x81
    else if s.cst != 1 then deny s St.BUSY
    else if !within 1 2 mode || !trialOk prob || 0x2000000 < len then deny s St.BAD_PARAM
    else
      let s := setWin7 s 0
      match imageCheck s (fmtTab s) true true len img with
      | some st => (commitFail s st, some (st, []))
      | none =>
        if mode = 1 && [1, 11].any (imageDiffers s img) then (commitFail s St.RESTART_NEEDED, some (St.RESTART_NEEDED, []))
        else
          let a : Apply := {
            mode := mode, prob := prob, tag := tag, img := { img with secs := runSecs s img }, raw := img
            frm := s.cfg.image.map fun i => (i, runSecs s i)
            def0 := s.rd Reg.SUP_CFGSTAT_DEF }
          later (cfgState (setApply (withdraw s (1 - s.cfg.dev)) a) 3)

/-- The bytes of the running billet, as the device that holds it has them. -/
def runBillet (s : State) : List Byte := (s.dev s.cfg.dev).bytes 0x1000000 ((s.upd.run.map (·.total)).getD 0)

/-- CFG_WRITE_COMPLETE (R161, R185 to R187, R189 to R191, R928): the write of the staged image and of the running billet has ended as
`e` says. DESIGN CHOICE (log entry 83): when copy 0 alone does not read back, the copy 1 just written is withdrawn. -/
def execCfgWriteComplete (e : WriteEnd) (s : State) : Host.Outcome State Fault Refusal :=
  done s <|
    match s.cfg.apply with
    | none => s
    | some a =>
      if s.cst != 3 || a.phase != 1 then s
      else
        let d := 1 - s.cfg.dev
        let s := writeGen s d s.upd.run (runBillet s) a.raw (stageBytes s 0 a.raw.total) (s.rd Reg.SUP_CFGACT_SEQ + 1)
          (if a.mode = 1 then 0xFF else 0x0F) 0x0F e
        if e != .ok then (commitFail (withdraw s d) St.FLASH_FAIL).respond 0x0202 a.tag St.FLASH_FAIL []
        else
        let s := s.respond 0x0202 a.tag 0 []
        if a.mode = 1 then applyRun (cfgState s 4) a
        else restartDue { s with cfg := { s.cfg with apply := none } } 8

/-- Steps 1 to 9 have been made (R192): none waits for a harmonic window or for the end of an exchange. An announce interval (1 s) has begun by
now. -/
def applyDone (s : State) : State :=
  match s.cfg.apply with
  | none => s
  | some a =>
    let s := releaseOld03 (timeDue s)
    if a.phase != 3 || s.cfg.due.contains 5 || s.cfg.old03.isSome then s else applyEnd s a

/-- CFG_APPLY_COMPLETE (R192): every step is made, the handover of step 6 among them. -/
def execCfgApplyComplete (s : State) : Host.Outcome State Fault Refusal :=
  done s <|
    match s.cfg.apply with
    | none => s
    | some a =>
      let ph := s.rd Reg.BRC_HO_PHASE
      if s.cst != 4 && s.cst != 6 then s
      else if a.phase = 3 then applyDone s
      else if a.phase = 2 && (ph = 0 || ph = 4) then (if a.kind = 0 then applyDone (applyLate s a) else applyRest s a)
      else s

/-- CFG_APPLY_FAILED (R194): the step of section `sec` of the apply under way has failed. -/
def execCfgApplyFailed (sec : Nat) (s : State) : Host.Outcome State Fault Refusal :=
  done s <|
    match s.cfg.apply with
    | none => s
    | some a =>
      if s.cst != 4 || a.kind != 0 || !within 2 15 sec then s
      else failBack s a sec (a.phase = 3 || s.rd Reg.BRC_HO_PHASE = 0 || s.rd Reg.BRC_HO_PHASE = 4)

/-! ### Probation (R197 to R201) -/

/-- CFG_CONFIRM (R197): outside probation the command does not fit the state. -/
def execCfgConfirm (tag : Nat) (s : State) : Host.Outcome State Fault Refusal :=
  done s <| command s 0x0203 tag fun s => if s.cst != 5 then deny s 0x81 else okay (confirmImage s) []

/-- Whole seconds, rounded up, to a time of the always-on clock. -/
def secsTo (s : State) (stop : Option Nat) : Nat := ((stop.getD 0) - s.up + 999999999) / 1000000000

/-- CFG_PROBATION_EXPIRY (R198): nothing of the probation time remains. -/
def execCfgProbationExpiry (s : State) : Host.Outcome State Fault Refusal :=
  done s <| if s.cst != 5 || secsTo s s.cfg.probEnd != 0 then s else rollback s

/-- CFG_ROLLBACK (R198). -/
def execCfgRollback (tag : Nat) (s : State) : Host.Outcome State Fault Refusal :=
  done s <| command s 0x0204 tag fun s => if s.cst != 5 then deny s 0x81 else okay (rollback s) []

/-- SEQ of the image being written, applied or on probation; 0 when none. DESIGN CHOICE (log entry 81): 0 in STATE ROLLBACK too, which
Table BOOT-10 does not name. -/
def stageSeq (s : State) : Nat :=
  if s.cst = 5 then s.rd Reg.SUP_CFGACT_SEQ
  else if s.cst = 3 || s.cst = 4 then (s.rd Reg.SUP_CFGACT_SEQ + 1) % 2 ^ 32
  else 0

/-- CFG_STATUS (R201, Table BOOT-10). -/
def execCfgStatus (tag : Nat) (s : State) : Host.Outcome State Fault Refusal :=
  done s <| command s 0x0205 tag fun s =>
    okay s (pack [(1, s.cst), (1, s.cfg.lastStat), (2, 0), (4, s.rd Reg.SUP_CFGACT_SEQ), (4, stageSeq s),
      (4, if s.cst = 5 then secsTo s s.cfg.probEnd else 0), (4, s.cfg.discard), (2, 2 * s.rd Reg.SUP_CFGSTAT_DEF), (2, 0)])

/-! ### APP returns (R156, R196, R200, R552) -/

/-- APP_DOMAIN_RETURN: the APP domain is loaded from the running image as read again; runtime edits of its sections are discarded. An
apply under way has failed, a return to an earlier image goes on. DESIGN CHOICE (log entry 80): no step has failed, and
CFG_APPLY_FAILED names the lowest section of step 6 that differs. -/
def execAppDomainReturn (s : State) : Host.Outcome State Fault Refusal :=
  done s <|
    if !mayRun s || s.dom 1 != 1 then s
    else match s.cfg.image with
      | none => s
      | some i =>
        let c := runSecs s i
        let back := (s.cfg.apply.filter fun a => a.kind != 0).map (·.img.secs)
        let gone (n : Nat) : Bool := n = 4 || n = 5
        let s := s.setSecs { s.cfg.secs with
          s04 := c.s04, s05 := c.s05, s0b := c.s0b, s0c := c.s0c, s0e := (back.getD c).s0e }
        let s := { s with cfg := { s.cfg with
          edited := s.cfg.edited.filter (fun n => !gone n), discard := (s.cfg.edited.filter gone).length
          due := s.cfg.due.filter fun n => n != 10 && n != 11 } }
        let s := dropWindows (mapWin7 (loadWindows (domainRun s 1) s.cfg.secs.s0e) s.cfg.win7)
        let s := arcStart (meterRestore (loadRoster s))
        let s := kickAll (luxStart s) s.now
        match s.cfg.apply with
        | some a =>
          if a.kind = 0 && s.cst = 4 then
            failBack s a (step6Sec a) (a.phase = 3 || s.rd Reg.BRC_HO_PHASE = 4 || s.rd Reg.BRC_HO_PHASE = 0)
          else s
        | none => s

end Sys2Proof.Machine
end

