-- ==== Sys2Proof/Machine/Update.lean ====
section
/-! DEFINITION. Module billets: staging, commit, trial; and the recovery loader (16_updates.md). -/
namespace Sys2Proof.Machine

/-- Change the update state. -/
def State.setUpd (s : State) (u : Upd) : State := { s with upd := u }

/-- Set STATE of UPD_STAT. -/
def updState (s : State) (v : Nat) : State := s.wr Reg.UPD_STAT_STATE v

/-! ### Staging and commit (R931 to R937) -/

/-- BIL_STAGE_OPEN (R931, R932). -/
def execBilStageOpen (tag page : Nat) (s : State) : Host.Outcome State Fault Refusal :=
  done s <| command s 0x0210 tag fun s =>
    if s.cst != 0 then deny s St.BUSY
    else if 1 < page then deny s St.BAD_PARAM
    else okay (updState ((setWin7 s (2 + page)).setUpd { s.upd with staged := none }) 1) []

/-- BIL_STAGE_CHECK (R933). -/
def execBilStageCheck (tag len : Nat) (bil : Billet) (s : State) : Host.Outcome State Fault Refusal :=
  done s <| command s 0x0211 tag fun s =>
    if s.ust != 1 then deny s 0x81
    else if !within 64 67108864 len then deny s St.BAD_PARAM
    else
      let s := setWin7 s 0
      match billetCheck s len bil with
      | some st =>
        let s := (updState (s.setUpd { s.upd with staged := none, lastStat := st }) 0).raise Reg.UPD_EVT_REJECT
        (s, some (st, []))
      | none =>
        okay (updState (s.setUpd { s.upd with staged := some bil }) 2) (pack [(4, bil.ver), (4, bil.svn), (1, 6), (3, 0)])

/-- A failed UPD_COMMIT (R937). -/
def updFail (s : State) (b : Billet) (cfg st : Nat) : State :=
  let s := if cfg = 1 then cfgState s 0 else s
  let s := (updState (s.setUpd { s.upd with staged := none, lastStat := st }) 0).raise Reg.UPD_EVT_REJECT
  s.event 8 Ev.BILLET_REJECTED 0 0 [st, b.ver, b.svn]

/-- UPD_COMMIT (R934 to R937). As with log entry 82, a command refused with STAGE_ORDER or BAD_PARAM is no failed commit. `img` is what the configuration staging buffer spells, and `e` says how the write ends. Without a staged
image the running one goes with the billet. -/
def execUpdCommit (tag cfg trial : Nat) (img : Image) (e : WriteEnd) (s : State) : Host.Outcome State Fault Refusal :=
  done s <| command s 0x0212 tag fun s =>
    match s.upd.staged with
    | none => deny s 0x81
    | some b =>
      if s.ust != 2 then deny s 0x81
      else if 1 < cfg || !trialOk trial then deny s St.BAD_PARAM
      else if s.cst != cfg then deny s 0x81
      else
        let s := if cfg = 1 then setWin7 s 0 else s
        let fail (s : State) (st : Nat) : Answer := (updFail s b cfg st, some (st, []))
        match if cfg = 1 then some img else s.cfg.image with
        | none => fail s St.FORMAT_BAD
        | some i => match imageCheck s b.fmttab true true 0x2000000 i with
          | some st => fail s st
          | none =>
            let d := 1 - s.cfg.dev
            let ibs := if cfg = 1 then stageBytes s 0 i.total else (s.dev s.cfg.dev).bytes 0x5000000 i.total
            let s := writeGen (withdraw s d) d (some b) (stageBytes s 1 b.total) i ibs (s.rd Reg.SUP_CFGACT_SEQ + 1) 0x0F 0xFF e
            if e != .ok then fail (withdraw s d) St.FLASH_FAIL
            else
              okay (restartDue (updState (s.setUpd { s.upd with trial := trial }) 3) 8) []

/-! ### Trial (R938 to R942) -/

/-- UPD_CONFIRM (R939). -/
def execUpdConfirm (tag : Nat) (s : State) : Host.Outcome State Fault Refusal :=
  done s <| command s 0x0213 tag fun s => if s.ust != 4 then deny s 0x81 else okay (confirmBillet s) []

/-- The end of a trial without confirmation (R940): 1 expiry, 2 command. -/
def trialBack (s : State) (cause : Nat) : State :=
  let d := s.cfg.dev
  let s := (programDev s d 0 0).raise Reg.UPD_EVT_ROLLBACK
  let s := s.event 8 Ev.BILLET_ROLLBACK 0 0 [devVer s d, devCode d, cause]
  restartDue (updState (s.setUpd { s.upd with trialEnd := none }) 0) 6

/-- UPD_ROLLBACK (R940). -/
def execUpdRollback (tag : Nat) (s : State) : Host.Outcome State Fault Refusal :=
  done s <| command s 0x0214 tag fun s => if s.ust != 4 then deny s 0x81 else okay (trialBack s 2) []

/-- Seconds of the trial that remain. -/
def trialRem (s : State) : Nat := if s.ust = 4 then secsTo s s.upd.trialEnd else 0

/-- TRIAL_EXPIRY (R940, R941): a whole second of TRIALREM has come, and none remains. -/
def execTrialExpiry (s : State) : Host.Outcome State Fault Refusal :=
  done s <| if s.ust != 4 || trialRem s != 0 then s else trialBack s 1

/-- UPD_STATUS (Table UPD-5). -/
def execUpdStatus (tag : Nat) (s : State) : Host.Outcome State Fault Refusal :=
  done s <| command s 0x0215 tag fun s =>
    okay s (pack [(1, s.ust), (3, 0), (4, s.rd Reg.UPD_BILVER_VERSION), (4, s.rd Reg.UPD_SVN_SVN), (4, s.rd Reg.UPD_FLOOR_FLOOR),
      (4, (s.upd.staged.map Billet.ver).getD 0), (4, trialRem s), (1, s.upd.lastStat), (3, 0)])

/-! ### The recovery loader (R943 to R947) -/

/-- The loader runs operation `op`. -/
def recRuns (s : State) (op : Nat) : Bool :=
  s.rd Reg.UPD_STAT_RCV = 1 && s.rd Reg.UPD_RSTAT_BUSY = 1 && s.rd Reg.UPD_RCMD_OP = op

/-- The operation ends with a status. -/
def recEnd (s : State) (st : Nat) : State :=
  s.wrs [(Reg.UPD_RSTAT_BUSY, 0), (Reg.UPD_RSTAT_RESULT, st), (Reg.UPD_RCMD_GO, 0)]

/-- The addresses that the loader may change (R945). -/
def recRange (a len : Nat) : Bool := decide (0x1000000 ≤ a) && decide (a + len ≤ 0x7000000)

/-- A sector of a slot has changed: what the slot held is lost. -/
def CfgDev.spoil (x : CfgDev) (sec : Nat) : CfgDev :=
  let hit (off len : Nat) : Bool := (sectors off len).contains sec
  { x with billet := x.billet.filter (fun b => !hit 0x1000000 b.total), image := x.image.filter fun i => !hit 0x5000000 i.total }

/-- RECOVERY_READ (R944). -/
def execRecoveryRead (s : State) : Host.Outcome State Fault Refusal :=
  done s <|
    if !recRuns s 1 then s
    else
      let a := s.rd Reg.UPD_RADDR_ADDR
      let n := s.rd Reg.UPD_RLEN_LEN
      if !within 4 16384 n || n % 4 != 0 || 0x8000000 < a + n then recEnd s St.BAD_PARAM
      else
        let x := s.dev (s.rd Reg.UPD_RCMD_DEV)
        recEnd (s.setUpd { s.upd with rbuf := Mem.writeList 0 s.upd.rbuf 0 (x.bytes a n) }) 0

/-- RECOVERY_ERASE (R162, R945): the device is withdrawn before its first erase after entry, and before any erase while it is not. -/
def execRecoveryErase (s : State) : Host.Outcome State Fault Refusal :=
  done s <|
    if !recRuns s 2 then s
    else
      let d := s.rd Reg.UPD_RCMD_DEV
      let sec := s.rd Reg.UPD_RADDR_ADDR / 65536
      if !recRange (sec * 65536) 65536 then recEnd s St.BAD_PARAM
      else
        let s := withdraw s d
        let x := (s.dev d).spoil sec
        recEnd (s.setDev d { x with
          erased := true, flash := Mem.clear (sec * 65536) 65536 x.flash, unk := x.unk.filter (· != sec) }) 0

/-- RECOVERY_PROGRAM (R944, R945): programming takes bits from 1 to 0, and a byte that does not read back fails. -/
def execRecoveryProgram (s : State) : Host.Outcome State Fault Refusal :=
  done s <|
    if !recRuns s 3 then s
    else
      let d := s.rd Reg.UPD_RCMD_DEV
      let a := s.rd Reg.UPD_RADDR_ADDR
      let n := s.rd Reg.UPD_RLEN_LEN
      if !within 256 16384 n || n % 256 != 0 || !recRange a n then recEnd s St.BAD_PARAM
      else
        let x := s.dev d
        let src := Mem.readList 0 s.upd.rbuf 0 n
        let new := src.zipIdx.map fun b => b.1 &&& x.byte (a + b.2)
        let y := (x.spoil (a / 65536)).spoil ((a + n - 1) / 65536)
        recEnd (s.setDev d { y with flash := Mem.writeList 0xFF y.flash a new }) (if new = src then 0 else St.FLASH_FAIL)

/-- RECOVERY_VERIFY (R944, R946, R947): `bil` and `img` are what the bytes of the device's slots spell. Without the burl only contents
bound to no unit pass, and no helper data is written. `e` says how the write of the faceplates ends (R161). -/
def execRecoveryVerify (bil : Billet) (img : Image) (e : WriteEnd) (s : State) : Host.Outcome State Fault Refusal :=
  done s <|
    if !recRuns s 4 then s
    else
      let d := s.rd Reg.UPD_RCMD_DEV
      let burl := s.key.burl
      let bad := match billetCheck s 0x4000000 bil with
        | some st => some st
        | none => match imageCheck s bil.fmttab false false 0x2000000 img with
          | some st => some st
          | none => if !burl && (bil.unit != 0 || img.unit != 0) then some St.BIND_FAIL else none
      match bad with
      | some st => recEnd (withdraw s d) st
      | none =>
        let x := s.dev d
        let s := s.setDev d { x with billet := some bil, image := some img, helper := burl || x.helper }
        let s := if burl then s.setKey { s.key with helperBad := s.key.helperBad.filter (· != devCode d) } else s
        if e = .ok then recEnd (writePlate (s.clr (failFld d)) d (s.rd Reg.UPD_RSEQ_SEQ) 0x0F 0x0F e) 0
        else recEnd (withdraw (writePlate s d (s.rd Reg.UPD_RSEQ_SEQ) 0x0F 0x0F e) d) St.FLASH_FAIL

/-- RECOVERY_EXIT (R944). -/
def execRecoveryExit (ms : List Nat) (s : State) : Host.Outcome State Fault Refusal :=
  done s <| if !recRuns s 5 then s else warmStart s 7 ms

end Sys2Proof.Machine
end

