-- ==== Sys2Proof/Machine/Campaign.lean ====
section
/-! DEFINITION. Node billets and the campaigns that distribute them (R948, R955 to R962, 16_updates.md). -/
namespace Sys2Proof.Machine

/-! ### What a campaign shows (R962) -/

/-- The campaign. -/
def State.camp (s : State) : Camp := s.upd.camp

/-- Change the campaign. -/
def setCamp (s : State) (c : Camp) : State := s.setUpd { s.upd with camp := c }

/-- STATE of a member's last answer. -/
def Camp.stOf (c : Camp) (ln : Nat) : Option Nat := (c.st.get? ln).map (·.1)

/-- Members whose last answer has a STATE that satisfies `p`. -/
def Camp.count (c : Camp) (p : Nat → Bool) : Nat := (c.members.filter fun ln => ((c.stOf ln).map p).getD false).length

/-- Members in STATE 1 or 4. -/
def Camp.complete (c : Camp) : Nat := c.count fun x => x = 1 || x = 4

/-- MEMBERS, COMPLETE, FAILED, ACTIVE, REVERTED. -/
def campCounts (c : Camp) : List Byte :=
  pack [(4, c.members.length), (4, c.complete), (4, c.failed.length), (4, c.count (· = 4)), (4, c.count (· = 5))]

/-- UPD_NBSTAT and UPD_NBDONE. -/
def nbShow (s : State) : State :=
  let c := s.camp
  s.wrs [(Reg.UPD_NBSTAT_PHASE, c.phase), (Reg.UPD_NBSTAT_ROUND, c.round), (Reg.UPD_NBSTAT_CAMP, c.no),
    (Reg.UPD_NBDONE_COMPLETE, c.complete)]

/-- The head of CAMP, PHASE, ROUND that NB_PROGRESS and NB_STATUS share, and the counts. -/
def campStatus (c : Camp) : List Byte := pack [(2, c.no), (1, c.phase), (1, c.round)] ++ campCounts c

/-- Change of phase (R962). -/
def campPhase (s : State) (ph : Nat) : State :=
  let s := nbShow (setCamp s { s.camp with phase := ph })
  let s := (s.raise Reg.UPD_EVT_NBPHASE).report 0x0201 0 (nodeBody 0xFFFFFF s.now (campStatus s.camp))
  s.event 8 Ev.NB_CAMPAIGN_PHASE 0 0 [s.camp.no, ph, s.camp.complete]

/-- NB_NODE for a member marked FAILED or found in STATE 5. What the report says of a member that has never answered is a free value. -/
def nbNode (s : State) (ln : Nat) : State :=
  let (st, nr, miss, s) := match s.camp.st.get? ln with
    | some (st, rs) => (st, rs.length, (rs.map fun (r : Nat × Nat) => r.2).sum, s)
    | none =>
      let v := Config.freeNat s.free
      (v % 6, v / 6 % 49, v / 294, { s with free := s.free + 1 })
  s.report 0x0202 1 (nodeBody ln s.now (pack [(2, s.camp.no), (1, st), (1, nr), (4, miss)]))

/-! ### Frames (Table UPD-9) -/

/-- Chunks of a billet. -/
def nChunk (b : NodeBillet) : Nat := (b.size + 191) / 192

/-- BODY of a campaign opcode for chunk `i`. -/
def nbBody (c : Camp) (op i nackwin : Nat) : List Byte :=
  let head := le 2 c.no
  match op, c.nb with
  | 0x40, some b => head ++ pack [(4, b.model), (4, b.ver), (4, b.size), (2, nChunk b)] ++ padTo 32 0 b.hash
  | 0x41, some b => head ++ le 2 i ++ padTo 192 0 ((b.data.take b.size).drop (192 * i))
  | 0x42, _ => head ++ le 4 nackwin
  | 0x43, _ => head ++ le 6 (c.act / 1000)
  | _, _ => head

/-- Queue a campaign frame for a member. -/
def nbSend (s : State) (op i nackwin ln : Nat) : State :=
  queueData s ln { src := .campaign, cmd := false, op := op, body := nbBody s.camp op i nackwin }

/-- Queue a campaign howl: SCOPE group, GROUP, TTL (R957). -/
def nbHowl (s : State) (op i : Nat) : Option State :=
  let c := s.camp
  let stop := if op = 0x43 then some (c.act - 60000000000) else none
  (howlPut s 2 0 0 c.group c.ttl stop op (nbBody c op i c.nackwin)).map (·.1)

/-- Ask members by unicast (Table UPD-11). -/
def askUni (s : State) (nackwin : Nat) (l : List Nat) : State :=
  let s := setCamp s { s.camp with asked := s.camp.asked ++ l.filter fun ln => !s.camp.asked.contains ln, queryAt := s.up }
  l.foldl (fun s ln => nbSend s 0x42 0 nackwin ln) s

/-! ### Phases (R957, R958, Table UPD-11) -/

/-- A member is incomplete: it has not answered, or answered STATE 0. -/
def Camp.incomplete (c : Camp) (ln : Nat) : Bool := (c.stOf ln).getD 0 = 0

/-- The chunks that a member's last answer names. -/
def Camp.missing (c : Camp) (ln : Nat) : List Nat :=
  let n := (c.nb.map nChunk).getD 0
  match c.st.get? ln with
  | some (0, rs) => (rs.flatMap fun r => (List.range r.2).map (r.1 + ·)).filter (· < n)
  | _ => []

/-- Enter QUERY: howled once, or by unicast. -/
def enterQuery (s : State) : State :=
  let c := s.camp
  let s := campPhase (setCamp s { c with round := c.round + 1, answered := [] }) 2
  if c.mode = 1 then askUni s c.nackwin c.members else setCamp s { s.camp with todo := [(0x42, 0)] }

/-- Enter READY: members not in STATE 1 are marked FAILED. -/
def enterReady (s : State) : State :=
  let c := s.camp
  let bad := c.members.filter fun ln => c.stOf ln != some 1
  bad.foldl nbNode (campPhase (setCamp s { c with failed := bad, todo := [] }) 4)

/-- Enter REPAIR: chunks that REHOWL answers name are howled, in order; the others go by unicast. -/
def enterRepair (s : State) : State :=
  let c := s.camp
  let n := (c.nb.map nChunk).getD 0
  let miss := c.members.map fun ln => (ln, c.missing ln)
  let many (i : Nat) : Bool := c.mode = 0 && decide (c.rehowl ≤ (miss.filter fun m => m.2.contains i).length)
  let todo := ((List.range n).filter many).map fun i => (0x41, i)
  let s := campPhase (setCamp s { c with todo := todo }) 3
  miss.foldl (fun s m => (m.2.filter fun i => !many i).foldl (fun s i => nbSend s 0x41 i 0 m.1) s) s

/-- A campaign frame is still in some queue. -/
def nbQueued (s : State) : Bool := s.lnt.nodes.any fun p => p.2.q.any fun f => f.src = .campaign

/-- Go on when nothing of the phase is left to send: PASS to QUERY, REPAIR to QUERY or READY. -/
def campNext (s : State) : State :=
  let c := s.camp
  if !c.todo.isEmpty || (c.mode = 1 && nbQueued s) then s
  else if c.phase = 1 then enterQuery s
  else if c.phase = 3 then (if c.rounds ≤ c.round || !c.members.any c.incomplete then enterReady s else enterQuery s)
  else s

/-- The next howl of the campaign takes the slot. -/
def campHowl (s : State) : State :=
  match s.camp.todo with
  | [] => s
  | (op, i) :: l => match nbHowl s op i with
    | some t => setCamp t { t.camp with todo := l, queryAt := if op = 0x42 then t.up else t.camp.queryAt }
    | none => s

/-- CAMPAIGN_SLOT (R957, R959): the howl window `w` is a slot. A howl of another origin that waits takes it, or a campaign howl that
an earlier slot did not send. -/
def execCampaignSlot (w : Nat) (s : State) : Host.Outcome State Fault Refusal :=
  done s <|
    let c := s.camp
    let mine := s.lnt.howls.any fun h => h.origin = 2 && (!h.todo.isEmpty || !h.asked.isEmpty)
    let other := s.lnt.howls.any fun h => h.origin != 2 && !h.todo.isEmpty
    let fits := match c.slot with
      | some v => decide (v < w) && (w - v) % max 1 c.chgap = 0
      | none => true
    if !s.runs 1 || !fits || (!s.upd.running && !mine) then s
    else
      let s := setCamp s { c with slot := some w }
      if mine || other || !s.upd.running then s else kickAll (campHowl (campNext s)) s.now

/-- NACKWIN + 60 s have passed since the last query was sent, and no unicast frame of it waits (log entry 56). -/
def queryOver (s : State) : Bool :=
  let c := s.camp
  c.todo.isEmpty && decide (c.queryAt + (c.nackwin + 60) * 1000000000 ≤ s.up) && !(c.mode = 1 && nbQueued s)

/-- CAMPAIGN_QUERY_END (R957): NACKWIN + 60 s after a query. The last query of a campaign ends it. -/
def execCampaignQueryEnd (s : State) : Host.Outcome State Fault Refusal :=
  done s <|
    let c := s.camp
    if !s.runs 1 || !s.upd.running || !queryOver s then s
    else if c.phase = 5 && c.acted then campPhase (s.setUpd { s.upd with running := false }) 6
    else if c.phase != 2 then s
    else
      let s := askUni s 0 (c.members.filter fun ln => !c.answered.contains ln)
      let s := if c.members.any c.incomplete then enterRepair s else enterReady s
      kickAll s s.now

/-- CAMPAIGN_ACT_QUERY (Table UPD-11): one more query at ACT + 960 s. -/
def execCampaignActQuery (s : State) : Host.Outcome State Fault Refusal :=
  done s <|
    let c := s.camp
    if !s.runs 1 || !s.upd.running || c.phase != 5 || c.acted || s.now < c.act + 960000000000 then s
    else
      let s := setCamp s { c with acted := true, answered := [] }
      kickAll (if c.mode = 1 then askUni s c.nackwin c.members else setCamp s { s.camp with todo := [(0x42, 0)] }) s.now

/-- UPLINK_NB_NACK (R948): an answer reaches the campaign; a late one in REPAIR is served by unicast. -/
def execUplinkNbNack (f : RxFrame) (nack : NbNack) (s : State) : Host.Outcome State Fault Refusal :=
  done s <| uplink s f fun f s =>
    let c := s.camp
    if !s.upd.running || nack.camp != c.no || !c.members.contains f.src then s
    else
      let late := c.phase = 3 && !c.answered.contains f.src
      let c := { c with
        st := c.st.set f.src (nack.st, nack.ranges), answered := f.src :: c.answered.filter (· != f.src)
        uni := if c.asked.contains f.src then f.src :: c.uni.filter (· != f.src) else c.uni }
      let s := nbShow (setCamp s c)
      let s := if nack.st = 5 then nbNode s f.src else s
      if late then ((c.missing f.src).filter fun i => !c.todo.contains (0x41, i)).foldl (fun s i => nbSend s 0x41 i 0 f.src) s else s

/-! ### Commands (Table UPD-10) -/

/-- A node billet from its bytes, when it has the form of Table UPD-8 and its body the hash (R955). -/
def nodeBilletOf (b : List Byte) : Option NodeBillet :=
  let num (at_ n : Nat) : Nat := fromLe ((b.drop at_).take n)
  if num 0 4 = 0x4E425456 && num 4 2 = 1 && num 6 2 = 0 && num 16 4 = b.length && num 21 3 = 0 && num 120 8 = 0 &&
      sha256 (b.drop 128) = (b.drop 24).take 32 then
    some ⟨num 8 4, num 12 4, b.length, sha256 b, b⟩
  else none

/-- NB_LOAD (R955): the billet is what the window holds (R922). -/
def execNbLoad (tag win wofs len : Nat) (s : State) : Host.Outcome State Fault Refusal :=
  done s <| command s 0x0220 tag fun s =>
    if !within 128 1572864 len || !winCommand s win wofs len then deny s St.BAD_PARAM
    else match nodeBilletOf (winRead s win wofs len) with
      | none => deny s 0x84
      | some bil => okay (s.setUpd { s.upd with nb := some bil }) (pack [(4, bil.model), (4, bil.ver), (2, nChunk bil)])

/-- The parameters of NB_START lie within Table UPD-10. -/
def nbStartOk (mode group ttl chgap rehowl rounds nackwin : Nat) : Bool :=
  mode ≤ 1 && group ≤ 4095 && within 1 15 ttl && within 1 16 chgap && within 1 65535 rehowl && within 1 5 rounds &&
  within 60 86400 nackwin

/-- The howls of PASS: the announcement first and after every 64 chunks, every chunk once. -/
def passHowls (n : Nat) : List (Nat × Nat) :=
  (List.range n).flatMap fun i => if i % 64 = 0 then [(0x40, 0), (0x41, i)] else [(0x41, i)]

/-- NB_START (R956 to R958). In UNICAST mode the chunks go as a chain of frames, and the first query follows them. -/
def execNbStart (tag mode group ttl chgap rehowl rounds nackwin : Nat) (s : State) : Host.Outcome State Fault Refusal :=
  done s <| command s 0x0221 tag fun s =>
    match s.upd.nb with
    | none => deny s 0x81
    | some b =>
      if s.upd.running then deny s 0x82
      else if !nbStartOk mode group ttl chgap rehowl rounds nackwin then deny s St.BAD_PARAM
      else
        let ms := if mode = 1 then s.upd.list else howlMembers s 0 group
        if mode = 0 && ms.any (fun ln => ((s.node ln).map fun d => d.tsc != 0).getD false) then deny s St.BAD_PARAM
        else
          let no := (s.upd.campNo + 1) % 65536
          let c : Camp := {
            no := no, mode := mode, group := group, ttl := ttl, chgap := chgap, rehowl := rehowl, rounds := rounds, nackwin := nackwin
            members := ms, nb := some b, todo := if mode = 0 then passHowls (nChunk b) else [] }
          let s := s.setUpd { s.upd with camp := c, campNo := no, running := true, list := [] }
          let s := if mode = 0 then campPhase s 1
            else enterQuery (ms.foldl (fun s ln =>
              (List.range (nChunk b)).foldl (fun s i => nbSend s 0x41 i 0 ln) (nbSend s 0x40 0 0 ln)) s)
          okay (kickAll s s.now) (le 2 no)

/-- NB_ADDNODES (R956): nodes of the roster, up to 4,096 in all. -/
def execNbAddnodes (tag : Nat) (lns : List Nat) (s : State) : Host.Outcome State Fault Refusal :=
  done s <| command s 0x0222 tag fun s =>
    if s.upd.running then deny s 0x82
    else
      let l := s.upd.list ++ lns.eraseDups.filter fun ln => !s.upd.list.contains ln
      if !within 1 80 lns.length || lns.any (fun ln => (s.node ln).isNone) || 4096 < l.length then deny s St.BAD_PARAM
      else okay (s.setUpd { s.upd with list := l }) (le 2 l.length)

/-- NB_ACTIVATE (R960, Table UPD-11): three howls, and unicast to the members that have answered by unicast. -/
def execNbActivate (tag act : Nat) (s : State) : Host.Outcome State Fault Refusal :=
  done s <| command s 0x0223 tag fun s =>
    let c := s.camp
    if !s.upd.running || c.phase != 4 then deny s 0x81
    else if act < s.now + 3 * c.chgap * (sec04 s).hper * 1000000 + 60000000000 then deny s St.BAD_PARAM
    else
      let s := setCamp s { c with act := act, todo := if c.mode = 0 then List.replicate 3 (0x43, 0) else [] }
      let s := (if c.mode = 1 then c.members else c.uni).foldl (fun s ln => nbSend s 0x43 0 0 ln) (campPhase s 5)
      okay (kickAll s s.now) []

/-- NB_ABORT (R961). -/
def execNbAbort (tag : Nat) (s : State) : Host.Outcome State Fault Refusal :=
  done s <| command s 0x0224 tag fun s =>
    let c := s.camp
    if !s.upd.running then deny s 0x83
    else
      let s := setCamp (s.setUpd { s.upd with running := false }) { c with todo := [] }
      let quiet := c.phase = 5 && c.act ≤ s.now
      let far := c.members.filter fun ln => c.mode = 1 || ((s.node ln).map fun d => d.tsc != 0).getD false
      let s := if quiet then s else far.foldl (fun s ln => nbSend s 0x44 0 0 ln) (if c.mode = 1 then s else (nbHowl s 0x44 0).getD s)
      okay (kickAll (campPhase s 6) s.now) []

/-- NB_STATUS (Table UPD-10). -/
def execNbStatus (tag : Nat) (s : State) : Host.Outcome State Fault Refusal :=
  done s <| command s 0x0225 tag fun s => okay s (campStatus s.camp)

end Sys2Proof.Machine
end

