-- ==== Sys2Proof/Machine/Bus.lean ====
section
/-! DEFINITION. Register accesses: the fields that a register shows from other parts of the state, reads, writes by access type
(R205 to R211, 04_host_registers.md), and the mailbox ring registers (R216, R217, R227, R228). -/
namespace Sys2Proof.Machine

/-! ### Fields that show other state -/

/-- SUP_ID (R14). -/
def supId (s : State) (lo : Nat) : Nat :=
  let f := s.fuses
  match lo with
  | 16 => f.typ | 12 => f.hwrev | 10 => f.region | 9 => b2n f.suiteP | 8 => b2n f.arch | _ => f.grade

/-- Complete unread packets of kennel `n`. -/
def kPackets (s : State) (n : Nat) : Nat := (s.knl n).pkts.length

/-- KNL_CFGn: FULLPOL, PROD, CONS, DEPTH; 0 for a kennel that does not exist. -/
def kCfg (n lo : Nat) : Nat :=
  if !kExists n then 0
  else match lo with
    | 31 => b2n (kDrop n) | 24 => kProd n | 21 => kCons n | _ => kDepth

/-- OUT_STAT but for HOLD and HOLDCAUSE. -/
def outStat (s : State) (lo : Nat) : Nat :=
  match lo with
  | 6 => b2n (s.isLead 1) | 5 => b2n (s.isLead 0) | 4 => s.rd Reg.BRC_STAT_LSHIN | 3 => s.rd Reg.BRC_STAT_LSHOUT
  | 2 => b2n (healthy s) | _ => b2n (outEn s)

/-- PRx_STAT of half `h`: RATE, LEAD, INSERV. -/
def prStat (s : State) (h lo : Nat) : Nat :=
  match lo with
  | 2 => match (s.s08For h).map (·.prate) with
    | some 4000 => 1 | some 4800 => 2 | some 14400 => 3 | _ => 0
  | 1 => b2n (s.isLead h)
  | _ => b2n (halfServes s h)

/-- PRx_INSTi of half `h`. -/
def prInst (s : State) (h i lo : Nat) : Nat :=
  let x := (s.hf h).insts.getD i {}
  match lo with
  | 31 => b2n ((((s.s08For h).bind fun c => c.insts.get? i).map (·.en)).getD false)
  | 29 => x.blk | 28 => b2n x.q | 24 => x.run | 23 => b2n x.prov | _ => x.bits

/-- FWD_OCC0 and FWD_OCC1. -/
def fwdOcc (s : State) (k lo : Nat) : Nat :=
  match k, lo with
  | 0, 15 => (s.fwd.mac.filter fun (p : Nat × MacE) => macLive s p.2).length
  | 0, _ => s.fwd.mc.length
  | _, 26 => (s.fwd.lens.vals.filter (0 < ·)).length
  | _, _ => s.fwd.pfx.length

/-- KEY_ENGk: CLASS, CTX, PEND. -/
def keyEng (s : State) (k lo : Nat) : Nat :=
  let g := s.eng k
  match lo with
  | 30 => match g.cur with
    | some j => if j.rt then 1 else 2
    | none => 0
  | 27 => g.ctx
  | _ => min 0xFFFF (g.pend true + g.pend false)

/-- BRC_PART.AGE in ms. -/
def partAge (s : State) : Nat :=
  let p := s.brc.partner
  if p.seen then min 0xFFFF ((s.now - p.at_) / 1000000) else 0xFFFF

/-- MTR_SAVE.AGE in s. -/
def saveAge (s : State) : Nat := if s.mtr.slots.isEmpty then 0 else min 0xFFFF ((s.now - s.mtr.lastSave) / 1000000000)

/-- The value of a field that another part of the state holds. -/
def derived (s : State) (f : Fld) : Option Nat :=
  let b := f.off / 0x10000
  let r := f.off % 0x10000
  match b with
  | 0x00 => match r with
    | 0x00 => some (supId s f.lo) | 0x10 => some (summary s) | 0x14 => some s.sup.seq | _ => none
  | 0x02 => match r with
    | 0x04 => some s.tb.shHi | 0x08 => some s.tb.shFr | 0x1C => some (ofS 32 s.tb.adjRem)
    | _ => if f = Reg.TB_QUAL_QUAL then some s.qual else if f = Reg.TB_QUAL_LEAP then some (leapNow s) else none
  | 0x06 => match r with
    | 0x04 => some s.lnt.nodes.length | 0x08 => some s.mbx.ovfl.length | _ => none
  | 0x07 => if r = 0x50 then some (fwdOcc s 0 f.lo) else if r = 0x54 then some (fwdOcc s 1 f.lo) else none
  | 0x08 | 0x09 =>
    let h := b - 8
    if r = 0 then some (prStat s h f.lo)
    else if r = 0x100 then some (s.hf h).vec
    else if r = 0x104 then some (s.hf h).vecP
    else if 0x1000 ≤ r && r < 0x1300 then some (prInst s h ((r - 0x1000) / 4) f.lo)
    else none
  | 0x0A => if f = Reg.BRC_PART_AGE then some (partAge s) else none
  | 0x0B => match r with
    | 0x00 => if f.lo < 7 then some (outStat s f.lo) else none
    | 0x10 | 0x14 => some (s.pins.cmd / 2 ^ (8 * (r - 0x10)) % 2 ^ 32)
    | 0x18 | 0x1C => some (s.pins.rb / 2 ^ (8 * (r - 0x18)) % 2 ^ 32)
    | 0x200 | 0x204 => some (s.pins.bi / 2 ^ (8 * (r - 0x200)) % 2 ^ 32)
    | _ => none
  | 0x0C => if f = Reg.MTR_SAVE_AGE then some (saveAge s) else none
  | 0x0D =>
    if r = 0 then some (if f.lo = 16 then s.recs.lane.length else s.recs.ingress.length)
    else if 0x100 ≤ r && r < 0x180 && r % 8 = 0 then some (s.log ((r - 0x100) / 8)).seq
    else none
  | 0x0E =>
    if f = Reg.ARC_RATE_WR then some (min 0xFFFF (((recentWrites s).filter fun t => decide (t ≤ s.up)).length * 2 ^ 20 / 10000))
    else if r = 0x0C then some (stagedBytes s / 1048576) else if r = 0x10 then some (s.arc.free / 1073741824) else none
  | 0x0F =>
    if r < 0x10 then some (if s.key.burl then s.fuses.unitId / 2 ^ (8 * r) % 2 ^ 32 else 0)
    else if r = 0x10 then some (keyStat s / 2 ^ f.lo % 2 ^ f.w)
    else if r = 0x18 then some (s.key.ucnt % 2 ^ 32)
    else if r = 0x1C then some (s.key.ucnt / 2 ^ 32 % 2 ^ 32)
    else if 0x20 ≤ r && r < 0x40 then
      some ((s.key.slots.keys.filter fun k => k / 32 = (r - 0x20) / 4).foldl (fun m k => m ||| one (k % 32)) 0)
    else if 0x40 ≤ r && r < 0x50 then some (keyEng s ((r - 0x40) / 4) f.lo)
    else none
  | 0x10 =>
    if r = 0x10 then some (trialRem s)
    else if 0x8000 ≤ r && r < 0xC000 then
      some (if s.rd Reg.UPD_STAT_RCV = 1 then fromLe (Mem.readList 0 s.upd.rbuf (r - 0x8000) 4) else 0)
    else none
  | 0x12 =>
    if r < 0x14 then some ((List.range 32).foldl (fun m b => if kPackets s (8 * r + b) = 0 then m else m ||| one b) 0)
    else if 0x1000 ≤ r && r < 0x1900 && r % 16 = 0 then some (kCfg ((r - 0x1000) / 16) f.lo)
    else if 0x1000 ≤ r && r < 0x1900 && r % 16 = 4 && f.lo = 0 then some (kPackets s ((r - 0x1000) / 16))
    else none
  | _ => none

/-! ### Reads -/

/-- The instance of a row that stands at byte offset `off`. -/
def RegRow.hit (r : RegRow) (off : Nat) : Option Nat :=
  match r.flds with
  | [] => none
  | f :: _ =>
    let b := f.fld.off
    if off < b then none
    else if r.stride = 0 then (if off = b then some 0 else none)
    else if (off - b) % r.stride = 0 && (off - b) / r.stride < r.count then some ((off - b) / r.stride)
    else none

/-- The fields of the register at byte offset `off`. -/
def fieldsAt (off : Nat) : List RegFld :=
  (allRows.filterMap fun r => (r.hit off).map r.at_).flatten

/-- The offset is a CMN register (R208). -/
def isCmn (off : Nat) : Bool := off % 0x10000 = 0xFFFC && off / 0x10000 < 21

/-- A field as it reads: 0 for a write-only one. -/
def fldRead (s : State) (f : RegFld) : Nat :=
  if f.acc = .wo then 0 else (derived s f.fld).getD (s.rd f.fld) % 2 ^ f.fld.w

/-- A read of the register at `off` by the host: its value, and what the read does (RC fields, shadows). An unassigned offset reads 0
(R206). -/
def regRead (s : State) (off : Nat) : Nat × State :=
  if isCmn off then (s.rd (Reg.CMN_LOST_UPD (off / 0x10000)) * 2 ^ 31 + 1, s)
  else if off = 0x020000 then readNowLo s
  else if off = 0x020044 then readPpsLo s
  else if off = 0x020048 then readPpsHi s
  else if off = 0x030000 then readTickLo s
  else if off = 0x030004 then readTickHi s
  else
    let fs := fieldsAt off
    (fs.foldl (fun m f => m + fldRead s f * 2 ^ f.fld.lo) 0,
     fs.foldl (fun t f => if f.acc = .rc then t.clr f.fld else t) s)

/-! ### Writes by access type (Tables HOST-3, HOST-4) -/

/-- A write of `v` to one field; `hw` is the hardware's update of the register in the same cycle: the bits it sets in a W1C field, an
increment of a counter, a new value of an RWH field. -/
def fldWrite (s : State) (v : Nat) (hw : Option Nat) (f : RegFld) : State :=
  let old := s.rd f.fld
  let cut (n : Nat) : Nat := n / 2 ^ f.fld.lo % 2 ^ f.fld.w
  match f.acc with
  | .ro | .rc | .wo => s
  | .rw => s.wr f.fld (if f.keep = .warm then satAdd (2 ^ f.fld.w - 1) (cut v) (b2n hw.isSome) else cut v)
  | .rwh =>
    let s := s.wr f.fld (cut v)
    if hw.isSome then s.raise (Reg.CMN_LOST_UPD (f.fld.off / 0x10000)) else s
  | .w1c => s.wr f.fld (andNot f.fld.w old (cut v) ||| cut (hw.getD 0))
  | .w1s | .sc => if cut v = 0 then s else s.wr f.fld (old ||| cut v)

/-- The index of `off` among `count` registers at `base`, `stride` bytes apart. -/
def idx (base stride count off : Nat) : Option Nat :=
  if base ≤ off && (off - base) % stride = 0 && (off - base) / stride < count then some ((off - base) / stride) else none

/-- A write to RTC_CTL: RELSRC and RELCMP, then HALT, then ARM (R298 to R302). -/
def writeRtcCtl (s : State) (v : Nat) (hw : Option Nat) : State :=
  let fs := (fieldsAt 0x030010).filter fun f => f.acc = .rw
  let s := fs.foldl (fun t f => fldWrite t v none f) s
  let cut (f : Fld) : Nat := v / 2 ^ f.lo % 2 ^ f.w
  let s := if cut Reg.RTC_CTL_HALT = 1 then writeHalt s hw.isSome else writeRelease s
  if cut Reg.RTC_CTL_ARM = 1 then writeArm s else s

/-- A write to UPD_RCMD (R944): GO starts the operation in recovery mode; an operation that Table UPD-7 does not have ends BAD_PARAM. -/
def writeRcmd (s : State) (v : Nat) : State :=
  let s := s.wrs [(Reg.UPD_RCMD_DEV, v / 256), (Reg.UPD_RCMD_OP, v)]
  if v / 2 ^ 31 % 2 = 0 || s.rd Reg.UPD_STAT_RCV = 0 then s
  else if within 1 5 (v % 16) then (s.raise Reg.UPD_RSTAT_BUSY).raise Reg.UPD_RCMD_GO
  else s.wr Reg.UPD_RSTAT_RESULT St.BAD_PARAM

/-! ### The mailbox registers (R216, R217, R227, R228) -/

/-- The write comes from the owner; else it is discarded and NOTOWN set (R227). -/
def ownerOnly (s : State) (p : Nat) (f : State → State) : State :=
  if s.rd Reg.MBX_OWNER_PATH = p then f s else s.raise Reg.MBX_ERR_NOTOWN

/-- A doorbell value (R217). -/
def doorbell (s : State) (p pi : Nat) : State :=
  ownerOnly s p fun s =>
    if 256 < (pi % 2 ^ 32 + 2 ^ 32 - s.rd Reg.MBX_CMDCI) % 2 ^ 32 then s.raise Reg.MBX_ERR_DBBAD else s.wr Reg.MBX_CMDPI pi

/-- PI and CI of a ring. -/
def ringRegs : Ring → Fld × Fld
  | .rsp => (Reg.MBX_RSPPI, Reg.MBX_RSPCI)
  | .rpt => (Reg.MBX_RPTPI, Reg.MBX_RPTCI)
  | .ev => (Reg.MBX_EVPI, Reg.MBX_EVCI)

/-- A CI value (R216): slots are released, and reports that wait take them (R495). -/
def ringRelease (s : State) (p : Nat) (r : Ring) (c : Nat) : State :=
  ownerOnly s p fun s =>
    let (pi, ci) := ringRegs r
    if unread s pi ci < (c % 2 ^ 32 + 2 ^ 32 - s.rd ci) % 2 ^ 32 then s.raise Reg.MBX_ERR_CIBAD
    else
      let s := s.wr ci c
      if r = .rpt then rptDrain s.mbx.ovfl.length s else s

/-- A write to MBX_OWNER (R228). -/
def ownerWrite (s : State) (v : Nat) : State := if v % 8 < 5 then s.wr Reg.MBX_OWNER_PATH v else s

/-- A write to a register of a group whose writes do more than their access types say, or to any other register. -/
def regArray (off v : Nat) (hw : Option Nat) (s : State) : State :=
  match idx (Reg.ARB_WGT_W 0).off 4 8 off with
  | some n => s.wr (Reg.ARB_WGT_W n) (min 1024 (v % 2048))
  | none => match idx (Reg.OUT_RBMIS_MIS 0).off 4 2 off with
  | some k => rbmisClear s k v (hw.getD 0 % (if k = 0 then 2 ^ 32 else 256))
  | none => match idx (Reg.OUT_LPSET_SET 0).off 16 8 off with
  | some n => loopSet s n v
  | none => match idx (Reg.OUT_LPSTAT_OPEN 0).off 16 8 off with
  | some n => if v % 2 = 1 then loopClear s n hw.isSome else s
  | none => match idx (Reg.TB_CMP_TLO_TGT_LO 0).off 16 32 off with
  | some n => writeTarget s n false v hw.isSome
  | none => match idx (Reg.TB_CMP_THI_TGT_HI 0).off 16 32 off with
  | some n => writeTarget s n true v hw.isSome
  | none => match idx (Reg.TB_CMP_CTL_ARM 0).off 16 32 off with
  | some n =>
    if 4 ≤ n then s
    else
      let s := ((fieldsAt off).filter fun f => f.acc = .w1c).foldl (fun t f => fldWrite t v none f) s
      if v % 2 = 1 then armUnit s n
      else if hw.isSome && s.rd (Reg.TB_CMP_CTL_ARM n) = 1 then cmpFire s n
      else s
  | none => match idx (Reg.UPD_RBUF_DATA 0).off 4 4096 off with
  | some i => if s.rd Reg.UPD_STAT_RCV = 1 then s.setUpd { s.upd with rbuf := Mem.writeList 0 s.upd.rbuf (4 * i) (le 4 v) } else s
  | none => (fieldsAt off).foldl (fun t f => fldWrite t v hw f) s

/-- Mark a software write to an RWH field that the hardware has overridden (Table HOST-4). -/
def lostUpd (s : State) (b : Nat) (hw : Option Nat) : State := if hw.isSome then s.raise (Reg.CMN_LOST_UPD b) else s

/-- A write of `v` to the register at `off` from path `p`, once path and domain allow it. -/
def regEffect (p off v : Nat) (hw : Option Nat) (s : State) : State :=
  if isCmn off then fldWrite s v hw ⟨Reg.CMN_LOST_UPD (off / 0x10000), .w1c, .none, true, 0⟩
  else if off = Reg.TB_INC_NS_NS.off then lostUpd (writeIncNs s v) 2 hw
  else if off = Reg.TB_INC_FR_FR.off then lostUpd (writeIncFr s v) 2 hw
  else if off = Reg.TB_ADJ_ADJ.off then addAdj s (toS 32 v) hw.isSome
  else if off = Reg.RTC_CTL_HALT.off then writeRtcCtl s v hw
  else if off = Reg.UPD_RCMD_GO.off then writeRcmd s v
  else if off = Reg.ARB_CTL_NTH.off then s.wr Reg.ARB_CTL_NTH (clamp 4 64 (v % 128))
  else if off = Reg.HBR_LKCTL_ACQ.off then
    let s := if v % 2 = 1 then lockAcquire s else s
    if v / 2 % 2 = 1 then lockRelease s 0 else s
  else if off = Reg.MBX_CMDPI.off then doorbell s p v
  else if off = Reg.MBX_RSPCI.off then ringRelease s p .rsp v
  else if off = Reg.MBX_RPTCI.off then ringRelease s p .rpt v
  else if off = Reg.MBX_EVCI.off then ringRelease s p .ev v
  else if off = Reg.MBX_OWNER_PATH.off then ownerWrite s v
  else regArray off v hw s

/-- Count an access to BAR0 that is not a 32-bit access aligned to 4 bytes (R205), while the host bridge runs. -/
def badSize (s : State) (p : Nat) : State := if pathOpen s p && s.runs 1 then s.inc Reg.HBR_CNT1_SIZE else s

/-- A host write to BAR0 (R205, R206, R249). -/
def regWrite (s : State) (p off v : Nat) (hw : Option Nat) : State :=
  if off % 4 != 0 then badSize s p
  else if 0x14FFFF < off then s
  else hostWrite s p (off / 0x10000) (regEffect p off v hw)

/-! ### The rows -/

/-- REGISTER_WRITE (R207, R249). -/
def execRegisterWrite (path off : Nat) (val : Word) (hw : Option Nat) (s : State) : Host.Outcome State Fault Refusal :=
  done s (regWrite s path off val.toNat hw)

/-- BAR0_BAD_SIZE_ACCESS (R205), over PCIe. -/
def execBar0BadSizeAccess (write : Bool) (s : State) : Host.Outcome State Fault Refusal :=
  done s <|
    let s := badSize s 0
    if write || !pathOpen s 0 then s else { s with mbx := { s.mbx with lastRead := some 0xFFFFFFFF } }

/-- REGISTER_READ_TIMEOUT (R239): a register-class read behind the host bridge, of a block of BAR0, of BAR2 or of a BAR4 window, completes
with ones. The read that holds the near read channel leaves the far queue. -/
def execRegisterReadTimeout (space off : Nat) (s : State) : Host.Outcome State Fault Refusal :=
  done s <|
    if !s.runs 1 then s
    else if space = 0 then
      if 20 < off / 0x10000 || blockDom (off / 0x10000) = 0 then s
      else { s with mbx := { s.mbx with lastRead := some 0xFFFFFFFF } }.inc Reg.HBR_CNT0_RDTO
    else
      let s := s.inc Reg.HBR_CNT0_RDTO
      match (s.side 0).chan with
      | some r => if space = 4 then readEnds s 0 r (List.replicate r.len 0xFF) else s
      | none => { s with mbx := { s.mbx with lastRead := some 0xFFFFFFFF } }

/-- MBX_CI_WRITE (R216, R227, R495). -/
def execMbxCiWrite (path : Nat) (ring : Ring) (ci : Nat) (s : State) : Host.Outcome State Fault Refusal :=
  done s <| hostWrite s path 20 fun s => ringRelease s path ring ci

/-- MBX_OWNER_WRITE (R228). -/
def execMbxOwnerWrite (path : Nat) (val : Word) (s : State) : Host.Outcome State Fault Refusal :=
  done s <| hostWrite s path 20 fun s => ownerWrite s val.toNat

/-- MBX_CMDPI_DOORBELL (R217, R227): `slots` are the command slots that the host has written from its PI on. -/
def execMbxCmdpiDoorbell (path pi : Nat) (slots : List CmdSlot) (s : State) : Host.Outcome State Fault Refusal :=
  done s <| hostWrite s path 20 fun s =>
    let at_ := s.rd Reg.MBX_CMDPI
    let cmds := (slots.take 256).zipIdx.foldl (fun (m : KMap CmdSlot) c => m.set ((at_ + c.2) % 256) c.1) s.mbx.cmds
    doorbell { s with mbx := { s.mbx with cmds := cmds } } path pi

/-! ### Consuming commands (R218 to R222) -/

/-- The codes that the chapters define. -/
def codes : List Nat :=
  [0x0101, 0x0110, 0x0201, 0x0202, 0x0203, 0x0204, 0x0205, 0x0207, 0x0210, 0x0211, 0x0212, 0x0213, 0x0214, 0x0215] ++
  [0x0220, 0x0221, 0x0222, 0x0223, 0x0224, 0x0225, 0x0301, 0x0302, 0x0401, 0x0402, 0x0403] ++
  [0x0501, 0x0502, 0x0503, 0x0504, 0x0505, 0x0506, 0x0507, 0x0601, 0x0602, 0x0603, 0x0604, 0x0605, 0x0606] ++
  [0x0701, 0x0702, 0x0703, 0x0704, 0x0705, 0x0706, 0x0801, 0x0802, 0x0803, 0x0804, 0x0805, 0x0901, 0x0902, 0x0903, 0x0904] ++
  [0x0A01, 0x0A02, 0x0A03, 0x0A04, 0x0A05, 0x0A06, 0x0A07, 0x0B01, 0x0B02, 0x0B03, 0x0B04] ++
  [0x0C01, 0x0C02, 0x0C03, 0x0C04, 0x0C05, 0x0D01, 0x0D02, 0x0D03, 0x0D04]

/-- COMMAND_CONSUME (R218, R219, R221): the next slot is taken with a response slot reserved. A bad envelope and an unknown code are
answered; any other command executes as its own row, with the parameters that its PAYLOAD spells. -/
def execCommandConsume (s : State) : Host.Outcome State Fault Refusal :=
  done s <|
    let ci := s.rd Reg.MBX_CMDCI
    if !s.canTake || s.rd Reg.MBX_CMDPI = ci then s
    else
      let c := s.mbx.cmds.getD (ci % 256) ⟨0, 0, 0, 0, 0, []⟩
      let s := { s with mbx := { s.mbx with prog := s.mbx.prog ++ [(c.code, c.tag)] } }.wr Reg.MBX_CMDCI (ci + 1)
      if c.ever != 1 || 248 < c.plen || c.flags != 0 then s.respond c.code c.tag St.BAD_ENVELOPE []
      else if !codes.contains c.code then s.respond c.code c.tag St.UNKNOWN []
      else { s with mbx := { s.mbx with held := s.mbx.held ++ [(c.code, c.tag)] } }

end Sys2Proof.Machine
end

