-- ==== Sys2Proof/Machine/Tunnel.lean ====
section
/-! DEFINITION. The rings as bytes of BAR2, and the host tunnel (R229 to R232, 04_host_registers.md). -/
namespace Sys2Proof.Machine

/-- Change the host bridge. -/
def State.setHbr (s : State) (h : Hbr) : State := { s with hbr := h }

/-! ### BAR2: the rings as bytes (Tables HOST-5 to HOST-7, R223) -/

/-- The bytes of a command slot. -/
def slotBytes (c : CmdSlot) : List Byte :=
  pack [(2, c.code), (2, c.tag), (2, c.plen), (1, c.flags), (1, c.ever)] ++ padTo 248 0 c.payload

/-- The slot that 256 bytes spell. -/
def slotOfBytes (b : List Byte) : CmdSlot :=
  let num (at_ n : Nat) : Nat := fromLe ((b.drop at_).take n)
  ⟨num 0 2, num 2 2, num 4 2, num 6 1, num 7 1, b.drop 8⟩

/-- An empty command slot. -/
def noSlot : CmdSlot := ⟨0, 0, 0, 0, 0, []⟩

/-- The bytes of a response. -/
def respBytes (r : Resp) : List Byte :=
  padTo 256 0 (pack [(2, r.code), (2, r.tag), (2, r.payload.length), (1, r.status), (1, 1), (8, r.done)] ++ r.payload)

/-- The bytes of a report. -/
def reportBytes (r : Report) : List Byte :=
  padTo 64 0 (pack [(2, r.kind), (1, r.body.length), (1, 0), (4, r.rseq)] ++ r.body)

/-- A byte of BAR2. -/
def bar2Byte (s : State) (a : Nat) : Byte :=
  if a < 0x10000 then (slotBytes (s.mbx.cmds.getD (a / 256) noSlot)).getD (a % 256) 0
  else if a < 0x20000 then ((s.mbx.rsps.get? ((a - 0x10000) / 256)).map fun r => (respBytes r).getD (a % 256) 0).getD 0
  else if 0x100000 ≤ a && a < 0x500000 then
    ((s.mbx.rpts.get? ((a - 0x100000) / 64)).map fun r => (reportBytes r).getD (a % 64) 0).getD 0
  else if 0x500000 ≤ a && a < 0x580000 then ((s.mbx.evs.get? ((a - 0x500000) / 32)).map fun r => (recBytes r).getD (a % 32) 0).getD 0
  else 0

/-- Write a byte of BAR2: only command slots take it. -/
def bar2Put (s : State) (a : Nat) (b : Byte) : State :=
  if 0x10000 ≤ a then s
  else
    let c := (slotBytes (s.mbx.cmds.getD (a / 256) noSlot)).set (a % 256) b
    { s with mbx := { s.mbx with cmds := s.mbx.cmds.set (a / 256) (slotOfBytes c) } }

/-! ### The tunnel (R229 to R232) -/

/-- The record is one of Table HOST-11. -/
def recWellFormed (r : TunRec) : Bool :=
  let small := r.op = 1 || r.op = 2
  within 1 4 r.op && (r.space = 0 || r.space = 2 || r.space = 4) &&
  (if small then r.len = 4 else within 4 1024 r.len && r.len % 4 = 0) &&
  (if r.op % 2 = 0 then r.data.length = r.len else true)

/-- A record on BAR0: only 32-bit accesses aligned to 4 bytes (R205). DESIGN CHOICE (log entry 85): a bulk OP on BAR0 is none, even with LEN
4. -/
def tunBar0 (s : State) (p : Nat) (r : TunRec) : State × Nat × List Byte :=
  if 2 < r.op || r.addr % 4 != 0 then (s.inc Reg.HBR_CNT1_SIZE, 5, [])
  else if 0x1000000 ≤ r.addr then (s, 3, [])
  else if 0x14FFFF < r.addr then (s, 0, if r.op = 1 then zeros 4 else [])
  else if !blockRuns s (r.addr / 0x10000) then (s, 2, [])
  else if r.op = 1 then
    let (v, t) := regRead s r.addr
    (t, 0, le 4 v)
  else
    let v := fromLe r.data
    let t := regWrite s p r.addr v none
    if !pathMay s p (r.addr / 0x10000) then (t, 1, [])
    else if r.addr = Reg.HBR_LKCTL_REL.off && v / 2 % 2 = 1 && (s.side 0).lock.isNone && s.rd Reg.HBR_LKCTL_STATE = 3 then (t, 4, [])
    else (t, 0, [])

/-- A record on BAR2. -/
def tunBar2 (s : State) (r : TunRec) : State × Nat × List Byte :=
  if 0x4000000 < r.addr + r.len then (s, 3, [])
  else if r.op % 2 = 1 then (s, 0, (List.range r.len).map fun i => bar2Byte s (r.addr + i))
  else (r.data.zipIdx.foldl (fun s b => bar2Put s (r.addr + b.2) b.1) s, 0, [])

/-- A record on BAR4. -/
def tunBar4 (s : State) (p : Nat) (r : TunRec) : State × Nat × List Byte :=
  let n := r.addr / 0x2000000
  let a := r.addr % 0x2000000
  if 8 ≤ n then (s, 3, [])
  else
    let v := winVerdict s p n a r.len (r.op % 2 = 0)
    if v = 1 then (sideRefuse s 0 p n v, 1, [])
    else if v = 2 then (sideRefuse s 0 p n v, 3, [])
    else if r.op % 2 = 1 then (s, 0, winRead s n a r.len)
    else (sideAccess s 0 p n a r.len (some r.data), 0, [])

/-- Execute one record (R232); a read that is not OK carries ones. -/
def tunRecord (s : State) (p : Nat) (r : TunRec) : State × TunReply :=
  let (t, st, d) :=
    if !recWellFormed r then (s, 5, [])
    else if r.space = 0 then tunBar0 s p r
    else if r.space = 2 then tunBar2 s r
    else tunBar4 s p r
  let d := if r.op % 2 = 0 then [] else if st = 0 then d else List.replicate r.len 0xFF
  (t, ⟨r.op, st, r.len, r.addr, d⟩)

/-- The key of a chuck slot as 32 bytes, the highest first (log entry 91). -/
def slotKey (s : State) (k : Nat) : List Byte := be 32 (((s.key.slots.get? k).map (·.key)).getD 0)

/-- A request before its MAC (Tables HOST-10 and HOST-11). -/
def requestBytes (q : TunReq) : List Byte :=
  pack [(1, q.ver), (1, q.tslot), (2, q.recs.length), (8, q.tseq), (4, 0)] ++
    q.recs.flatMap fun r => pack [(1, r.op), (1, r.space), (2, r.len), (4, r.addr)] ++ r.data

/-- The first check of R229 that a datagram fails, in the rule's order: VER, TSLOT, lengths, fragment, MAC or key, TSEQ. DESIGN CHOICE (log
entry 86): on a slot that has accepted none yet, any TSEQ is new. -/
def tunCheck (s : State) (q : TunReq) : Option Nat :=
  let k := s.rd (Reg.HBR_TUN_KSLOT q.tslot)
  if q.ver != 1 then some 1
  else if 4 ≤ q.tslot || s.rd (Reg.HBR_TUN_EN q.tslot) = 0 then some 2
  else if !q.lensOk || !within 1 64 q.recs.length then some 3
  else if q.fragment then some 4
  else if !keyServes s 4 k 3 .mac || q.mac != hmac (slotKey s k) (requestBytes q) then some 5
  else if q.tseq ≤ s.hbr.tseq.getD q.tslot 0 && s.hbr.tseq.has q.tslot then some 6
  else none

/-- Discard a datagram (R231). DESIGN CHOICE (log entry 84): one record in each whole spindle second and slot. -/
def tunReject (s : State) (slot chk : Nat) : State :=
  let s := s.inc (if chk = 5 then Reg.HBR_CNT3_TUNMAC else Reg.HBR_CNT3_TUNOTHER)
  if s.hbr.rejAt.get? slot = some s.sec then s
  else (s.setHbr { s.hbr with rejAt := s.hbr.rejAt.set slot s.sec }).event 3 Ev.TUNNEL_REJECT 1 0 [slot, chk]

/-- The bytes of a record of a reply (Table HOST-11). -/
def replyBytes (r : TunReply) : List Byte := pack [(1, r.op), (1, r.rstat), (2, r.len), (4, r.addr)] ++ r.data

/-- The reply datagram to a request (Table HOST-10), with its MAC under the key. -/
def tunReply (q : TunReq) (k : Nat) (key : List Byte) (l : List TunReply) : TunMsg :=
  let b := pack [(1, 0x81), (1, q.tslot), (2, l.length), (8, q.tseq), (4, 0)] ++ l.flatMap replyBytes
  { dst := q.src, port := q.port, kslot := k, tslot := q.tslot, tseq := q.tseq, recs := l, bytes := b, mac := hmac key b }

/-- TUNNEL_DATAGRAM (R211, R229 to R232): TSEQ is kept before the first record executes; each record executes after the previous one has
completed, with the summary counted after each; the reply is formed under the same key. -/
def execTunnelDatagram (req : TunReq) (s : State) : Host.Outcome State Fault Refusal :=
  if !s.runs 1 then done s s
  else match tunCheck s req with
    | some chk => done s (tunReject s req.tslot chk)
    | none =>
      let k := s.rd (Reg.HBR_TUN_KSLOT req.tslot)
      let t := (keyServe s 4 k 3 .mac).1
      let t := t.setHbr { t.hbr with tseq := t.hbr.tseq.set req.tslot req.tseq }
      let r := req.recs.foldl (fun (a : State × List TunReply) q =>
        let (t, y) := tunRecord a.1 (req.tslot + 1) q
        (settle a.1 t, a.2 ++ [y])) (settle s t, [])
      let (t, ok) := keyServe r.1 4 k 3 .mac
      done r.1 (t.setHbr { t.hbr with reply := if ok then some (tunReply req k (slotKey s k) r.2) else none })

end Sys2Proof.Machine
end

