-- ==== Sys2Proof/Machine/Dispatch.lean ====
section
/-! DEFINITION. One arm per command of the block: its meaning, or its rejection by name. -/
namespace Sys2Proof.Machine

def exec (i : Instr) (s : State) : Host.Outcome State Fault Refusal :=
  match i with
  | .coldStart b recoverLow ms => Sys2Proof.Machine.execColdStart b recoverLow ms s
  | .warmRestart cause ms => Sys2Proof.Machine.execWarmRestart cause ms s
  | .bootOk => Sys2Proof.Machine.execBootOk s
  | .bootAttemptTimeout ms => Sys2Proof.Machine.execBootAttemptTimeout ms s
  | .ocxoLost => Sys2Proof.Machine.execOcxoLost s
  | .ocxoRestored ms => Sys2Proof.Machine.execOcxoRestored ms s
  | .domainWatchdogExpiry d ms => Sys2Proof.Machine.execDomainWatchdogExpiry d ms s
  | .stoppedDomainAccess space write off => Sys2Proof.Machine.execStoppedDomainAccess space write off s
  | .kennelWrite n words => Sys2Proof.Machine.execKennelWrite n words s
  | .kennelRead n w => Sys2Proof.Machine.execKennelRead n w s
  | .kennelStallResume n => Sys2Proof.Machine.execKennelStallResume n s
  | .kennelAbandon n => Sys2Proof.Machine.execKennelAbandon n s
  | .kennelWriteStallResume n => Sys2Proof.Machine.execKennelWriteStallResume n s
  | .kennelWriteAbandon n => Sys2Proof.Machine.execKennelWriteAbandon n s
  | .kennelFault n => Sys2Proof.Machine.execKennelFault n s
  | .arbRequest p cycle => Sys2Proof.Machine.execArbRequest p cycle s
  | .arbRequestWithdraw p cycle => Sys2Proof.Machine.execArbRequestWithdraw p cycle s
  | .arbGrant cycle => Sys2Proof.Machine.execArbGrant cycle s
  | .arbWindowStart => Sys2Proof.Machine.execArbWindowStart s
  | .arbRefresh cycle len => Sys2Proof.Machine.execArbRefresh cycle len s
  | .arbCtlWrite path val => Sys2Proof.Machine.execArbCtlWrite path val s
  | .arbWgtWrite path n val => Sys2Proof.Machine.execArbWgtWrite path n val s
  | .arbMaxwRead n wait => Sys2Proof.Machine.execArbMaxwRead n wait s
  | .arbEmptyRead n empty => Sys2Proof.Machine.execArbEmptyRead n empty s
  | .appCoreFailure core reason ms => Sys2Proof.Machine.execAppCoreFailure core reason ms s
  | .memoryBlockFailure cls idx reason => Sys2Proof.Machine.execMemoryBlockFailure cls idx reason s
  | .tallyRead tag first count => Sys2Proof.Machine.execTallyRead tag first count s
  | .hostPerst low => Sys2Proof.Machine.execHostPerst low s
  | .jtagInstruction ir => Sys2Proof.Machine.execJtagInstruction ir s
  | .holdSwitchClose vin vhold => Sys2Proof.Machine.execHoldSwitchClose vin vhold s
  | .quiesceCommit vin vhold => Sys2Proof.Machine.execQuiesceCommit vin vhold s
  | .pwrRideThrough => Sys2Proof.Machine.execPwrRideThrough s
  | .quiesceRestart ms => Sys2Proof.Machine.execQuiesceRestart ms s
  | .busCollapse => Sys2Proof.Machine.execBusCollapse s
  | .vinInputLost b level => Sys2Proof.Machine.execVinInputLost b level s
  | .outputVectorPresent h vec prearm confirmed => Sys2Proof.Machine.execOutputVectorPresent h vec prearm confirmed s
  | .pulseLimitExpiry line => Sys2Proof.Machine.execPulseLimitExpiry line s
  | .readbackMismatch line high => Sys2Proof.Machine.execReadbackMismatch line high s
  | .outRbmisClear path k val hw => Sys2Proof.Machine.execOutRbmisClear path k val hw s
  | .healthyTimeout => Sys2Proof.Machine.execHealthyTimeout s
  | .binaryInputChange n high t => Sys2Proof.Machine.execBinaryInputChange n high t s
  | .loopComplianceLoss n delivered => Sys2Proof.Machine.execLoopComplianceLoss n delivered s
  | .loopComplianceClear path n val lost => Sys2Proof.Machine.execLoopComplianceClear path n val lost s
  | .loopSetpointWrite path n val => Sys2Proof.Machine.execLoopSetpointWrite path n val s
  | .loopOpen n => Sys2Proof.Machine.execLoopOpen n s
  | .loopHoldExpiry n => Sys2Proof.Machine.execLoopHoldExpiry n s
  | .thermalThrottleEntry => Sys2Proof.Machine.execThermalThrottleEntry s
  | .thermalThrottleExit => Sys2Proof.Machine.execThermalThrottleExit s
  | .thermalShutdownEntry => Sys2Proof.Machine.execThermalShutdownEntry s
  | .thermalShutdownExit ms => Sys2Proof.Machine.execThermalShutdownExit ms s
  | .restart tag => Sys2Proof.Machine.execRestart tag s
  | .bootClear tag dev => Sys2Proof.Machine.execBootClear tag dev s
  | .epochDrainLimit kind => Sys2Proof.Machine.execEpochDrainLimit kind s
  | .epochPendingChange kind => Sys2Proof.Machine.execEpochPendingChange kind s
  | .cfgStageOpen tag => Sys2Proof.Machine.execCfgStageOpen tag s
  | .cfgStageCommit tag len mode prob img => Sys2Proof.Machine.execCfgStageCommit tag len mode prob img s
  | .cfgWriteComplete e => Sys2Proof.Machine.execCfgWriteComplete e s
  | .cfgApplyComplete => Sys2Proof.Machine.execCfgApplyComplete s
  | .cfgApplyFailed sec => Sys2Proof.Machine.execCfgApplyFailed sec s
  | .cfgConfirm tag => Sys2Proof.Machine.execCfgConfirm tag s
  | .cfgProbationExpiry => Sys2Proof.Machine.execCfgProbationExpiry s
  | .cfgRollback tag => Sys2Proof.Machine.execCfgRollback tag s
  | .cfgStatus tag => Sys2Proof.Machine.execCfgStatus tag s
  | .bar0BadSizeAccess write => Sys2Proof.Machine.execBar0BadSizeAccess write s
  | .registerWrite path off val hw => Sys2Proof.Machine.execRegisterWrite path off val hw s
  | .heartbeatTick vinA vinB vhold vbak temp volt => Sys2Proof.Machine.execHeartbeatTick vinA vinB vhold vbak temp volt s
  | .mbxCmdpiDoorbell path pi slots => Sys2Proof.Machine.execMbxCmdpiDoorbell path pi slots s
  | .commandConsume => Sys2Proof.Machine.execCommandConsume s
  | .mbxCiWrite path ring ci => Sys2Proof.Machine.execMbxCiWrite path ring ci s
  | .mbxOwnerWrite path val => Sys2Proof.Machine.execMbxOwnerWrite path val s
  | .mbxDropRead ev rpt => Sys2Proof.Machine.execMbxDropRead ev rpt s
  | .tunnelDatagram req => Sys2Proof.Machine.execTunnelDatagram req s
  | .bulkRead side path win off len => Sys2Proof.Machine.execBulkRead side path win off len s
  | .postedWriteFallback side => Sys2Proof.Machine.execPostedWriteFallback side s
  | .readDataOrphan side tag => Sys2Proof.Machine.execReadDataOrphan side tag s
  | .registerReadTimeout space off => Sys2Proof.Machine.execRegisterReadTimeout space off s
  | .lockAcquire side path win line tie => Sys2Proof.Machine.execLockAcquire side path win line tie s
  | .lockRelease side path => Sys2Proof.Machine.execLockRelease side path s
  | .lockAbort side => Sys2Proof.Machine.execLockAbort side s
  | .bar4WindowAccess side path win off write len data => Sys2Proof.Machine.execBar4WindowAccess side path win off write len data s
  | .hbrCntRead k upd => Sys2Proof.Machine.execHbrCntRead k upd s
  | .tbIncNsWrite path val => Sys2Proof.Machine.execTbIncNsWrite path val s
  | .tbNowLoRead => Sys2Proof.Machine.execTbNowLoRead s
  | .tbAdjWrite path val dec => Sys2Proof.Machine.execTbAdjWrite path val dec s
  | .ptpSyncReceived port rx origin corr mpd => Sys2Proof.Machine.execPtpSyncReceived port rx origin corr mpd s
  | .syncTimeout => Sys2Proof.Machine.execSyncTimeout s
  | .holdoverLimitExpiry => Sys2Proof.Machine.execHoldoverLimitExpiry s
  | .netDomainReturn => Sys2Proof.Machine.execNetDomainReturn s
  | .compareFire n => Sys2Proof.Machine.execCompareFire n s
  | .compareTargetWrite path n hi val firing => Sys2Proof.Machine.execCompareTargetWrite path n hi val firing s
  | .compareArm path n firing => Sys2Proof.Machine.execCompareArm path n firing s
  | .ppsInEdge t lowNs => Sys2Proof.Machine.execPpsInEdge t lowNs s
  | .ppsTimeout => Sys2Proof.Machine.execPpsTimeout s
  | .ppsOutSecond => Sys2Proof.Machine.execPpsOutSecond s
  | .rtcTickLoRead sup => Sys2Proof.Machine.execRtcTickLoRead sup s
  | .rtcTickHiRead sup => Sys2Proof.Machine.execRtcTickHiRead sup s
  | .rtcHalt path releasing => Sys2Proof.Machine.execRtcHalt path releasing s
  | .rtcRelease path => Sys2Proof.Machine.execRtcRelease path s
  | .rtcArm path => Sys2Proof.Machine.execRtcArm path s
  | .rtcOsf => Sys2Proof.Machine.execRtcOsf s
  | .rtcEpochReanchor => Sys2Proof.Machine.execRtcEpochReanchor s
  | .opsecTick => Sys2Proof.Machine.execOpsecTick s
  | .opsecSave => Sys2Proof.Machine.execOpsecSave s
  | .leapSecond => Sys2Proof.Machine.execLeapSecond s
  | .tzWarn => Sys2Proof.Machine.execTzWarn s
  | .timeStatus tag => Sys2Proof.Machine.execTimeStatus tag s
  | .timeSet tag tai mode => Sys2Proof.Machine.execTimeSet tag tai mode s
  | .timeSetPpsTimeout => Sys2Proof.Machine.execTimeSetPpsTimeout s
  | .rxChainFail chain => Sys2Proof.Machine.execRxChainFail chain s
  | .engineFailure e reason => Sys2Proof.Machine.execEngineFailure e reason s
  | .spareEngineFailure e reason => Sys2Proof.Machine.execSpareEngineFailure e reason s
  | .ccmSelfTest k ok => Sys2Proof.Machine.execCcmSelfTest k ok s
  | .transmitRequest chan cls earliest latest frames => Sys2Proof.Machine.execTransmitRequest chan cls earliest latest frames s
  | .txSchedulerStep now => Sys2Proof.Machine.execTxSchedulerStep now s
  | .transmitEnd id => Sys2Proof.Machine.execTransmitEnd id s
  | .loUnlock => Sys2Proof.Machine.execLoUnlock s
  | .loSettled now => Sys2Proof.Machine.execLoSettled now s
  | .calibrationDue now => Sys2Proof.Machine.execCalibrationDue now s
  | .calNow tag => Sys2Proof.Machine.execCalNow tag s
  | .calibrationStart now => Sys2Proof.Machine.execCalibrationStart now s
  | .calibrationEnd now ok0 ok1 => Sys2Proof.Machine.execCalibrationEnd now ok0 ok1 s
  | .radStatus tag => Sys2Proof.Machine.execRadStatus tag s
  | .chanState tag first count => Sys2Proof.Machine.execChanState tag first count s
  | .radCntRead k upd => Sys2Proof.Machine.execRadCntRead k upd s
  | .packAirRead k upd => Sys2Proof.Machine.execPackAirRead k upd s
  | .barkReceived f b => Sys2Proof.Machine.execBarkReceived f b s
  | .ackReceived a => Sys2Proof.Machine.execAckReceived a s
  | .ackTimeout ln t => Sys2Proof.Machine.execAckTimeout ln t s
  | .ccaEnd id clear t => Sys2Proof.Machine.execCcaEnd id clear t s
  | .replayCounterSave => Sys2Proof.Machine.execReplayCounterSave s
  | .howlCopyHeard f msgid => Sys2Proof.Machine.execHowlCopyHeard f msgid s
  | .uplinkStatus f level lamp faults => Sys2Proof.Machine.execUplinkStatus f level lamp faults s
  | .uplinkEnergy f ewh power burn => Sys2Proof.Machine.execUplinkEnergy f ewh power burn s
  | .uplinkFault f cls raised detail tn => Sys2Proof.Machine.execUplinkFault f cls raised detail tn s
  | .uplinkUvolt f u => Sys2Proof.Machine.execUplinkUvolt f u s
  | .uplinkTraffic f tn kind dir speed => Sys2Proof.Machine.execUplinkTraffic f tn kind dir speed s
  | .uplinkResp f htag op status => Sys2Proof.Machine.execUplinkResp f htag op status s
  | .uplinkLampbusAns f htag body => Sys2Proof.Machine.execUplinkLampbusAns f htag body s
  | .uplinkMakerData f op body => Sys2Proof.Machine.execUplinkMakerData f op body s
  | .uplinkRouteErr f body => Sys2Proof.Machine.execUplinkRouteErr f body s
  | .uplinkNbNack f nack => Sys2Proof.Machine.execUplinkNbNack f nack s
  | .rosterPut tag recs => Sys2Proof.Machine.execRosterPut tag recs s
  | .rosterDel tag lns => Sys2Proof.Machine.execRosterDel tag lns s
  | .rosterGet tag ln => Sys2Proof.Machine.execRosterGet tag ln s
  | .nodeState tag ln => Sys2Proof.Machine.execNodeState tag ln s
  | .nodeSend tag ln deadline op body => Sys2Proof.Machine.execNodeSend tag ln deadline op body s
  | .howlSend tag scope group ttl deadline op body => Sys2Proof.Machine.execHowlSend tag scope group ttl deadline op body s
  | .nodeFlush tag ln => Sys2Proof.Machine.execNodeFlush tag ln s
  | .howlWindow w => Sys2Proof.Machine.execHowlWindow w s
  | .howlDone msgid => Sys2Proof.Machine.execHowlDone msgid s
  | .e2eTimeout ln t => Sys2Proof.Machine.execE2eTimeout ln t s
  | .deadlineExpiry ln t => Sys2Proof.Machine.execDeadlineExpiry ln t s
  | .retryTimerExpiry ln t => Sys2Proof.Machine.execRetryTimerExpiry ln t s
  | .lntCntRead k upd => Sys2Proof.Machine.execLntCntRead k upd s
  | .lightingDayEnd day => Sys2Proof.Machine.execLightingDayEnd day s
  | .luxOverride tag kind id level ramp dur => Sys2Proof.Machine.execLuxOverride tag kind id level ramp dur s
  | .luxRelease tag ovid => Sys2Proof.Machine.execLuxRelease tag ovid s
  | .luxState tag ln => Sys2Proof.Machine.execLuxState tag ln s
  | .feederState tag feeder => Sys2Proof.Machine.execFeederState tag feeder s
  | .faultList tag first count => Sys2Proof.Machine.execFaultList tag first count s
  | .energyGet tag ln => Sys2Proof.Machine.execEnergyGet tag ln s
  | .overrideRenewal ovid => Sys2Proof.Machine.execOverrideRenewal ovid s
  | .overrideExpiry ovid => Sys2Proof.Machine.execOverrideExpiry ovid s
  | .commsLost ln => Sys2Proof.Machine.execCommsLost ln s
  | .feederNoticeReceived n => Sys2Proof.Machine.execFeederNoticeReceived n s
  | .recloseForecastReceived n => Sys2Proof.Machine.execRecloseForecastReceived n s
  | .kennelDropDetected k => Sys2Proof.Machine.execKennelDropDetected k s
  | .graceExpiry feeder => Sys2Proof.Machine.execGraceExpiry feeder s
  | .batchRelease feeder t => Sys2Proof.Machine.execBatchRelease feeder t s
  | .appDomainReturn => Sys2Proof.Machine.execAppDomainReturn s
  | .uvSummary feeder => Sys2Proof.Machine.execUvSummary feeder s
  | .linkUp port => Sys2Proof.Machine.execLinkUp port s
  | .linkDown port pcs los => Sys2Proof.Machine.execLinkDown port pcs los s
  | .switchFrameReceived f bad => Sys2Proof.Machine.execSwitchFrameReceived f bad s
  | .parityRestore table idx => Sys2Proof.Machine.execParityRestore table idx s
  | .macEntryAgeOut cursor => Sys2Proof.Machine.execMacEntryAgeOut cursor s
  | .fwdSearch tag table key => Sys2Proof.Machine.execFwdSearch tag table key s
  | .fwdNext tag table cursor mx => Sys2Proof.Machine.execFwdNext tag table cursor mx s
  | .fwdAdd tag table ent => Sys2Proof.Machine.execFwdAdd tag table ent s
  | .fwdDel tag table key => Sys2Proof.Machine.execFwdDel tag table key s
  | .fwdFlush tag port vid => Sys2Proof.Machine.execFwdFlush tag port vid s
  | .flushSweepDone port => Sys2Proof.Machine.execFlushSweepDone port s
  | .subStatus tag kind idx => Sys2Proof.Machine.execSubStatus tag kind idx s
  | .fwdCntRead k upd => Sys2Proof.Machine.execFwdCntRead k upd s
  | .svAsduReceived a badCopies => Sys2Proof.Machine.execSvAsduReceived a badCopies s
  | .svFrameEnd frame result bytes => Sys2Proof.Machine.execSvFrameEnd frame result bytes s
  | .svStreamLost sub => Sys2Proof.Machine.execSvStreamLost sub s
  | .gooseFrameReceived m badCopies => Sys2Proof.Machine.execGooseFrameReceived m badCopies s
  | .gooseLost sub => Sys2Proof.Machine.execGooseLost sub s
  | .halfSampleDelivered h x => Sys2Proof.Machine.execHalfSampleDelivered h x s
  | .halfVerdict h stream smp deliv result => Sys2Proof.Machine.execHalfVerdict h stream smp deliv result s
  | .halfHmacDone h sub deliv ok => Sys2Proof.Machine.execHalfHmacDone h sub deliv ok s
  | .passDue h => Sys2Proof.Machine.execPassDue h s
  | .passEnd h outs durUs imp => Sys2Proof.Machine.execPassEnd h outs durUs imp s
  | .provisionalExpiry h k => Sys2Proof.Machine.execProvisionalExpiry h k s
  | .reevaluation h k outs fits => Sys2Proof.Machine.execReevaluation h k outs fits s
  | .gooseRetransmit h pub => Sys2Proof.Machine.execGooseRetransmit h pub s
  | .backupOcPickup e ch bits => Sys2Proof.Machine.execBackupOcPickup e ch bits s
  | .backupOcTrip e ch => Sys2Proof.Machine.execBackupOcTrip e ch s
  | .backupOcDropout e => Sys2Proof.Machine.execBackupOcDropout e s
  | .backupOcHoldExpiry e => Sys2Proof.Machine.execBackupOcHoldExpiry e s
  | .halfUvoltReceived h ln t vres lost => Sys2Proof.Machine.execHalfUvoltReceived h ln t vres lost s
  | .flocLocate h feeder => Sys2Proof.Machine.execFlocLocate h feeder s
  | .outputWearRemap line => Sys2Proof.Machine.execOutputWearRemap line s
  | .protStatus tag h => Sys2Proof.Machine.execProtStatus tag h s
  | .instStatus tag h inst => Sys2Proof.Machine.execInstStatus tag h inst s
  | .protReset tag => Sys2Proof.Machine.execProtReset tag s
  | .instBlock tag inst on => Sys2Proof.Machine.execInstBlock tag inst on s
  | .flocGet tag feeder => Sys2Proof.Machine.execFlocGet tag feeder s
  | .prxCntRead h k upd => Sys2Proof.Machine.execPrxCntRead h k upd s
  | .vecReceived h v => Sys2Proof.Machine.execVecReceived h v s
  | .statePacketReceived h => Sys2Proof.Machine.execStatePacketReceived h s
  | .agwaitExpiry k => Sys2Proof.Machine.execAgwaitExpiry k s
  | .livewinExpiry k => Sys2Proof.Machine.execLivewinExpiry k s
  | .brcTransfer tag => Sys2Proof.Machine.execBrcTransfer tag s
  | .transferTimeout => Sys2Proof.Machine.execTransferTimeout s
  | .brcResync tag h => Sys2Proof.Machine.execBrcResync tag h s
  | .brcStatus tag => Sys2Proof.Machine.execBrcStatus tag s
  | .partnerYield tag => Sys2Proof.Machine.execPartnerYield tag s
  | .halfRejoinStart h => Sys2Proof.Machine.execHalfRejoinStart h s
  | .rejoinComplete h k => Sys2Proof.Machine.execRejoinComplete h k s
  | .protectionCoreFailure h core reason ms => Sys2Proof.Machine.execProtectionCoreFailure h core reason ms s
  | .lshInLowDebounce => Sys2Proof.Machine.execLshInLowDebounce s
  | .lshTieSample high => Sys2Proof.Machine.execLshTieSample high s
  | .partnerFrameSend => Sys2Proof.Machine.execPartnerFrameSend s
  | .partnerFrameReceived f => Sys2Proof.Machine.execPartnerFrameReceived f s
  | .partnerLost => Sys2Proof.Machine.execPartnerLost s
  | .partnerSeqSave => Sys2Proof.Machine.execPartnerSeqSave s
  | .handoverLoadDone k => Sys2Proof.Machine.execHandoverLoadDone k s
  | .handoverWarmExpiry => Sys2Proof.Machine.execHandoverWarmExpiry s
  | .handoverWaitTimeout => Sys2Proof.Machine.execHandoverWaitTimeout s
  | .luxResultCompare task id again a b => Sys2Proof.Machine.execLuxResultCompare task id again a b s
  | .brcCntRead k upd => Sys2Proof.Machine.execBrcCntRead k upd s
  | .modRunStart ch run => Sys2Proof.Machine.execModRunStart ch run s
  | .mtrChannelStuck ch => Sys2Proof.Machine.execMtrChannelStuck ch s
  | .meterWindowEnd dur freq spans => Sys2Proof.Machine.execMeterWindowEnd dur freq spans s
  | .meterSave => Sys2Proof.Machine.execMeterSave s
  | .meterIntervalEnd => Sys2Proof.Machine.execMeterIntervalEnd s
  | .supraWindowEnd spans => Sys2Proof.Machine.execSupraWindowEnd spans s
  | .meterProtSample k spans => Sys2Proof.Machine.execMeterProtSample k spans s
  | .mtrRead tag circ => Sys2Proof.Machine.execMtrRead tag circ s
  | .mtrValues tag mp intv => Sys2Proof.Machine.execMtrValues tag mp intv s
  | .mtrHarm tag mp ch intv => Sys2Proof.Machine.execMtrHarm tag mp ch intv s
  | .mtrSupra tag mp ch intv first count => Sys2Proof.Machine.execMtrSupra tag mp ch intv first count s
  | .mtrCalMeasure tag ch mode refch windows => Sys2Proof.Machine.execMtrCalMeasure tag ch mode refch windows s
  | .mtrCalTrial tag ch ofs gain delay => Sys2Proof.Machine.execMtrCalTrial tag ch ofs gain delay s
  | .mtrSaveNow tag => Sys2Proof.Machine.execMtrSaveNow tag s
  | .mtrCntRead upd => Sys2Proof.Machine.execMtrCntRead upd s
  | .recordPost dom log code inst par => Sys2Proof.Machine.execRecordPost dom log code inst par s
  | .laneEvent code source par => Sys2Proof.Machine.execLaneEvent code source par s
  | .recordCommit => Sys2Proof.Machine.execRecordCommit s
  | .coalesceWindowEnd log code source par0 => Sys2Proof.Machine.execCoalesceWindowEnd log code source par0 s
  | .logAreaSubst log firsts area unreadable => Sys2Proof.Machine.execLogAreaSubst log firsts area unreadable s
  | .logInfo tag log => Sys2Proof.Machine.execLogInfo tag log s
  | .logRead tag log frm count => Sys2Proof.Machine.execLogRead tag log frm count s
  | .logClear tag log upto ccnt sigOk => Sys2Proof.Machine.execLogClear tag log upto ccnt sigOk s
  | .logAppend tag log code par => Sys2Proof.Machine.execLogAppend tag log code par s
  | .evrCntRead upd => Sys2Proof.Machine.execEvrCntRead upd s
  | .archiveSamplePost h sub k => Sys2Proof.Machine.execArchiveSamplePost h sub k s
  | .archiveChunkWrite => Sys2Proof.Machine.execArchiveChunkWrite s
  | .extentSeal no => Sys2Proof.Machine.execExtentSeal no s
  | .arcOnline ms free => Sys2Proof.Machine.execArcOnline ms free s
  | .arcNsFail nsid => Sys2Proof.Machine.execArcNsFail nsid s
  | .distTrigger t cause => Sys2Proof.Machine.execDistTrigger t cause s
  | .distWindow did => Sys2Proof.Machine.execDistWindow did s
  | .tierDownsample no => Sys2Proof.Machine.execTierDownsample no s
  | .arcStatus tag => Sys2Proof.Machine.execArcStatus tag s
  | .arcFetch tag req work => Sys2Proof.Machine.execArcFetch tag req work s
  | .arcMark tag cause => Sys2Proof.Machine.execArcMark tag cause s
  | .arcDistList tag frm count => Sys2Proof.Machine.execArcDistList tag frm count s
  | .arcComtrade tag did stream win wofs maxb => Sys2Proof.Machine.execArcComtrade tag did stream win wofs maxb s
  | .keyRequest dom engine slot alg use => Sys2Proof.Machine.execKeyRequest dom engine slot alg use s
  | .keyUpdate tag win wofs len signers zer => Sys2Proof.Machine.execKeyUpdate tag win wofs len signers zer s
  | .tamperInput zeroise low => Sys2Proof.Machine.execTamperInput zeroise low s
  | .keyZeroise tag confirm => Sys2Proof.Machine.execKeyZeroise tag confirm s
  | .keyStatus tag slot => Sys2Proof.Machine.execKeyStatus tag slot s
  | .keyInfo tag => Sys2Proof.Machine.execKeyInfo tag s
  | .cryptoJobSubmit rt pieces slot => Sys2Proof.Machine.execCryptoJobSubmit rt pieces slot s
  | .cryptoPieceEnd engine => Sys2Proof.Machine.execCryptoPieceEnd engine s
  | .keyCntRead upd => Sys2Proof.Machine.execKeyCntRead upd s
  | .bilStageOpen tag page => Sys2Proof.Machine.execBilStageOpen tag page s
  | .bilStageCheck tag len bil => Sys2Proof.Machine.execBilStageCheck tag len bil s
  | .updCommit tag cfg trial img e => Sys2Proof.Machine.execUpdCommit tag cfg trial img e s
  | .updConfirm tag => Sys2Proof.Machine.execUpdConfirm tag s
  | .updRollback tag => Sys2Proof.Machine.execUpdRollback tag s
  | .updStatus tag => Sys2Proof.Machine.execUpdStatus tag s
  | .trialExpiry => Sys2Proof.Machine.execTrialExpiry s
  | .recoveryRead => Sys2Proof.Machine.execRecoveryRead s
  | .recoveryErase => Sys2Proof.Machine.execRecoveryErase s
  | .recoveryProgram => Sys2Proof.Machine.execRecoveryProgram s
  | .recoveryVerify bil img e => Sys2Proof.Machine.execRecoveryVerify bil img e s
  | .recoveryExit ms => Sys2Proof.Machine.execRecoveryExit ms s
  | .nbLoad tag win wofs len => Sys2Proof.Machine.execNbLoad tag win wofs len s
  | .nbStart tag mode group ttl chgap rehowl rounds nackwin => Sys2Proof.Machine.execNbStart tag mode group ttl chgap rehowl rounds nackwin s
  | .nbAddnodes tag lns => Sys2Proof.Machine.execNbAddnodes tag lns s
  | .nbActivate tag act => Sys2Proof.Machine.execNbActivate tag act s
  | .nbAbort tag => Sys2Proof.Machine.execNbAbort tag s
  | .nbStatus tag => Sys2Proof.Machine.execNbStatus tag s
  | .campaignSlot w => Sys2Proof.Machine.execCampaignSlot w s
  | .campaignQueryEnd => Sys2Proof.Machine.execCampaignQueryEnd s
  | .campaignActQuery => Sys2Proof.Machine.execCampaignActQuery s
  | .ptpAnnounceReceived port ann => Sys2Proof.Machine.execPtpAnnounceReceived port ann s
  | .modAbsChange port absent => Sys2Proof.Machine.execModAbsChange port absent s
  | .stuckClear ch => Sys2Proof.Machine.execStuckClear ch s
  | .tbPpsinLoRead => Sys2Proof.Machine.execTbPpsinLoRead s
  | .tbPpsinHiRead => Sys2Proof.Machine.execTbPpsinHiRead s
  | .leadershipStartWaitExpiry => Sys2Proof.Machine.execLeadershipStartWaitExpiry s

end Sys2Proof.Machine
end

