-- ==== Sys2Proof/Machine/Owners.lean ====
section
/-! DEFINITION. The owners of compare units 4 to 31: what each arms its units for, and what it does when one has fired (R280, R283, Table
TIME-3; 05_time.md). DESIGN CHOICE (log entry 89): Table TIME-3 gives the uses; which unit serves which instant is the model's, and an owner
takes a fire and arms its units at a tick of the spindle. -/
namespace Sys2Proof.Machine

/-- The domain of a unit's owner (Table TIME-3). -/
def ownerDom (n : Nat) : Nat :=
  if n < 12 then 4 else if n < 20 then 1 else if n < 22 then 2 else if n < 24 then 3 else if n < 30 then 1 else 0

/-- The earliest of some times that lies after now. -/
def soonest (s : State) (l : List Nat) : Option Nat :=
  l.foldl (fun b t => if t ≤ s.now then b else some (match b with
    | some u => min u t
    | none => t)) none

/-- The instant that the owner of unit `n` waits for: 4 to 11 the launches of pending requests in order, 12 the next schedule step, 13 the
end of an override's HOLD, 14 the end of a wave, 24 the end of the harmonic window, 25 of the 10 min interval, 26 the next save, 28 the
age at which an extent leaves tier 0, 30 the next capture for the RTC epoch. -/
def ownerTarget (s : State) (n : Nat) : Option Nat :=
  match n with
  | 12 => nextStep s
  | 13 => soonest s (s.lux.ovr.vals.map (·.hold))
  | 14 => soonest s (s.lnt.nodes.vals.filterMap fun d => d.lux.wave.map (·.2))
  | 24 => if backEnd s then some (s.mtr.lastWin + 200000000) else none
  | 25 => if backEnd s then some ((s.now / 600000000000 + 1) * 600000000000) else none
  | 26 => if backEnd s then some (s.mtr.lastSave + (sec0A s).saveper * 1000000000) else none
  | 28 => (sec0C s).bind fun c => soonest s ((s.arc.extents.filter fun e => e.tier = 0 && e.cls = 0 && e.isSealed).map fun e =>
      e.tlast + c.fullYrs * 15778800 * 1000000000)
  | 30 => if s.tb.q = 4 then some (s.tb.rtcEpoch.tai + 3600000000000) else none
  | _ => if n < 12 then ((sortBy (fun a b => decide (a < b)) (s.rad.pend.map (·.earliest))).filter (s.now < ·))[n - 4]? else none

/-- What an owner does at a fire: the scheduler takes its due requests, the lighting engine the step of an apply that waits, the supervisor
re-anchors the epoch (R308). What a boundary of metering or of the archive brings is in the rows of those boundaries. -/
def ownerTakes (s : State) (n : Nat) : State :=
  if n < 12 then (if s.runs 4 then schedule s s.now else s)
  else if n = 12 then (if s.runs 1 then luxDue s else s)
  else if n = 30 && s.tb.q = 4 && s.tb.rtcEpoch.tai + 3600000000000 ≤ s.now then anchor s
  else s

/-- The owner of unit `n` arms it, no more than 1.5 days ahead (R279). -/
def ownerArm (s : State) (n : Nat) : State :=
  if !s.runs (ownerDom n) || s.rd (Reg.TB_CMP_CTL_ARM n) = 1 then s
  else match ownerTarget s n with
    | none => s
    | some t =>
      let v := min t (s.now + 129600000000000) % 2 ^ 48
      s.wrs [(Reg.TB_CMP_TLO_TGT_LO n, v % 2 ^ 32), (Reg.TB_CMP_THI_TGT_HI n, v / 2 ^ 32), (Reg.TB_CMP_CTL_ARM n, 1)]

/-- The owners' part of a tick, while NET runs: the fires are taken, and the units that are disarmed are armed again. -/
def ownersTick (s : State) : State :=
  if !s.runs 5 then s
  else
    let l := s.tb.fires
    let s := l.foldl ownerTakes (s.setTb { s.tb with fires := [] })
    ((List.range 28).map (· + 4)).foldl ownerArm s

end Sys2Proof.Machine
end

