-- ==== Sys2Proof/Machine/Step.lean ====
section
/-! DEFINITION. One step of the block: the command at the front of its queue, or, with no command waiting, one tick of the spindle
clock. -/
namespace Sys2Proof.Machine

/-- What the block does with no command waiting. DESIGN CHOICE (log entry 1): while the supervisor runs, a tick of 2.5 ns of the
always-on clock passes, and with it, while the OCXO drives the spindle, one of the spindle (R254, R255, R260), and the
bulk-class reads that are outstanding return their data (R235) and the owners of compare units take their fires and arm them (R280, R283);
nothing else happens of itself. -/
def idle (s : State) : State :=
  if s.dom 0 != 2 then s
  else
    let s := { s with pwr := { s.pwr with ticks := s.pwr.ticks + 1 } }
    if s.rd Reg.SUP_DOMSTAT_OCXO_LOST = 1 || s.pwr.quiesced then s else ownersTick (collect (spindleTick s))

/-- One step. -/
def step (s : State) : Host.Outcome State Fault Refusal :=
  match s.pending with
  | [] => done s (idle s)
  | c :: rest => exec c { s with pending := rest }

/-- `s` with the command that a word spells at the front of its queue; no word spells one. -/
def State.withFetchWord (s : State) (nbits w : Nat) : State :=
  match decodeTableWord nbits w with
  | some c => { s with pending := c :: s.pending }
  | none => s

end Sys2Proof.Machine
end

