-- ==== Sys2Proof/Safety.lean ====
section
/-! DEFINITION. What a safe run is, and the terms in which the statements speak: the invariant, what a command completes with, what
it leaves unchanged, what it answers, and what it records. -/
namespace Sys2Proof.Machine

/-- The step at `s` proceeds: no fault and no refusal. -/
def Proceeds (s : State) : Prop := ∃ t, step s = .next t

/-- A run of `n` steps from `s` that never stops. -/
def RunsOn : Nat → State → Prop
  | 0, _ => True
  | n + 1, s => ∃ t, step s = .next t ∧ RunsOn n t

/-- The byte memories are in canonical form: DDR5 behind the windows, the LPDDR5 of the halves, the recovery buffer, and the flash of both
devices. -/
abbrev MemsOk (s : State) : Prop :=
  Mem.wf 0 s.hbr.ddr = true ∧ (∀ p ∈ s.hbr.lp, Mem.wf 0 p.2 = true) ∧ Mem.wf 0 s.upd.rbuf = true ∧ Mem.wf 0xFF s.cfg.devA.flash = true ∧
  Mem.wf 0xFF s.cfg.devB.flash = true

/-- The invariant: the memories are canonical, and SUP_SEQ fits its 32 bits. -/
abbrev Inv (s : State) : Prop := MemsOk s ∧ s.sup.seq < 2 ^ 32

/-- Command `c` at `s` has an effect whose state satisfies `P`. -/
def Completes (c : Instr) (s : State) (P : State → Prop) : Prop := ∃ t, exec c s = .next t ∧ P t

/-! ### Frames -/

/-- The parts of the state beside the register file. -/
inductive Part where
  | pending | fuses | pwr | sup | kn | arb | pins | mbx | hbr | tb | rad | recs | arc | lnt | lux | fwd | half | bk | wear
  | brc | mtr | key | cfg | upd | free
  deriving DecidableEq, Repr

/-- A part of `t` is as in `s`; of the supervisor's part, all but SUP_SEQ, which R211 governs. -/
def Part.same (p : Part) (s t : State) : Prop :=
  match p with
  | .pending => t.pending = s.pending
  | .fuses => t.fuses = s.fuses
  | .pwr => t.pwr = s.pwr
  | .sup => t.sup = { s.sup with seq := t.sup.seq }
  | .kn => t.kn = s.kn
  | .arb => t.arb = s.arb
  | .pins => t.pins = s.pins
  | .mbx => t.mbx = s.mbx
  | .hbr => t.hbr = s.hbr
  | .tb => t.tb = s.tb
  | .rad => t.rad = s.rad
  | .recs => t.recs = s.recs
  | .arc => t.arc = s.arc
  | .lnt => t.lnt = s.lnt
  | .lux => t.lux = s.lux
  | .fwd => t.fwd = s.fwd
  | .half => t.half = s.half
  | .bk => t.bk = s.bk
  | .wear => t.wear = s.wear
  | .brc => t.brc = s.brc
  | .mtr => t.mtr = s.mtr
  | .key => t.key = s.key
  | .cfg => t.cfg = s.cfg
  | .upd => t.upd = s.upd
  | .free => t.free = s.free

/-- From `s` to `t` only the parts `ps` and the register fields `fs` may have changed (and SUP_SEQ). -/
def Only (ps : List Part) (fs : List Fld) (s t : State) : Prop :=
  (∀ p, p ∉ ps → p.same s t) ∧ ∀ g : Fld, g.key ∉ fs.map Fld.key → t.rd g = s.rd g

/-- Beside the register file, from `s` to `t` only the parts `ps` may have changed (and SUP_SEQ). -/
def Parts (ps : List Part) (s t : State) : Prop := ∀ p, p ∉ ps → p.same s t

/-- The rows whose effect can be a start or a restart of the module, which gives SUP_SEQ and the recovery buffer their reset values. -/
def restarts : Instr → Bool
  | .coldStart .. | .warmRestart .. | .bootAttemptTimeout .. | .ocxoRestored .. | .quiesceRestart .. | .busCollapse
  | .thermalShutdownExit .. | .domainWatchdogExpiry .. | .appCoreFailure .. | .protectionCoreFailure .. | .recoveryExit .. => true
  | _ => false

/-- The rows that can write a byte memory: one behind the bridges, by an access, the fall-back, the tunnel, the end of a locked sequence or a
command's result; the recovery buffer and the flash of a device, through the loader's registers and operations or a written generation; or by
a restart. -/
def writesMemory (c : Instr) : Bool :=
  restarts c || match c with
  | .bar4WindowAccess .. | .postedWriteFallback .. | .tunnelDatagram .. | .registerWrite .. | .lockRelease .. | .lockAbort .. | .arcFetch .. | .arcComtrade ..
  | .recoveryRead | .recoveryErase | .recoveryProgram | .cfgWriteComplete .. | .updCommit .. => true
  | _ => false

/-- A saturating counter has counted once. -/
def Counted (s t : State) (f : Fld) : Prop := t.rd f = min (s.rd f + 1) (2 ^ f.w - 1)

/-- A warm restart with cause `c` that finds no usable device: the cause's bit alone is set, the hold is engaged for the start, domains 1 to 6 are in
reset, every kennel is empty, and the supervisor is in recovery mode for want of a device. -/
def RestartedToRecovery (c : Nat) (s t : State) : Prop :=
  t.rd (causeFld c) = 1 ∧ (∀ k, k < 9 → k ≠ c → t.rd (causeFld k) = 0) ∧ t.rd Reg.SUP_RSTCAUSE_DWDOG = s.rd Reg.SUP_RSTCAUSE_DWDOG ∧
  t.rd Reg.OUT_STAT_HOLD = 1 ∧ t.rd Reg.OUT_STAT_HOLDCAUSE = 6 ∧ (∀ d, 1 ≤ d → d ≤ 6 → t.dom d = 1) ∧ t.kn = [] ∧
  t.sup.due = none ∧ t.sup.attempt = false ∧ t.sup.tally = s.sup.tally ∧ t.mbx.rseq = s.mbx.rseq ∧ t.rd Reg.BRC_STAT_LSHOUT = 0 ∧
  t.rd Reg.SUP_BOOT_STAGE = 7 ∧ t.rd Reg.UPD_STAT_RCV = 1 ∧ t.rd Reg.UPD_STAT_RCVCAUSE = 2

/-- Neither device has a valid faceplate. -/
def NoDevice (s : State) : Prop := s.plate 0 = none ∧ s.plate 1 = none

/-! ### Register reads -/

/-- A read that clears: the host gets the word that the counters `fs` and the other fields `also` make; each counter is left with its
update `upd` of the same cycle and no more; nothing else changes. -/
def ReadOut (s t : State) (fs also : List Fld) (upd : List Nat) : Prop :=
  t.mbx = { s.mbx with lastRead := some (BitVec.ofNat 32 (((fs ++ also).map fun f => s.rd f * 2 ^ f.lo).sum)) } ∧
  (∀ p ∈ fs.zipIdx, t.rd p.1 = min (upd.getD p.2 0) (2 ^ p.1.w - 1)) ∧ Only [.mbx] fs s t

/-- The rows that read a register of counters: its block, its counters, its other fields, and the updates of the same cycle. -/
def counterRow : Instr → Option (Nat × List Fld × List Fld × List Nat)
  | .fwdCntRead 0 u => some (7, [Reg.FWD_PARCNT_SUB, Reg.FWD_PARCNT_DUPT, Reg.FWD_PARCNT_PFX, Reg.FWD_PARCNT_MACT], [], u)
  | .fwdCntRead 1 u => some (7, [Reg.FWD_CNT0_VLANDROP, Reg.FWD_CNT0_LEARNFULL], [], u)
  | .fwdCntRead 2 u => some (7, [Reg.FWD_CNT1_DDOVF, Reg.FWD_CNT1_STATVIOL, Reg.FWD_CNT1_MOVES], [], u)
  | .prxCntRead 0 0 u => some (8, [Reg.PR_PASS_MAXPASS 0], [Reg.PR_PASS_LASTK 0], u)
  | .prxCntRead 0 1 u => some (8, [Reg.PR_CNT0_SYNTH 0, Reg.PR_CNT0_EXPIRED 0, Reg.PR_CNT0_OVERRUN 0], [], u)
  | .prxCntRead 0 2 u => some (8, [Reg.PR_CNT1_REEVAL 0, Reg.PR_CNT1_REDROP 0, Reg.PR_CNT1_LATE 0], [], u)
  | .prxCntRead 1 0 u => some (9, [Reg.PR_PASS_MAXPASS 1], [Reg.PR_PASS_LASTK 1], u)
  | .prxCntRead 1 1 u => some (9, [Reg.PR_CNT0_SYNTH 1, Reg.PR_CNT0_EXPIRED 1, Reg.PR_CNT0_OVERRUN 1], [], u)
  | .prxCntRead 1 2 u => some (9, [Reg.PR_CNT1_REEVAL 1, Reg.PR_CNT1_REDROP 1, Reg.PR_CNT1_LATE 1], [], u)
  | .brcCntRead 0 u => some (10, [Reg.BRC_CNT0_DISPASS, Reg.BRC_CNT0_XFERS, Reg.BRC_CNT0_HFAILS], [], u)
  | .brcCntRead 1 u => some (10, [Reg.BRC_CNT1_LATEVEC, Reg.BRC_CNT1_PVDIFF, Reg.BRC_CNT1_REJOINS], [], u)
  | .brcCntRead 2 u => some (10, [Reg.BRC_XCNT0_ORPHAN, Reg.BRC_XCNT0_FALLBK], [], u)
  | .brcCntRead 3 u => some (10, [Reg.BRC_XCNT1_LOCKAB, Reg.BRC_XCNT1_EPAB, Reg.BRC_XCNT1_BOUNDS, Reg.BRC_XCNT1_DENY], [], u)
  | .hbrCntRead 0 u => some (19, [Reg.HBR_CNT0_RDTO, Reg.HBR_CNT0_ORPHAN], [], u)
  | .hbrCntRead 1 u => some (19, [Reg.HBR_CNT1_FALLBK, Reg.HBR_CNT1_SIZE], [], u)
  | .hbrCntRead 2 u => some (19, [Reg.HBR_CNT2_LOCKAB, Reg.HBR_CNT2_EPAB, Reg.HBR_CNT2_BOUNDS, Reg.HBR_CNT2_DENY], [], u)
  | .hbrCntRead 3 u => some (19, [Reg.HBR_CNT3_TUNMAC, Reg.HBR_CNT3_TUNOTHER], [], u)
  | .mtrCntRead u => some (12, [Reg.MTR_CNT_INVWIN, Reg.MTR_CNT_SAVES], [], u)
  | .evrCntRead u => some (13, [Reg.EVR_CNT_NOCOPY, Reg.EVR_CNT_COALFULL, Reg.EVR_CNT_NOTLEAD], [], u)
  | .keyCntRead u => some (15, [Reg.KEY_CNT_REJECT, Reg.KEY_CNT_EPAB, Reg.KEY_CNT_PREEMPT], [], u)
  | .arbMaxwRead n w => if n < 8 then some (17, [Reg.ARB_MAXW_MAXW n], [], [w.getD 0]) else none
  | .arbEmptyRead n e => if n < 8 then some (17, [Reg.ARB_EMPTY_EMPTY n], [], [if e then 1 else 0]) else none
  | .mbxDropRead ev rpt => some (20, [Reg.MBX_DROP_EV, Reg.MBX_DROP_RPT], [], [ev, rpt])
  | .radCntRead k u => if k < 2 then some (4, radCnt k, [], u) else none
  | .packAirRead k u => if k < 5 then some (5, airCnt k, [], u) else none
  | .lntCntRead k u => if k < 5 then some (6, lntCnt k, [], u) else none
  | _ => none

/-! ### Mailbox commands -/

/-- The module takes a command of code `code` now: a response slot is free, no consumed command of its range waits, and no state of
the module answers it whatever it asks. -/
def Takes (s : State) (code : Nat) : Prop := s.canTake = true ∧ heldOf s code = none ∧ gate s code = none

/-- The command is answered: the next response slot holds its CODE, TAG, status and payload, with the time `done`, and the producer
index has advanced. -/
def Answers (s t : State) (code tag st done : Nat) (pl : List Byte) : Prop :=
  t.mbx.rsps.get? (s.rd Reg.MBX_RSPPI % 256) = some ⟨code, tag, st, done, pl⟩ ∧
  t.rd Reg.MBX_RSPPI = (s.rd Reg.MBX_RSPPI + 1) % 2 ^ 32

/-- The command is answered with status `st`, and nothing else happens. -/
def Denied (c : Instr) (s : State) (code tag st : Nat) : Prop :=
  Completes c s fun t => Answers s t code tag st s.tai [] ∧ Only [.mbx] [Reg.MBX_RSPPI] s t

/-! ### Records -/

/-- A record of log `n` would be taken: the log is defined, and the lane and the ingress buffer have room. -/
def RoomFor (s : State) (n : Nat) : Prop :=
  (s.log n).defd = true ∧ s.recs.lane.length < 64 ∧ s.recs.ingress.length < 1008

/-- One record of log `n` is on its way, with code and parameters. -/
def Appended (s t : State) (n code : Nat) (par : List Nat) : Prop :=
  ∃ p : Posted, p.log = n ∧ p.rcd.code = code ∧ p.rcd.par0 = par.getD 0 0 ∧ p.rcd.par1 = par.getD 1 0 ∧
    p.rcd.par2 = par.getD 2 0 ∧ (t.recs.lane = s.recs.lane ++ [p] ∨ t.recs.ingress = s.recs.ingress ++ [p])

/-- Since `s` a record of log `n` was put on its way, with code and parameters. -/
def Logged (s t : State) (n code : Nat) (par : List Nat) : Prop :=
  ∃ p ∈ t.recs.lane.drop s.recs.lane.length ++ t.recs.ingress.drop s.recs.ingress.length, p.log = n ∧ p.rcd.code = code ∧
    p.rcd.par0 = par.getD 0 0 % 2 ^ 32 ∧ p.rcd.par1 = par.getD 1 0 % 2 ^ 32 ∧ p.rcd.par2 = par.getD 2 0 % 2 ^ 32

/-- Logs L0 to L8 are defined, and lane and ingress buffer have room for the records of a step. -/
def Roomy (s : State) : Prop :=
  (∀ n, n < 9 → (s.log n).defd = true) ∧ s.recs.lane.length < 48 ∧ s.recs.ingress.length < 960

/-- Record `r` was committed to log `n` with the log's next number: in the firsts area while that has room, else in the ring, whose oldest record gives way
when it is full. Every other log is as it was. -/
def Committed (s t : State) (n : Nat) (r : Rec) : Prop :=
  ∃ q : Rec, q = { r with seq := nextSeq (s.log n).seq } ∧ (t.log n).seq = q.seq ∧
    ((s.log n).firsts.length < (s.log n).firstsCap → (t.log n).firsts = (s.log n).firsts ++ [q] ∧ (t.log n).ring = (s.log n).ring) ∧
    ((s.log n).firstsCap ≤ (s.log n).firsts.length → (t.log n).firsts = (s.log n).firsts ∧
      ((s.log n).ring.length < (s.log n).ringCap → (t.log n).ring = (s.log n).ring ++ [q]) ∧
      ((s.log n).ring.length = (s.log n).ringCap → 0 < (s.log n).ringCap → (t.log n).ring = (s.log n).ring.tail ++ [q])) ∧
    ∀ m, m ≠ n → t.log m = s.log m

/-- The copy of a committed record in the event copy ring (R819, R226): placed while APP runs and the ring has room, else counted. -/
def Copied (s t : State) (n : Nat) (r : Rec) : Prop :=
  (s.runs 1 = true → unread s Reg.MBX_EVPI Reg.MBX_EVCI < 16384 →
    t.mbx.evs.get? (s.rd Reg.MBX_EVPI % 16384) = some { r with seq := nextSeq (s.log n).seq } ∧ t.rd Reg.MBX_EVPI = (s.rd Reg.MBX_EVPI + 1) % 2 ^ 32) ∧
  (s.runs 1 = true → 16384 ≤ unread s Reg.MBX_EVPI Reg.MBX_EVCI → Counted s t Reg.MBX_DROP_EV) ∧
  (s.runs 1 = false → Counted s t Reg.EVR_CNT_NOCOPY ∧ t.rd Reg.MBX_EVPI = s.rd Reg.MBX_EVPI)

/-- No count of lost records waits for its LOST record. -/
def NoneLost (s : State) : Prop := s.recs.lostLog = [] ∧ s.recs.lostDom = [] ∧ s.recs.laneLost = (0, 0)

/-- A zeroise with its cause (Table KEY-7): no slot, stored copy, KEK or link key is left, the latch is set and STOREGEN one more; the owner record and the
update counter stay. -/
def Zeroised (s t : State) (cause : Nat) : Prop :=
  t.key.slots = [] ∧ t.key.store = [] ∧ t.key.old = [] ∧ t.key.kek = false ∧ t.key.latch = true ∧ t.key.gen = (s.key.gen + 1) % 2 ^ 32 ∧
  t.key.owner = s.key.owner ∧ t.key.ucnt = s.key.ucnt ∧ (∀ p ∈ t.lnt.nodes, p.2.lkey = none) ∧ t.rd Reg.KEY_EVT_TAMPER = 1 ∧
  Logged s t 3 Ev.KEY_ZEROISED [cause, s.key.gen + 1]

/-- Nothing goes on between the module and the segment: no frame waits for a node, no howl copy has a transmit request, the sender of every
request that has ended was told, and no channel still runs under the section 0x03 before an apply. -/
def QuietLink (s : State) : Prop := s.rad.ended = [] ∧ s.cfg.old03 = none ∧ (∀ p ∈ s.lnt.nodes, p.2.q = []) ∧ ∀ h ∈ s.lnt.howls, h.asked = []

/-- A report can go into its ring: APP runs, none waits for room, and the ring has room. -/
def Reportable (s : State) : Prop := s.runs 1 = true ∧ s.mbx.ovfl = [] ∧ rptRoom s = true

/-- One report was placed in the ring: its kind and class, the next RSEQ, and its body. -/
def Reported (s t : State) (k c : Nat) (body : List Byte) : Prop :=
  t.mbx.rseq = (s.mbx.rseq + 1) % 2 ^ 32 ∧ t.mbx.rpts.get? (s.rd Reg.MBX_RPTPI % 65536) = some ⟨k, c, t.mbx.rseq, body⟩ ∧
  t.rd Reg.MBX_RPTPI = (s.rd Reg.MBX_RPTPI + 1) % 2 ^ 32

/-- The rows by which a DATA frame of a node reaches the module, with the frame. -/
def uplinkRow : Instr → Option RxFrame
  | .uplinkStatus f .. | .uplinkEnergy f .. | .uplinkFault f .. | .uplinkUvolt f .. | .uplinkTraffic f .. | .uplinkResp f ..
  | .uplinkLampbusAns f .. | .uplinkMakerData f .. | .uplinkRouteErr f .. | .uplinkNbNack f .. => some f
  | _ => none

/-- A frame of type `typ` that passes every check of R436 and is new: from node `d`, in unicast without a route, short of the mark of R431, on the channel
on which the module has the node, where it may transmit; and no frame waits for any node. -/
def Accepted (s : State) (f : RxFrame) (typ : Nat) (d : Node) : Prop :=
  rxNode s f typ = (s, some d) ∧ f.micOk = true ∧ d.lkey ≠ none ∧ d.lastRx ≠ some (f.seq, f.fcnt) ∧ d.rx < f.fcnt ∧ f.fcnt < 2 ^ 31 ∧ f.rt = false ∧
  (f.chan = d.alt ↔ d.onAlt = true) ∧ bit (sec03 s).mask f.chan = true ∧ QuietLink s

/-- The frame was taken: the node's record has its counter and its strength, and an ACK on its channel starts 1 ms after its end; every other node is as it
was. -/
def Taken (s t : State) (f : RxFrame) : Prop :=
  (∃ n, t.node f.src = some n ∧ n.rx = f.fcnt ∧ n.lastRx = some (f.seq, f.fcnt) ∧ n.rssi = f.rssi) ∧
  (∃ r, t.rad.pend = s.rad.pend ++ [r] ∧ r.cls = .ack ∧ r.chan = f.chan ∧ r.earliest = rxEnd s f + 1000000) ∧
  ∀ m, m ≠ f.src → t.node m = s.node m

/-- The queue of node `ln` is the one frame `f`, no frame waits for another node, and no channel still runs under the section 0x03 before an
apply. -/
def OneFrame (s : State) (ln : Nat) (d : Node) (f : DlFrame) : Prop :=
  s.cfg.old03 = none ∧
  s.node ln = some d ∧ d.q = [f] ∧ (∀ p ∈ s.lnt.nodes, p.1 ≠ ln → p.2.q = []) ∧ (s.lnt.nodes.map Prod.fst).Nodup

/-- The lighting engine has the halves' result `r` of a task: a node's SET and RISE table (task 0), or a feeder's next batch (task 1). -/
def LuxTaken (s t : State) (task id : Nat) (r : List Nat) : Prop :=
  t.lux = if task = 0 then { s.lux with astro := s.lux.astro.set id r } else { s.lux with agreed := s.lux.agreed.set id r }

/-- A host write from `path` to block `b` reaches its register: the path is open, the block's domain runs, and its policy allows it. -/
def Writable (s : State) (path b : Nat) : Prop := pathOpen s path = true ∧ blockRuns s b = true ∧ pathMay s path b = true

end Sys2Proof.Machine
end

