-- ==== Sys2Proof/Certificates/Slice0/Obligations.lean ====
section
/-! DEFINITION. The statements about the model. -/

open Sys2Proof Sys2Proof.Machine

/-- A step takes the command at the front of the queue and gives what `exec` answers for it on the state with the queue's rest. -/
def Obligations.StepRunsFrontCommand : Prop :=
  ∀ (c : Instr) (s : State), step { s with pending := c :: s.pending } = exec c s

/-- With no command waiting a step proceeds. With the module on its reference, nothing to slew, nothing outstanding at the bridges, and every
compare unit of an internal owner armed or NET not running, it adds the increment in force to the spindle, modulo 2^64 ns, counts a tick of
the always-on clock, and changes nothing else; quiesced, or with the reference lost, it counts that tick only; with the supervisor not
running it leaves everything as it is. That an empty queue ticks is the model's choice (log entry 1); the sum is R254's. -/
def Obligations.IdleStepTicks : Prop :=
  (∀ s : State, s.pending = [] → s.dom 0 = 2 → s.rd Reg.SUP_DOMSTAT_OCXO_LOST = 0 → s.pwr.quiesced = false → s.tb.adjRem = 0 →
    s.tb.incNew = false → s.hbr.sides = [] → s.tb.fires = [] →
    (s.runs 5 = false ∨ ∀ n, 4 ≤ n → n < 32 → s.rd (Reg.TB_CMP_CTL_ARM n) = 1) →
    ∃ t, step s = .next t ∧ t.tb.ns * 2 ^ 32 + t.tb.frac = (s.tb.ns * 2 ^ 32 + s.tb.frac + s.tb.inc) % 2 ^ 96 ∧ t.tb.frac < 2 ^ 32 ∧
      t.tb.inc = s.tb.inc ∧ t.pwr = { s.pwr with ticks := s.pwr.ticks + 1 } ∧ Only [.tb, .pwr] [] s t) ∧
  (∀ s : State, s.pending = [] → s.dom 0 = 2 → (s.rd Reg.SUP_DOMSTAT_OCXO_LOST = 1 ∨ s.pwr.quiesced = true) →
    ∃ t, step s = .next t ∧ t.pwr = { s.pwr with ticks := s.pwr.ticks + 1 } ∧ Only [.pwr] [] s t) ∧
  ∀ s : State, s.pending = [] → s.dom 0 ≠ 2 → ∃ t, step s = .next t ∧ Only [] [] s t

/-- No command of the block stops: whatever the state and the operands, `exec` answers a next state. It leaves the queue of waiting
commands and the fuses as they were. -/
def Obligations.CommandsKeepQueueAndFuses : Prop :=
  ∀ (c : Instr) (s : State), ∃ t, exec c s = .next t ∧ t.pending = s.pending ∧ t.fuses = s.fuses

/-- From every state in which the byte memories (DDR5, the LPDDR5 of the halves, the recovery buffer, the flash of both devices) are
canonical and SUP_SEQ fits 32 bits, a step proceeds to such a state. -/
def Obligations.StepKeepsInvariant : Prop :=
  ∀ s : State, Inv s → ∃ t, step s = .next t ∧ Inv t

/-- The state after reset meets the invariant, and no command waits in it. -/
def Obligations.ResetMeetsInvariant : Prop := Inv State.reset ∧ State.reset.pending = []

/-- Every row other than the window accesses, the fall-back of posted writes, the tunnel, the end of a locked sequence, the two archive
commands that write their result to a window, a register write, the recovery loader's operations, the writes of a generation to a device,
and those that can restart the module, leaves every byte of DDR5 behind the windows, of the halves' LPDDR5, of the recovery buffer and of
both devices' flash as it was. -/
def Obligations.MemoryChangesOnlyThroughItsCommands : Prop :=
  ∀ (c : Instr) (s t : State), writesMemory c = false → exec c s = .next t →
    ∀ a : Nat, Mem.read 0 t.hbr.ddr a = Mem.read 0 s.hbr.ddr a ∧
      (∀ m, Mem.read 0 (t.hbr.lp.getD m []) a = Mem.read 0 (s.hbr.lp.getD m []) a) ∧ Mem.read 0 t.upd.rbuf a = Mem.read 0 s.upd.rbuf a ∧
      Mem.read 0xFF t.cfg.devA.flash a = Mem.read 0xFF s.cfg.devA.flash a ∧
      Mem.read 0xFF t.cfg.devB.flash a = Mem.read 0xFF s.cfg.devB.flash a

/-- Across every row that does not restart the module, SUP_SEQ is one more (modulo 2^32) when SUP_SUMMARY has changed, in either direction and
by however many bits, and is unchanged when SUP_SUMMARY has not changed; of a tunnel datagram, which counts after each of its records
(R232), this is said where it is discarded. -/
def Obligations.SummaryChangesAreCounted : Prop :=
  ∀ (c : Instr) (s t : State), restarts c = false → (∀ q, c = .tunnelDatagram q → s.runs 1 = false ∨ tunCheck s q ≠ none) →
    s.sup.seq < 2 ^ 32 → exec c s = .next t →
    t.sup.seq = if summary t = summary s then s.sup.seq else (s.sup.seq + 1) % 2 ^ 32

/-- A host write that reaches the arbiter block stores NTH from bits 6:0, a value below 4 as 4 and one above 64 as 64, and changes nothing else. A weight
is stored from bits 10:0, a value above 1,024 as 1,024. Rows shown to complete with their effect (`Completes`): arbCtlWrite, arbWgtWrite. -/
def Obligations.ArbiterRegisterWrites : Prop :=
  (∀ (path : Nat) (v : Word) (s : State), Writable s path 17 →
    Completes (.arbCtlWrite path v) s fun t => Only [] [Reg.ARB_CTL_NTH] s t ∧
      (v.toNat % 128 < 4 → t.rd Reg.ARB_CTL_NTH = 4) ∧ (64 < v.toNat % 128 → t.rd Reg.ARB_CTL_NTH = 64) ∧
      (4 ≤ v.toNat % 128 → v.toNat % 128 ≤ 64 → t.rd Reg.ARB_CTL_NTH = v.toNat % 128)) ∧
  ∀ (path n : Nat) (v : Word) (s : State), Writable s path 17 → n < 8 →
    Completes (.arbWgtWrite path n v) s fun t => Only [] [Reg.ARB_WGT_W n] s t ∧
      t.rd (Reg.ARB_WGT_W n) = if v.toNat % 2048 ≤ 1024 then v.toNat % 2048 else 1024

/-- Every row that reads a register of counters, its block answering and the endpoint out of reset (R78): the host gets the word its fields made before
the read; each counter then holds only its update of that cycle, cut to its width; nothing else changes. Rows shown to complete with their effect
(`Completes`): arbMaxwRead, arbEmptyRead, mbxDropRead, hbrCntRead, radCntRead, packAirRead, lntCntRead, fwdCntRead, prxCntRead, brcCntRead,
mtrCntRead, evrCntRead, keyCntRead. -/
def Obligations.CounterReadsClear : Prop :=
  ∀ (c : Instr) (s : State) (b : Nat) (fs also : List Fld) (upd : List Nat), counterRow c = some (b, fs, also, upd) → s.pwr.perst = false → blockRuns s b = true →
    Completes c s fun t => ReadOut s t fs also upd

/-- A port without a live request presents one, its age counted from its cycle. A withdrawal marks the request with its first cycle. At a window's start
each port's credit is min(credit + W, 2 × W) for the written weight W, which takes effect. A refresh bars grants for the cycles given, 180 at most,
where none came in the 2,340 cycles before. Rows shown to complete with their effect (`Completes`): arbRequest, arbRequestWithdraw, arbWindowStart,
arbRefresh. -/
def Obligations.ArbiterRequestsAndWindows : Prop :=
  (∀ (p cycle : Nat) (s : State), p < 8 → s.runs 1 = true → (∀ r, s.arb.reqs.get? p = some r → r.withdrawn ≠ none) →
    Completes (.arbRequest p cycle) s fun t => t.arb.reqs.get? p = some ⟨cycle, none⟩ ∧ (∀ q, q ≠ p → t.arb.reqs.get? q = s.arb.reqs.get? q) ∧
      Only [.arb] [] s t) ∧
  (∀ (p cycle : Nat) (s : State) (r : ArbReq), s.arb.reqs.get? p = some r →
    Completes (.arbRequestWithdraw p cycle) s fun t => t.arb.reqs.get? p = some { r with withdrawn := some (r.withdrawn.getD cycle) } ∧
      (∀ q, q ≠ p → t.arb.reqs.get? q = s.arb.reqs.get? q) ∧ Only [.arb] [] s t) ∧
  (∀ s : State, s.runs 1 = true →
    Completes .arbWindowStart s fun t =>
      (∀ p, p < 8 → t.rd (Reg.ARB_CRD_CRD p) = min (s.rd (Reg.ARB_CRD_CRD p) + s.rd (Reg.ARB_WGT_W p)) (2 * s.rd (Reg.ARB_WGT_W p)) % 4096 ∧
        t.arb.wgt.get? p = some (s.rd (Reg.ARB_WGT_W p))) ∧
      Only [.arb] ((List.range 8).map Reg.ARB_CRD_CRD) s t) ∧
  ∀ (cycle len : Nat) (s : State), s.runs 1 = true → 0 < len → s.arb.refreshEnd ≤ cycle → (∀ r ∈ s.arb.refreshes, r.1 + r.2 + 2340 ≤ cycle) →
    Completes (.arbRefresh cycle len) s fun t => t.arb = { s.arb with refreshEnd := cycle + min len 180, refreshes := [(cycle, min len 180)] } ∧
      Only [.arb] [] s t

/-- With no refresh in the way and no decision made for this cycle or a later one, among the requests that the decision sees (presented two cycles before;
not withdrawn before the cycle of the decision), the grant goes to the one with the most credit, the lowest port in a tie; on every Nth non-empty
grant to the oldest. A live request's grant costs one credit, counts towards N (an aged grant starts the count again) and keeps the longest wait. A
withdrawn request gets an empty grant, which is counted for its port, costs no credit and counts towards nothing. Rows shown to complete with their
effect (`Completes`): arbGrant. -/
def Obligations.ArbiterGrants : Prop :=
  ∀ (s : State) (cycle p : Nat) (r : ArbReq), s.runs 1 = true → s.arb.refreshEnd ≤ cycle → (∀ c, s.arb.decided = some c → c < cycle) → p < 8 →
    s.arb.reqs.Pairwise (fun a b => a.1 < b.1) → (∀ q ∈ s.arb.reqs, q.1 < 8 ∧ s.rd (Reg.ARB_CRD_CRD q.1) ≤ 2048) →
    (p, r) ∈ s.arb.reqs → arbSeen cycle r = true →
    ((s.arb.count + 1 < s.rd Reg.ARB_CTL_NTH ∧
        ∀ q ∈ s.arb.reqs, arbSeen cycle q.2 = true → s.rd (Reg.ARB_CRD_CRD q.1) < s.rd (Reg.ARB_CRD_CRD p) ∨
          (s.rd (Reg.ARB_CRD_CRD q.1) = s.rd (Reg.ARB_CRD_CRD p) ∧ p ≤ q.1)) ∨
      (s.rd Reg.ARB_CTL_NTH ≤ s.arb.count + 1 ∧
        ∀ q ∈ s.arb.reqs, arbSeen cycle q.2 = true → r.at_ < q.2.at_ ∨ (r.at_ = q.2.at_ ∧ p ≤ q.1))) →
    Completes (.arbGrant cycle) s fun t =>
      t.arb.reqs.get? p = none ∧ (∀ q, q ≠ p → t.arb.reqs.get? q = s.arb.reqs.get? q) ∧
      (r.withdrawn = none →
        t.arb.last = some (p, false) ∧ t.arb.count = (if s.rd Reg.ARB_CTL_NTH ≤ s.arb.count + 1 then 0 else s.arb.count + 1) ∧
        t.rd (Reg.ARB_CRD_CRD p) = s.rd (Reg.ARB_CRD_CRD p) - 1 ∧
        (s.rd (Reg.ARB_MAXW_MAXW p) ≤ 0xFFFF → t.rd (Reg.ARB_MAXW_MAXW p) = max (min 0xFFFF (cycle - r.at_)) (s.rd (Reg.ARB_MAXW_MAXW p))) ∧
        Only [.arb] [Reg.ARB_CRD_CRD p, Reg.ARB_MAXW_MAXW p] s t) ∧
      (r.withdrawn ≠ none →
        t.arb.last = some (p, true) ∧ t.arb.count = s.arb.count ∧ Counted s t (Reg.ARB_EMPTY_EMPTY p) ∧
        Only [.arb] [Reg.ARB_EMPTY_EMPTY p] s t)

/-- At a live kennel whose producer is not stalled, a well-formed packet that fits becomes the last complete packet. One that does not fit is refused and
counted under DROP; under BLOCK the words that fit are written, none of them visible, and the producer stalls with the others. A stalled producer goes
on as far as words fit, and the packet becomes visible with its last word; an abandoned write discards the partial packet, and a half's STATE packet
waits no longer. No other kennel changes. Rows shown to complete with their effect (`Completes`): kennelWrite, kennelWriteStallResume,
kennelWriteAbandon. -/
def Obligations.KennelWrites : Prop :=
  ∀ (n : Nat) (s : State), kLive s n = true →
    (∀ ws : List Nat, pktOk ws = true → (s.knl n).wrStall = false → (s.knl n).part = [] →
      ((s.knl n).used + ws.length ≤ kDepth →
        Completes (.kennelWrite n ws) s fun t => (t.knl n).pkts = (s.knl n).pkts ++ [ws] ∧ (t.knl n).rd = (s.knl n).rd ∧
          (t.knl n).wrStall = false ∧ (∀ m, m ≠ n → t.knl m = s.knl m) ∧ Only [.kn] [] s t) ∧
      (kDepth < (s.knl n).used + ws.length → kDrop n = true → n < 88 →
        Completes (.kennelWrite n ws) s fun t => Counted s t (Reg.KNL_STAT_DROPCNT n) ∧ Only [] [Reg.KNL_STAT_DROPCNT n] s t) ∧
      (kDepth < (s.knl n).used + ws.length → kDrop n = false →
        Completes (.kennelWrite n ws) s fun t => (t.knl n).pkts = (s.knl n).pkts ∧ (t.knl n).wrStall = true ∧
          (t.knl n).part ++ (t.knl n).rest = ws ∧ (t.knl n).part.length = kDepth - (s.knl n).used ∧
          (∀ m, m ≠ n → t.knl m = s.knl m) ∧ Only [.kn] [] s t)) ∧
    ((s.knl n).wrStall = true → (s.knl n).used ≤ kDepth →
      ((s.knl n).rest.length + (s.knl n).used ≤ kDepth →
        Completes (.kennelWriteStallResume n) s fun t => (t.knl n).pkts = (s.knl n).pkts ++ [(s.knl n).part ++ (s.knl n).rest] ∧
          (t.knl n).wrStall = false ∧ (t.knl n).part = [] ∧ (∀ m, m ≠ n → t.knl m = s.knl m) ∧ Only [.kn] [] s t) ∧
      (kDepth < (s.knl n).rest.length + (s.knl n).used →
        Completes (.kennelWriteStallResume n) s fun t => (t.knl n).pkts = (s.knl n).pkts ∧ (t.knl n).wrStall = true ∧
          (t.knl n).part ++ (t.knl n).rest = (s.knl n).part ++ (s.knl n).rest ∧ (∀ m, m ≠ n → t.knl m = s.knl m) ∧ Only [.kn] [] s t) ∧
      (n ∉ [80, 81, 84, 85] → Completes (.kennelWriteAbandon n) s fun t => t.knl n = { s.knl n with part := [], rest := [], wrStall := false } ∧
        (∀ m, m ≠ n → t.knl m = s.knl m) ∧ Only [.kn] [] s t) ∧
      ∀ h, h < 2 → n = 81 + 4 * h → Completes (.kennelWriteAbandon n) s fun t =>
        t.knl n = { s.knl n with part := [], rest := [], wrStall := false } ∧ (∀ m, m ≠ n → t.knl m = s.knl m) ∧
        t.hf h = { s.hf h with stOut := none } ∧ Only [.kn, .half] [] s t)

/-- At a kennel whose consumer runs, a read of some words takes them from the head packet, which goes with its last word; a kennel without a complete
packet stalls the reader, whether its producer runs or not. A stall ends with the first word of a packet that has arrived, in the watchdog's cycle
too; with none the read is abandoned: the reader gets the abandon word with the bus-error flag, and it is counted and recorded in L0 (kennels 83 and
87, which hold the completions of crossing reads, end such a read in its place). A pointer fault empties the kennel, leaves a stalled reader stalled,
and is counted and recorded. Rows shown to complete with their effect (`Completes`): kennelRead, kennelStallResume, kennelAbandon, kennelFault. -/
def Obligations.KennelReads : Prop :=
  (∀ (n : Nat) (s : State), kReads s n = true →
    ((s.knl n).rdStall = false →
      (∀ w, 0 < w → (s.knl n).pkts = [] →
        Completes (.kennelRead n w) s fun t => t.knl n = { s.knl n with rdStall := true } ∧ Only [.kn] [] s t) ∧
      ∀ w p l, 0 < w → (s.knl n).pkts = p :: l →
        Completes (.kennelRead n w) s fun t => (t.knl n).out = ((p.drop (s.knl n).rd).take w, false) ∧ (t.knl n).rdStall = false ∧
          ((t.knl n).pkts, (t.knl n).rd) = (if p.length ≤ (s.knl n).rd + w then (l, 0) else (p :: l, (s.knl n).rd + w)) ∧
          (∀ m, m ≠ n → t.knl m = s.knl m) ∧ Only [.kn] [] s t) ∧
    ((s.knl n).rdStall = true →
      (∀ p l, (s.knl n).pkts = p :: l → ∀ Q : State → Prop,
        (Q = fun t => (t.knl n).out = ((p.drop (s.knl n).rd).take 1, false) ∧ (t.knl n).rdStall = false ∧
          ((t.knl n).pkts, (t.knl n).rd) = (if p.length ≤ (s.knl n).rd + 1 then (l, 0) else (p :: l, (s.knl n).rd + 1)) ∧ Only [.kn] [] s t) →
        Completes (.kennelStallResume n) s Q ∧ (n ≠ 83 → n ≠ 87 → Completes (.kennelAbandon n) s Q)) ∧
      ((s.knl n).pkts = [] → n ≠ 83 → n ≠ 87 → RoomFor s 0 →
        Completes (.kennelAbandon n) s fun t => t.knl n = { s.knl n with rdStall := false, out := ([0xDEAD0000 + n], true) } ∧
          Counted s t (Reg.KNL_ABNCNT_ABNCNT n) ∧ Appended s t 0 Ev.KENNEL_ABANDON [n] ∧ Only [.kn, .recs] [Reg.KNL_ABNCNT_ABNCNT n] s t))) ∧
  ∀ (n : Nat) (s : State), kExists n = true → s.dom 0 = 2 → RoomFor s 0 →
    Completes (.kennelFault n) s fun t => (t.knl n).pkts = [] ∧ (t.knl n).part = [] ∧ (t.knl n).rest = [] ∧
      (t.knl n).rdStall = (s.knl n).rdStall ∧ Counted s t (Reg.KNL_RSTCNT_RSTCNT n) ∧ Appended s t 0 Ev.KENNEL_FAULT [n] ∧
      Only [.kn, .recs] [Reg.KNL_RSTCNT_RSTCNT n] s t

/-- A read of an offset of a block whose domain is not in RUN completes with 0xFFFF_FFFF and changes nothing but the data the host has read; a write of
any value there, from any path, changes nothing. The same of BAR2 and BAR4 while APP is not in RUN. Rows shown to complete with their effect
(`Completes`): stoppedDomainAccess, registerWrite. -/
def Obligations.StoppedDomainAnswers : Prop :=
  (∀ (off : Nat) (s : State), s.runs (blockDom (off / 0x10000)) = false → blockDom (off / 0x10000) ≠ 0 →
    Completes (.stoppedDomainAccess 0 false off) s (fun t => t.mbx = { s.mbx with lastRead := some 0xFFFFFFFF } ∧ Only [.mbx] [] s t) ∧
    Completes (.stoppedDomainAccess 0 true off) s (fun t => Only [] [] s t) ∧
    ∀ (path : Nat) (v : Word) (hw : Option Nat), off % 4 = 0 → Completes (.registerWrite path off v hw) s fun t => Only [] [] s t) ∧
  ∀ (space off : Nat) (s : State), s.runs 1 = false → space = 2 ∨ space = 4 →
    Completes (.stoppedDomainAccess space false off) s (fun t => t.mbx = { s.mbx with lastRead := some 0xFFFFFFFF } ∧ Only [.mbx] [] s t) ∧
    Completes (.stoppedDomainAccess space true off) s fun t => Only [] [] s t

/-- A row or block of spare class 4 to 7 with spares left, not mapped before: the mapping is in force in the same step, a SUBST record with class, index,
spare, new margin and reason is the newest of the tally, and the margin is one less; at 0 SPARES_EXHAUSTED is set. TALLY_READ of a TSEQ that the tally
holds answers OK with the records from it on, COUNT at most, each of its 32 bytes; a COUNT outside 1 to 7 is answered BAD_PARAM. Rows shown to
complete with their effect (`Completes`): memoryBlockFailure, tallyRead. -/
def Obligations.MemoryBlocksAreSpared : Prop :=
  (∀ (cls idx reason : Nat) (s : State), 4 ≤ cls → cls ≤ 7 → s.dom 0 = 2 → 0 < s.margin cls → s.margin cls < 2 ^ 15 → s.sup.tally.length < 8192 →
    (∀ r ∈ s.sup.rowMap, ¬(r.1 = cls ∧ r.2.1 = idx)) →
    Completes (.memoryBlockFailure cls idx reason) s fun t =>
      t.sup.rowMap = s.sup.rowMap ++ [(cls, idx, spareCount.getD cls 0 - s.margin cls, false)] ∧
      (∃ r : TallyRec, t.sup.tally = s.sup.tally ++ [r] ∧ r.kind = 1 ∧ r.cls = cls ∧ r.failed = idx ∧
        r.spare = spareCount.getD cls 0 - s.margin cls ∧ r.margin = s.margin cls - 1 ∧ r.reason = reason ∧
        r.tseq = (s.sup.tseq + 1) % 2 ^ 24) ∧
      t.margin cls = s.margin cls - 1 ∧ (s.margin cls = 1 → t.rd (exhFld cls) = 1) ∧
      Only [.sup] [marginFld cls, exhFld cls] s t) ∧
  ∀ (tag first count : Nat) (s : State), Takes s 0x0110 →
    (¬(1 ≤ count ∧ count ≤ 7) → Denied (.tallyRead tag first count) s 0x0110 tag St.BAD_PARAM) ∧
    ∀ (old new : List TallyRec) (r : TallyRec), 1 ≤ count → count ≤ 7 → s.sup.tally = old ++ r :: new → r.tseq = first →
      (∀ x ∈ old, x.tseq ≠ first) → ¬(0 < toS 24 (first + 2 ^ 24 - s.sup.tseq)) →
      Completes (.tallyRead tag first count) s fun t => Answers s t 0x0110 tag 0 s.tai (((r :: new).take count).flatMap tallyBytes) ∧ Only [.mbx] [Reg.MBX_RSPPI] s t

/-- The watchdog, outside a boot attempt. NET: its state is RESET, its bit of DWDOG is set, DOMAIN_RESET with its code is recorded, its kennels are empty
but for the stall of a reader in another domain, and nothing outside its blocks changes. MFE returns at once, its trial constants and sums kept, and
the backup elements' requests stand. APP whose image still verifies waits in RESET, its mailbox empty, each enabled loop holding. The half that does
not lead: the hold is engaged with cause 2, the half is DOWN with reason 5, the other keeps LEASH. A core of APP with a spare left: the spare takes
its place in the map, a SUBST record of class 3 is the newest of the tally, the margin is one less, and APP is in RESET. A core of the half that does
not lead: the same for the half's class, the half is DOWN with reason 6 and its domain in RESET; with no spare left the half stays DOWN. Rows shown to
complete with their effect (`Completes`): domainWatchdogExpiry, appCoreFailure, protectionCoreFailure. -/
def Obligations.DomainWatchdogsAndCores : Prop :=
  (∀ (ms : List Nat) (s : State), s.sup.attempt = false → Roomy s →
    (s.runs 5 = true → Completes (.domainWatchdogExpiry 5 ms) s fun t => t.dom 5 = 1 ∧ bit (t.rd Reg.SUP_RSTCAUSE_DWDOG) 4 = true ∧
      Logged s t 0 Ev.DOMAIN_RESET [5] ∧ (∀ n, n < 144 → kProd n = 5 → t.knl n = { rdStall := (s.knl n).rdStall, out := (s.knl n).out }) ∧
      (∀ n, kProd n ≠ 5 → t.knl n = s.knl n) ∧ Parts [.recs, .kn, .fwd, .tb] s t ∧
      ∀ g : Fld, g.key / 32 / 0x10000 ≠ 2 → g.key / 32 / 0x10000 ≠ 7 → g.key / 32 / 0x10000 ≠ 18 → g.key ≠ (domFld 5).key →
        g.key ≠ Reg.SUP_RSTCAUSE_DWDOG.key → t.rd g = s.rd g) ∧
    (s.runs 6 = true → Completes (.domainWatchdogExpiry 6 ms) s fun t => t.dom 6 = 2 ∧ bit (t.rd Reg.SUP_RSTCAUSE_DWDOG) 5 = true ∧
      Logged s t 0 Ev.DOMAIN_RESET [6] ∧ t.mtr = { s.mtr with modAt := [], winUp := none } ∧ t.rd Reg.OUT_BKSTAT_REQ = s.rd Reg.OUT_BKSTAT_REQ ∧ Parts [.recs, .kn, .bk, .mtr] s t) ∧
    (s.runs 1 = true → rereadFails s = none → Completes (.domainWatchdogExpiry 1 ms) s fun t => t.dom 1 = 1 ∧
      bit (t.rd Reg.SUP_RSTCAUSE_DWDOG) 0 = true ∧ Logged s t 0 Ev.DOMAIN_RESET [1] ∧ t.mbx.prog = [] ∧ t.mbx.rsps = [] ∧ t.mbx.rseq = s.mbx.rseq ∧
      t.hbr.sides.get? 0 = none ∧ t.cfg = s.cfg ∧ ∀ n, n < 8 → s.rd (Reg.OUT_LPCFG_EN n) = 1 → t.rd (Reg.OUT_LPSTAT_HOLDING n) = 1) ∧
    ∀ h, h < 2 → s.runs (2 + h) = true → s.lead = some (1 - h) → s.brace h ≠ 0 → (s.hf (1 - h)).hist = [] → s.brc.req = none →
      s.rd Reg.BRC_HO_PHASE = 0 →
      Completes (.domainWatchdogExpiry (2 + h) ms) s fun t => t.dom (2 + h) = 1 ∧ t.brace h = 0 ∧ t.rd Reg.BRC_STAT_LEASH = 1 - h + 1 ∧
        t.rd Reg.OUT_STAT_HOLD = 1 ∧ t.rd Reg.OUT_STAT_HOLDCAUSE = 2 ∧ Logged s t 0 Ev.DOMAIN_RESET [2 + h] ∧
        Logged s t 2 Ev.HALF_FAILED [h, 5, (s.hf (1 - h)).vecK]) ∧
  ∀ (core reason : Nat) (ms : List Nat) (s : State), s.sup.attempt = false → s.sup.tally.length < 8192 →
    (core < 12 → s.runs 1 = true → s.sup.appCores.get? core = none → (∀ p ∈ s.sup.appCores, p.2 ≠ core) → 0 < s.margin 3 → s.margin 3 ≤ 2 → rereadFails s = none →
      Completes (.appCoreFailure core reason ms) s fun t => t.dom 1 = 1 ∧ t.sup.appCores.get? core = some (14 - s.margin 3) ∧
        t.margin 3 = s.margin 3 - 1 ∧
        ∃ r : TallyRec, t.sup.tally = s.sup.tally ++ [r] ∧ r.kind = 1 ∧ r.cls = 3 ∧ r.failed = core ∧ r.spare = 14 - s.margin 3 ∧
          r.margin = s.margin 3 - 1 ∧ r.reason = reason ∧ r.tseq = (s.sup.tseq + 1) % 2 ^ 24) ∧
    ∀ h, h < 2 → core < 8 → s.runs (2 + h) = true → (s.hf h).cores.get? core = none → (∀ p ∈ (s.hf h).cores, p.2 ≠ core) → s.lead = some (1 - h) → s.brace h ≠ 0 →
      (s.hf (1 - h)).hist = [] → s.brc.req = none → s.rd Reg.BRC_HO_PHASE = 0 → Roomy s →
      (0 < s.margin (1 + h) → s.margin (1 + h) ≤ 2 → Completes (.protectionCoreFailure h core reason ms) s fun t => t.dom (2 + h) = 1 ∧ t.brace h = 0 ∧
        t.margin (1 + h) = s.margin (1 + h) - 1 ∧ (t.hf h).cores.get? core = some (10 - s.margin (1 + h)) ∧
        Logged s t 2 Ev.HALF_FAILED [h, 6, (s.hf (1 - h)).vecK] ∧
        ∃ r : TallyRec, t.sup.tally = s.sup.tally ++ [r] ∧ r.kind = 1 ∧ r.cls = 1 + h ∧ r.failed = core ∧ r.reason = reason) ∧
      (s.margin (1 + h) = 0 → Completes (.protectionCoreFailure h core reason ms) s fun t => t.dom (2 + h) = 1 ∧ t.brace h = 0 ∧
        h + 2 ∈ t.brc.held ∧ t.sup.tally = s.sup.tally ∧ Logged s t 2 Ev.HALF_FAILED [h, 6, (s.hf (1 - h)).vecK])

/-- Not quiesced, with no moved output, no PULSE limit and no backup element: a confirmed vector of the half that holds LEASH is what the lines show; the
hold ends, pre-arms are taken over, and while OUT_EN is low nothing else changes. A provisional one changes the pre-arms alone. The other half is not
heard. A PULSE line high for its maximum goes low, and no line rises that is not asked for. Rows shown to complete with their effect (`Completes`):
outputVectorPresent, pulseLimitExpiry. -/
def Obligations.OutputVectors : Prop :=
  ∀ s : State, s.fuses.suiteP = true → s.pins.moved = [] →
    (∀ h vec prearm, s.lead = some h → s.runs (2 + h) = true →
      (s.pwr.quiesced = false → s.pins.limited = 0 → s.bk = [] → Completes (.outputVectorPresent h vec prearm true) s fun t => t.pins.cmd = vec % 2 ^ 32 ∧
        t.pins.vec = vec % 2 ^ 32 ∧ t.pins.prearm = prearm % 2 ^ 32 ∧ t.pins.first = true ∧ t.pins.moved = [] ∧ t.rd Reg.OUT_STAT_HOLD = 0 ∧
        Parts [.pins, .wear, .sup, .recs] s t ∧ (outEn s = false → Only [.pins] [Reg.OUT_STAT_HOLD] s t)) ∧
      Completes (.outputVectorPresent h vec prearm false) s fun t => t.pins = { s.pins with prearm := prearm % 2 ^ 32 } ∧ Only [.pins] [] s t) ∧
    (∀ h vec prearm confirmed, s.lead ≠ some h → Completes (.outputVectorPresent h vec prearm confirmed) s fun t => Only [] [] s t) ∧
    ∀ line c ms, line < 32 → sec0F s = some c → c.pulse.get? line = some ms → bit s.pins.cmd line = true →
      s.pins.rose.getD line 0 + ms * 1000000 ≤ s.up →
      Completes (.pulseLimitExpiry line) s fun t => bit t.pins.cmd line = false ∧ t.pins.vec = s.pins.vec ∧
        (∀ m, bit t.pins.cmd m = true → bit (askedLines s) m = true) ∧ Parts [.pins, .wear, .sup, .recs] s t

/-- While OUT_EN is high, a readback that differs from the command sets its flag, once, and OUT_RB_MISMATCH is recorded; a line without a spare is left at
that. A primary line commanded high and read low whose output has a spare moves to it, flagged before or not: SUBST of class 9 with reason 6 goes on
the tally. A line at nine tenths of its rated operations, its output confirmed low for 1 s, moves with reason 5. A write to OUT_RBMISk clears the bits
it names but for those that the hardware sets in the same cycle, which act as any other mismatch. Rows shown to complete with their effect
(`Completes`): readbackMismatch, outputWearRemap, outRbmisClear. -/
def Obligations.ReadbackAndSpares : Prop :=
  ∀ s : State,
    (∀ line high, line < 40 → outEn s = true → Roomy s → bit s.pins.cmd line ≠ high →
      (spareOf s line = none → bit (s.rd (Reg.OUT_RBMIS_MIS (line / 32))) (line % 32) = false → Completes (.readbackMismatch line high) s fun t => bit t.pins.rb line = high ∧
        bit (t.rd (Reg.OUT_RBMIS_MIS (line / 32))) (line % 32) = true ∧
        Logged s t 0 Ev.OUT_RB_MISMATCH [line, b2n (bit s.pins.cmd line), b2n high] ∧ Only [.pins, .recs] [Reg.OUT_RBMIS_MIS (line / 32)] s t) ∧
      (∀ sp, line < 32 → high = false → s.pins.moved = [] → spareOf s line = some sp → s.sup.tally.length < 8000 →
        Completes (.readbackMismatch line high) s fun t => t.pins.moved.get? line = some sp ∧ bit (t.rd (Reg.OUT_RBMIS_MIS (line / 32))) (line % 32) = true ∧
          (∃ r l, t.sup.tally = s.sup.tally ++ r :: l ∧ r.kind = 1 ∧ r.cls = 9 ∧ r.failed = line ∧ r.spare = sp ∧ r.reason = 6) ∧
          Parts [.pins, .wear, .sup, .recs] s t)) ∧
    (∀ line sp a, line < 32 → s.pins.moved = [] → spareOf s line = some sp → s.wear.quiet.get? line = some a → a + 1000000000 ≤ s.up →
      9 ≤ wearTenths (s.rd (Reg.OUT_WEAR_OPS line)) (s.rd (Reg.OUT_RATED_RATED line)) → s.sup.tally.length < 8000 →
      Completes (.outputWearRemap line) s fun t => t.pins.moved.get? line = some sp ∧
        (∃ r l, t.sup.tally = s.sup.tally ++ r :: l ∧ r.kind = 1 ∧ r.cls = 9 ∧ r.failed = line ∧ r.spare = sp ∧ r.reason = 5) ∧
        Parts [.pins, .wear, .sup, .recs] s t) ∧
    ∀ path k (v : Word) hw, Writable s path 11 → k < 2 →
      Completes (.outRbmisClear path k v hw) s fun t =>
        (∀ i, i < (if k = 0 then 32 else 8) → bit (t.rd (Reg.OUT_RBMIS_MIS k)) i = ((bit (s.rd (Reg.OUT_RBMIS_MIS k)) i && !bit v.toNat i) || bit hw i)) ∧
        (hw = 0 → Only [] [Reg.OUT_RBMIS_MIS k] s t) ∧ Parts [.pins, .wear, .sup, .recs] s t

/-- A change gives the input its level after INV and its stamp. A loop in use more than 48 µA short of what it is asked to drive, its set point or its
fail value, shows COMPLIANCE, drives 3,600 µA in FAULT_LOW and what is delivered otherwise, and is recorded. Writing the flag clears it and what is
asked for is driven, unless the loss persists; then it is declared again. A set point is 24,000 µA at most; the loop follows it, unless it holds while
APP is not running. OPEN is set on an open loop; when a hold expires the loop drives its fail value. Rows shown to complete with their effect
(`Completes`): binaryInputChange, loopComplianceLoss, loopComplianceClear, loopSetpointWrite, loopOpen, loopHoldExpiry. -/
def Obligations.FieldInputsAndLoops : Prop :=
  ∀ (s : State) (n : Nat),
    (∀ high t', n < 64 → s.dom 0 = 2 →
      (bit s.pins.bi n ≠ (high != decide (s.rd (Reg.OUT_BICFG_INV n) = 1)) → Completes (.binaryInputChange n high t') s fun t =>
        bit t.pins.bi n = (high != decide (s.rd (Reg.OUT_BICFG_INV n) = 1)) ∧ (∀ m, m ≠ n → bit t.pins.bi m = bit s.pins.bi m) ∧
        t.pins.biStamp.get? n = some t' ∧ (s.lead = none → Only [.pins] [] s t)) ∧
      (bit s.pins.bi n = (high != decide (s.rd (Reg.OUT_BICFG_INV n) = 1)) → Completes (.binaryInputChange n high t') s fun t => Only [] [] s t)) ∧
    (n < 8 →
      (∀ delivered, s.dom 0 = 2 → Roomy s → s.rd (Reg.OUT_LPCFG_EN n) = 1 → (s.loop n).low = false → delivered + 48 < (s.loop n).ask →
        Completes (.loopComplianceLoss n delivered) s fun t => t.rd (Reg.OUT_LPSTAT_COMPLIANCE n) = 1 ∧
          (t.loop n).drive = (if s.rd (Reg.OUT_LPCFG_MODE n) = 1 then 3600 else delivered) ∧ (t.loop n).loss = true ∧
          Logged s t 0 Ev.LOOP_COMPLIANCE [n, (s.loop n).ask, delivered] ∧ (∀ m, m ≠ n → t.loop m = s.loop m) ∧
          Only [.pins, .recs] [Reg.OUT_LPSTAT_COMPLIANCE n, Reg.OUT_LPSTAT_SHORT n, Reg.OUT_LPRB_RB n] s t) ∧
      (∀ path (v : Word), Writable s path 11 → v.getLsbD 0 = true →
        ((s.loop n).low = true ∨ (s.loop n).loss = true → Completes (.loopComplianceClear path n v false) s fun t =>
          t.rd (Reg.OUT_LPSTAT_COMPLIANCE n) = 0 ∧ (t.loop n).drive = (s.loop n).ask ∧
          (t.loop n).low = false ∧ (t.loop n).loss = false ∧ Only [.pins] [Reg.OUT_LPSTAT_COMPLIANCE n, Reg.OUT_LPSTAT_SHORT n, Reg.OUT_LPRB_RB n] s t) ∧
        ((s.loop n).low = false → (s.loop n).loss = true → Completes (.loopComplianceClear path n v true) s fun t =>
          t.rd (Reg.OUT_LPSTAT_COMPLIANCE n) = 1 ∧ Only [] [Reg.OUT_LPSTAT_COMPLIANCE n] s t) ∧
        ((s.loop n).low = true → (s.loop n).deliv + 48 < (s.loop n).ask → s.rd (Reg.OUT_LPCFG_MODE n) = 1 → Roomy s →
          Completes (.loopComplianceClear path n v true) s fun t => t.rd (Reg.OUT_LPSTAT_COMPLIANCE n) = 1 ∧ (t.loop n).drive = 3600 ∧
            (t.loop n).low = true ∧ Logged s t 0 Ev.LOOP_COMPLIANCE [n, (s.loop n).ask, (s.loop n).deliv])) ∧
      (∀ path (v : Word), Writable s path 11 →
        (s.rd (Reg.OUT_LPCFG_SRC n) ≠ 1 → s.rd (Reg.OUT_LPSTAT_HOLDING n) = 0 ∨ s.runs 1 = true → Completes (.loopSetpointWrite path n v) s fun t =>
          t.rd (Reg.OUT_LPSET_SET n) = min 24000 (v.toNat % 2 ^ 15) ∧ t.rd (Reg.OUT_LPSTAT_HOLDING n) = 0 ∧ (t.loop n).low = false ∧
          (s.rd (Reg.OUT_LPCFG_EN n) = 1 → (t.loop n).ask = min 24000 (v.toNat % 2 ^ 15) ∧
            ((s.loop n).low = true ∨ (s.loop n).loss = false → (t.loop n).drive = min 24000 (v.toNat % 2 ^ 15))) ∧
          Only [.pins] [Reg.OUT_LPSET_SET n, Reg.OUT_LPSTAT_HOLDING n, Reg.OUT_LPSTAT_SHORT n, Reg.OUT_LPRB_RB n] s t) ∧
        (s.rd (Reg.OUT_LPCFG_SRC n) ≠ 1 → s.rd (Reg.OUT_LPSTAT_HOLDING n) = 1 → s.runs 1 = false → Completes (.loopSetpointWrite path n v) s fun t =>
          t.rd (Reg.OUT_LPSET_SET n) = min 24000 (v.toNat % 2 ^ 15) ∧ Only [] [Reg.OUT_LPSET_SET n] s t) ∧
        (s.rd (Reg.OUT_LPCFG_SRC n) = 1 → Completes (.loopSetpointWrite path n v) s fun t => Only [] [] s t)) ∧
      (s.dom 0 = 2 → Completes (.loopOpen n) s fun t => t.rd (Reg.OUT_LPSTAT_OPEN n) = 1 ∧ Only [] [Reg.OUT_LPSTAT_OPEN n] s t) ∧
      (s.rd (Reg.OUT_LPSTAT_HOLDING n) = 1 → Completes (.loopHoldExpiry n) s fun t =>
        (t.loop n).ask = (if s.rd (Reg.OUT_LPCFG_FAILV n) = 1 then 21000 else 3600) ∧ (t.loop n).low = false ∧
        ((s.loop n).low = true ∨ (s.loop n).loss = false → (t.loop n).drive = (t.loop n).ask) ∧
        Only [.pins] [Reg.OUT_LPSTAT_SHORT n, Reg.OUT_LPRB_RB n] s t))

/-- Below the warning the hold switch closes and the charger stops; where the bank is too small the module commits to quiesce at once. A dip that ends
before a commit is recorded with its length in µs since the switch closed. With both levels below VQ the module commits: QUIESCE is set, the hold has
cause 4, no half holds LEASH, every line is low, domains 1 to 6 are OFF, OPSEC is saved, the shutdown marker is written with it and the power-cycle
count, and POWER_FAIL is among the saved records. One input below the warning while the other is good is recorded. In SHUTDOWN the return of the
supply leaves the restart to the exit from it. A collapse of the bus leaves MRAM, the tally, the logs, both devices, and of the RTC its count and OSF,
and puts every other register at its reset value. Rows shown to complete with their effect (`Completes`): holdSwitchClose, pwrRideThrough,
quiesceCommit, vinInputLost, quiesceRestart, busCollapse. -/
def Obligations.SupplyAndQuiesce : Prop :=
  ∀ s : State,
    (∀ vin vhold, s.dom 0 = 2 → s.pwr.holdSw = false → vin < s.rd Reg.PWR_CFG_WARN → holdSmall s = true → s.pwr.quiesced = false →
      Completes (.holdSwitchClose vin vhold) s fun t => t.pwr.holdSw = true ∧ t.pwr.quiesced = true ∧ t.rd Reg.OUT_STAT_HOLDCAUSE = 4 ∧
        t.pins.cmd = 0) ∧
    (∀ vin vhold, s.dom 0 = 2 → s.pwr.holdSw = false → vin < s.rd Reg.PWR_CFG_WARN → holdSmall s = false →
      Completes (.holdSwitchClose vin vhold) s fun t => t.pwr = { s.pwr with holdSw := true, holdSince := s.up, charge := false } ∧ t.rd Reg.PWR_STAT_WARN = 1 ∧ t.rd Reg.PWR_STAT_VINA_OK = 0 ∧
      t.rd Reg.PWR_STAT_VINB_OK = 0 ∧ Only [.pwr] [Reg.PWR_STAT_WARN, Reg.PWR_STAT_VINA_OK, Reg.PWR_STAT_VINB_OK] s t) ∧
    (s.dom 0 = 2 → s.pwr.holdSw = true → s.pwr.quiesced = false → Roomy s → Completes .pwrRideThrough s fun t =>
      t.pwr = { s.pwr with holdSw := false } ∧ t.rd Reg.PWR_STAT_WARN = 0 ∧ Logged s t 0 Ev.PWR_RIDE_THROUGH [min ((s.up - s.pwr.holdSince) / 1000) 0xFFFFFFFF] ∧
      Only [.pwr, .recs] [Reg.PWR_STAT_WARN] s t) ∧
    (∀ vin vhold, s.dom 0 = 2 → s.pwr.holdSw = true → s.pwr.quiesced = false → belowVq s vin = true → belowVq s vhold = true → Roomy s →
      Completes (.quiesceCommit vin vhold) s fun t => t.pwr.quiesced = true ∧ t.rd Reg.PWR_STAT_QUIESCE = 1 ∧ t.rd Reg.OUT_STAT_HOLD = 1 ∧
        t.rd Reg.OUT_STAT_HOLDCAUSE = 4 ∧ t.rd Reg.BRC_STAT_LEASH = 0 ∧ t.rd Reg.BRC_STAT_LSHOUT = 0 ∧ t.pins.cmd = 0 ∧
        (∀ d, 1 ≤ d → d ≤ 6 → t.dom d = 0) ∧ t.tb.opsecSaved = s.opsec ∧
        (∃ b, b = pack [(4, 0x4B524D53), (4, s.opsec), (3, s.rd Reg.RTC_PCYC_PCYC), (1, 0)] ∧ t.sup.marker = some (b ++ le 4 (crc32 b))) ∧
        ∃ p ∈ t.recs.saved, p.log = 0 ∧ p.rcd.code = Ev.POWER_FAIL ∧ p.rcd.par0 = vin % 2 ^ 32 ∧ p.rcd.par1 = vhold % 2 ^ 32) ∧
    (∀ b level, s.dom 0 = 2 → s.rd Reg.PWR_STAT_VINA_OK = 1 → s.rd Reg.PWR_STAT_VINB_OK = 1 → level < s.rd Reg.PWR_CFG_WARN → Roomy s →
      Completes (.vinInputLost b level) s fun t => t.rd (if b then Reg.PWR_STAT_VINB_OK else Reg.PWR_STAT_VINA_OK) = 0 ∧
        Logged s t 0 Ev.VIN_INPUT_LOST [if b then 0x0B else 0x0A] ∧
        Only [.pwr, .recs] [if b then Reg.PWR_STAT_VINB_OK else Reg.PWR_STAT_VINA_OK] s t) ∧
    (∀ ms, s.dom 0 = 2 → s.pwr.holdSw = true → s.pwr.quiesced = true → s.pwr.thermal = true → Completes (.quiesceRestart ms) s fun t =>
      t.pwr = { s.pwr with holdSw := false } ∧ t.rd Reg.PWR_STAT_WARN = 0 ∧ t.rd Reg.PWR_STAT_QUIESCE = 0 ∧
      Only [.pwr] [Reg.PWR_STAT_WARN, Reg.PWR_STAT_QUIESCE] s t) ∧
    Completes .busCollapse s fun t => t.sup.tally = s.sup.tally ∧ t.sup.marker = s.sup.marker ∧ t.recs.logs = s.recs.logs ∧ t.recs.saved = s.recs.saved ∧
      t.cfg = { devA := s.cfg.devA, devB := s.cfg.devB } ∧ t.tb.rtc = s.tb.rtc ∧ t.key.store = s.key.store ∧
      (∀ g : Fld, g.key ∉ mramKeys → g.key ≠ Reg.RTC_STAT_OSF.key → t.rd g = State.reset.rd g) ∧
      ((s.regs.map Prod.fst).Nodup → ∀ (g : Fld) (v : Nat), g.key ∈ mramKeys → s.regs.get? g.key = some v → t.rd g = v)

/-- THROTTLE and SHUTDOWN begin and end with THERMAL_STATE; SHUTDOWN quiesces with hold cause 5. Without the reference domains 1 to 5 are in RESET, MFE
goes on, the hold has cause 3, no half holds LEASH and time is the RTC's; quiesced or in recovery only the flags and the record change, and the return
only clears OCXO_LOST. The tick counts SUP_HEARTBEAT, shows the levels, runs the charger and re-arms HEALTHY. PERST_N low ends what is outstanding
over the endpoint and nothing else. IDCODE captures the module's type code in bits 27:12; outside recovery mode a JTAG instruction that drives pins is
BYPASS. Rows shown to complete with their effect (`Completes`): thermalThrottleEntry, thermalThrottleExit, thermalShutdownEntry, thermalShutdownExit,
ocxoLost, ocxoRestored, heartbeatTick, healthyTimeout, hostPerst, jtagInstruction. -/
def Obligations.ThermalReferenceAndTick : Prop :=
  ∀ s : State, s.dom 0 = 2 →
    (Roomy s →
      (s.rd Reg.PWR_STAT_THROTTLE = 0 → Completes .thermalThrottleEntry s fun t => t.rd Reg.PWR_STAT_THROTTLE = 1 ∧ Logged s t 0 Ev.THERMAL_STATE [1, 1] ∧
        (s.runs 4 = true → t.rd Reg.RAD_STAT_THROT = 1) ∧ Only [.recs, .rad] [Reg.PWR_STAT_THROTTLE, Reg.RAD_STAT_THROT, Reg.RAD_TXCAP_ONAIR,
          Reg.RAD_TXCAP_MAXCAR, Reg.ARC_STAT_STATE] s t) ∧
      (s.rd Reg.PWR_STAT_THROTTLE = 1 → Completes .thermalThrottleExit s fun t => t.rd Reg.PWR_STAT_THROTTLE = 0 ∧ Logged s t 0 Ev.THERMAL_STATE [1, 0] ∧
        (s.runs 4 = true → t.rd Reg.RAD_STAT_THROT = 0) ∧ Only [.recs, .rad] [Reg.PWR_STAT_THROTTLE, Reg.RAD_STAT_THROT, Reg.RAD_TXCAP_ONAIR,
          Reg.RAD_TXCAP_MAXCAR, Reg.ARC_STAT_STATE] s t) ∧
      (s.pwr.thermal = false → s.pwr.quiesced = false → Completes .thermalShutdownEntry s fun t => t.pwr.thermal = true ∧ t.pwr.quiesced = true ∧
        t.rd Reg.OUT_STAT_HOLDCAUSE = 5 ∧ t.pins.cmd = 0 ∧ (∀ d, 1 ≤ d → d ≤ 6 → t.dom d = 0) ∧
        ∃ p ∈ t.recs.saved, p.log = 0 ∧ p.rcd.code = Ev.THERMAL_STATE ∧ p.rcd.par0 = 2 ∧ p.rcd.par1 = 1) ∧
      (∀ ms, s.pwr.thermal = true → s.pwr.holdSw = true → Completes (.thermalShutdownExit ms) s fun t => t.pwr = { s.pwr with thermal := false } ∧
        Logged s t 0 Ev.THERMAL_STATE [2, 0] ∧ Only [.pwr, .recs] [] s t) ∧
      (s.rd Reg.SUP_DOMSTAT_OCXO_LOST = 0 →
        (s.pwr.quiesced = true ∨ s.rd Reg.UPD_STAT_RCV = 1 → Completes .ocxoLost s fun t => t.rd Reg.SUP_DOMSTAT_OCXO_LOST = 1 ∧
          t.rd Reg.OUT_MCLK_FALLBK = 1 ∧ Logged s t 0 Ev.OCXO_LOST [] ∧ Only [.recs] [Reg.SUP_DOMSTAT_OCXO_LOST, Reg.OUT_MCLK_FALLBK] s t) ∧
        (s.pwr.quiesced = false → s.rd Reg.UPD_STAT_RCV = 0 → Completes .ocxoLost s fun t => t.rd Reg.SUP_DOMSTAT_OCXO_LOST = 1 ∧
          t.rd Reg.OUT_MCLK_FALLBK = 1 ∧ t.rd Reg.OUT_STAT_HOLD = 1 ∧ t.rd Reg.OUT_STAT_HOLDCAUSE = 3 ∧ t.rd Reg.BRC_STAT_LEASH = 0 ∧
          t.rd Reg.BRC_STAT_LSHOUT = 0 ∧ t.brace 0 = 0 ∧ t.brace 1 = 0 ∧ (∀ d, 1 ≤ d → d ≤ 5 → t.dom d = 1) ∧ t.dom 6 = s.dom 6 ∧
          (t.tb.ns, t.tb.q) = fromRtc s ∧ Logged s t 0 Ev.OCXO_LOST []))) ∧
    (∀ ms, s.rd Reg.SUP_DOMSTAT_OCXO_LOST = 1 → s.pwr.quiesced = true ∨ s.rd Reg.UPD_STAT_RCV = 1 → Completes (.ocxoRestored ms) s fun t =>
      t.rd Reg.SUP_DOMSTAT_OCXO_LOST = 0 ∧ Only [] [Reg.SUP_DOMSTAT_OCXO_LOST] s t) ∧
    (∀ (a b h vbak : Nat) (temp : Int) (volt : List (Nat × Nat)), (∀ n, n < 8 → s.rd (Reg.OUT_LPCFG_SRC n) = 0 ∧ (s.loop n).loss = false) →
      Completes (.heartbeatTick a b h vbak temp volt) s fun t =>
      t.rd Reg.SUP_HEARTBEAT_HB = (s.rd Reg.SUP_HEARTBEAT_HB + 1) % 2 ^ 32 ∧ t.sup.armed = true ∧ t.rd Reg.PWR_MON_VIN = min 1023 (max a b) ∧
      t.rd Reg.PWR_MON_VHOLD = min 1023 h ∧ (-128 ≤ temp → temp ≤ 127 → toS 8 (t.rd Reg.PWR_MON_TEMP) = temp) ∧
      t.rd Reg.PWR_STAT_VINA_OK = (if s.rd Reg.PWR_CFG_WARN ≤ a then 1 else 0) ∧ t.rd Reg.PWR_STAT_VINB_OK = (if s.rd Reg.PWR_CFG_WARN ≤ b then 1 else 0) ∧
      (t.pwr.charge = true ↔ vsetLevel s ≠ 0 ∧ s.rd Reg.PWR_CFG_WARN ≤ max a b ∧ s.pwr.holdSw = false) ∧
      Only [.pwr, .sup] [Reg.RTC_STAT_VBAKLOW, Reg.SUP_HEARTBEAT_HB, Reg.PWR_MON_VIN, Reg.PWR_MON_VHOLD, Reg.PWR_MON_TEMP, Reg.PWR_STAT_VINA_OK, Reg.PWR_STAT_VINB_OK,
        Reg.PWR_HOLD_VQ, Reg.PWR_STAT_HOLD_SMALL, Reg.PWR_STAT_HOLD_OK] s t) ∧
    Completes .healthyTimeout s (fun t => t.sup = { s.sup with armed := false, seq := t.sup.seq } ∧ Only [.sup] [] s t) ∧
    Completes (.hostPerst false) s (fun t => t.pwr = { s.pwr with perst := false } ∧ Only [.pwr] [] s t) ∧
    (s.hbr.waiting = [] → Completes (.hostPerst true) s fun t => t.pwr = { s.pwr with perst := true } ∧
      t.side 0 = { s.side 0 with chan := none, txns := [], wait := [], far := [], pass := false } ∧ Only [.pwr, .hbr] [] s t) ∧
    ∀ ir, (ir < 3 → Completes (.jtagInstruction ir) s fun t => t.pwr = { s.pwr with jtag := ir, jtagDr := t.pwr.jtagDr, jtagDrive := false } ∧
        (ir = 0 → t.pwr.jtagDr = 0) ∧ (ir = 1 → t.pwr.jtagDr % 2 = 1 ∧ t.pwr.jtagDr / 4096 % 65536 = s.fuses.typ % 65536) ∧
        (ir = 2 → t.pwr.jtagDr = s.pwr.jtagDr) ∧ Only [.pwr] [] s t) ∧
      (3 ≤ ir → s.rd Reg.UPD_STAT_RCV ≠ 1 → Completes (.jtagInstruction ir) s fun t => t.pwr = { s.pwr with jtag := 0, jtagDr := 0, jtagDrive := false } ∧
        Only [.pwr] [] s t) ∧
      (3 ≤ ir → s.rd Reg.UPD_STAT_RCV = 1 → Completes (.jtagInstruction ir) s fun t => t.pwr = { s.pwr with jtag := ir, jtagDrive := true } ∧
        Only [.pwr] [] s t)

/-- An enabled element of a channel it watches, whose newest COUNT samples stand at or above THR, picks up and shows it. Picked up for DLY it requests a
trip (in mode NOLEAD only while no half leads): its flag is set, BACKUP_OC_TRIP is recorded and its lines are high. It drops out after 12 ms, and its
request ends BKHOLD later. These times are those of the always-on clock. Rows shown to complete with their effect (`Completes`): backupOcPickup,
backupOcTrip, backupOcDropout, backupOcHoldExpiry. -/
def Obligations.BackupElements : Prop :=
  ∀ (s : State) (e : Nat) (c : BkCfg), e < 8 → bkCfg s e = some c →
    (∀ ch bits, atThreshold c bits = true → s.fuses.suiteP = true → s.runs 6 = true → (s.bk.getD e {}).picked = false → bit c.chmask ch = true →
      bit (s.rd Reg.MTR_STUCK_STUCK) (4 * e + ch) = false →
      Completes (.backupOcPickup e ch bits) s fun t => t.bk.get? e = some { s.bk.getD e {} with picked := true, ch := ch, since := s.up } ∧
        bit (t.rd Reg.OUT_BKSTAT_PICKUP) e = true ∧ (∀ i, i ≠ e → t.bk.get? i = s.bk.get? i) ∧
        Only [.bk] [Reg.OUT_BKSTAT_PICKUP, Reg.OUT_BKSTAT_REQ] s t) ∧
    (∀ ch f, s.runs 6 = true → (s.bk.getD e {}).picked = true → (s.bk.getD e {}).req = false → (s.bk.getD e {}).since + c.dly * 1000000 ≤ s.up →
      (c.nolead = true → s.lead = none) → Roomy s → s.fuses.suiteP = true → sec0F s = some f → s.pins.moved = [] → s.pins.limited = 0 →
      s.pins.first = true → s.pwr.quiesced = false →
      Completes (.backupOcTrip e ch) s fun t => t.bk.get? e = some { s.bk.getD e {} with req := true } ∧ bit (t.rd Reg.OUT_BKSTAT_REQ) e = true ∧
        bit (t.rd Reg.OUT_BKSTAT_TRIPPED) e = true ∧ Logged s t 0 Ev.BACKUP_OC_TRIP [e, ch] ∧
        (∀ l ∈ f.bkmap.getD e [], l < 40 → bit t.pins.cmd l = true) ∧ Parts [.bk, .pins, .wear, .sup, .recs] s t) ∧
    ((s.bk.getD e {}).picked = true → (s.bk.getD e {}).since + 12000000 ≤ s.up → Completes (.backupOcDropout e) s fun t =>
      t.bk.get? e = some { s.bk.getD e {} with picked := false, since := s.up } ∧ bit (t.rd Reg.OUT_BKSTAT_PICKUP) e = false ∧
      Only [.bk] [Reg.OUT_BKSTAT_PICKUP, Reg.OUT_BKSTAT_REQ] s t) ∧
    ((s.bk.getD e {}).picked = false → (s.bk.getD e {}).req = true → (s.bk.getD e {}).since + c.hold * 10000000 ≤ s.up →
      Completes (.backupOcHoldExpiry e) s fun t => t.bk.get? e = some { s.bk.getD e {} with req := false } ∧ bit (t.rd Reg.OUT_BKSTAT_REQ) e = false ∧
        Parts [.bk, .pins, .wear, .sup, .recs] s t)

/-- A cold start with RECOVER_N low, or without a burl, three regenerations having failed or no copy of the helper data being good: the power-cycle count
is one more, OPSEC is the saved one, cause COLD is set with BROWNOUT when the marker is missing or bad, the marker is gone, the hold is engaged for
start-up, and the module is in recovery mode by the host's route, or for want of a burl. A restart that is due (HOSTCMD, BOOTFAIL, APPLYRST), the 40 s
of a boot attempt, the end of a quiesce, of SHUTDOWN or of the loss of the reference: with no device to start from, that cause is recorded and
recovery mode entered; the attempt's device has one failure more. The modulator clocks stay on the fallback source, since no domain leaves reset. Rows
shown to complete with their effect (`Completes`): coldStart, warmRestart, bootAttemptTimeout, quiesceRestart, thermalShutdownExit, ocxoRestored. -/
def Obligations.Starts : Prop :=
  (∀ (b : BurlRun) (ms : List Nat) (s : State), s.dom 0 ≠ 2 →
    (1 ≤ b.tries → b.tries ≤ 3 → helperSrc b.bad ≠ none → Completes (.coldStart b true ms) s fun t => t.dom 0 = 2 ∧ (∀ d, 1 ≤ d → d ≤ 6 → t.dom d = 1) ∧
      Counted s t Reg.RTC_PCYC_PCYC ∧ t.rd Reg.RTC_OPSEC_OPSEC = s.tb.opsecSaved % 2 ^ 32 ∧ t.rd Reg.SUP_RSTCAUSE_COLD = 1 ∧
      t.rd Reg.SUP_RSTCAUSE_BROWNOUT = (if markerOk s then 0 else 1) ∧ t.sup.marker = none ∧ t.rd Reg.OUT_STAT_HOLD = 1 ∧
      t.rd Reg.OUT_STAT_HOLDCAUSE = 6 ∧ t.rd Reg.SUP_BOOT_BURLTRY = b.tries ∧ t.rd Reg.UPD_STAT_RCV = 1 ∧ t.rd Reg.UPD_STAT_RCVCAUSE = 0) ∧
    (∀ low, b.tries = 0 ∨ 3 < b.tries ∨ helperSrc b.bad = none → Completes (.coldStart b low ms) s fun t => t.dom 0 = 2 ∧ Counted s t Reg.RTC_PCYC_PCYC ∧
      t.key.burl = false ∧ t.rd Reg.UPD_STAT_RCV = 1 ∧ t.rd Reg.UPD_STAT_RCVCAUSE = 1)) ∧
  ∀ (ms : List Nat) (s : State), s.dom 0 = 2 → NoDevice s →
    (∀ c, c = 5 ∨ c = 6 ∨ c = 8 → s.sup.due = some c → s.rd Reg.SUP_DOMSTAT_OCXO_LOST = 0 →
      Completes (.warmRestart c ms) s fun t => RestartedToRecovery c s t) ∧
    (∀ d, d < 2 → s.sup.attempt = true → s.sup.attemptAt + 40000000000 ≤ s.up → s.rd Reg.SUP_BOOT_DEV = d + 1 → Completes (.bootAttemptTimeout ms) s fun t =>
      RestartedToRecovery 6 s t ∧ t.rd (failFld d) = min 2 (s.rd (failFld d) + 1)) ∧
    (s.rd Reg.SUP_DOMSTAT_OCXO_LOST = 0 → s.pwr.holdSw = true → s.pwr.quiesced = true → s.pwr.thermal = false →
      Completes (.quiesceRestart ms) s fun t => RestartedToRecovery 2 s t ∧ t.pwr.quiesced = false ∧ t.pwr.holdSw = false) ∧
    (s.rd Reg.SUP_DOMSTAT_OCXO_LOST = 0 → s.pwr.thermal = true → s.pwr.holdSw = false →
      Completes (.thermalShutdownExit ms) s fun t => RestartedToRecovery 3 s t ∧ t.pwr.thermal = false) ∧
    (s.rd Reg.SUP_DOMSTAT_OCXO_LOST = 1 → s.pwr.quiesced = false → s.rd Reg.UPD_STAT_RCV = 0 → s.rd Reg.SUP_BOOT_DEV = 0 →
      Completes (.ocxoRestored ms) s fun t => RestartedToRecovery 4 s t ∧ t.rd Reg.SUP_DOMSTAT_OCXO_LOST = 0 ∧ t.rd Reg.OUT_MCLK_FALLBK = s.rd Reg.OUT_MCLK_FALLBK)

/-- A restart that is due, CFG_A holding a confirmed generation with fewer than two failures whose billet and image pass their checks, CFG_B without a
faceplate, no key saved for the chuck: the boot attempt reaches the image. The running image and billet are CFG_A's, the attempt is under way, and
SUP_BOOT shows the device. Rows shown to complete with their effect (`Completes`): warmRestart. -/
def Obligations.RestartLoadsTheGoodDevice : Prop :=
  ∀ (ms : List Nat) (s : State) (c : Nat) (p : Plate) (b : Billet) (i : Image), s.dom 0 = 2 → c = 5 ∨ c = 6 ∨ c = 8 → s.sup.due = some c →
    s.rd Reg.SUP_DOMSTAT_OCXO_LOST = 0 → s.plate 0 = some p → s.plate 1 = none → p.cst = 0x0F → p.bst = 0x0F →
    s.rd (failFld 0) < 2 → s.cfg.devA.billet = some b → s.cfg.devA.image = some i → s.key.slots = [] → s.key.store = [] →
    billetCheck s p.bilLen b = none → imageCheck s b.fmttab false true p.cfgLen i = none →
    Completes (.warmRestart c ms) s fun t => t.cfg.image = some i ∧ t.cfg.dev = 0 ∧ t.upd.run = some b ∧ t.sup.attempt = true ∧
      t.cfg.devA = s.cfg.devA ∧ t.cfg.devB = s.cfg.devB ∧ t.sup.due = none

/-- With the conditions met, BOOT_OK clears the device's failure count; a confirmed billet whose SVN is above the floor raises it; a billet on trial
starts its TRIAL. RESTART is answered OK and makes a restart due. BOOT_CLEAR clears the count of the device it names; any other number is BAD_PARAM.
CFG_STATUS gives state, last status, sequence numbers, remaining probation, discarded edits and defaulted sections. Rows shown to complete with their
effect (`Completes`): bootOk, restart, bootClear, cfgStatus. -/
def Obligations.BootOkAndItsCommands : Prop :=
  ∀ s : State,
    (∀ p, s.sup.attempt = true → bootReady s = true → s.plate s.cfg.dev = some p →
      (p.bst = 0x0F → (s.upd.run.map (·.svn)).getD 0 ≤ s.rd Reg.UPD_FLOOR_FLOOR → Completes .bootOk s fun t => t.sup.attempt = false ∧ t.sup.bootOk = true ∧
        t.rd Reg.SUP_BOOT_STAGE = 6 ∧ t.rd (failFld s.cfg.dev) = 0 ∧ Only [.sup] [Reg.SUP_BOOT_STAGE, failFld s.cfg.dev] s t) ∧
      (∀ b, p.bst = 0x0F → s.upd.run = some b → s.rd Reg.UPD_FLOOR_FLOOR < b.svn → b.svn < 2 ^ 32 → Roomy s → Completes .bootOk s fun t =>
        t.rd Reg.UPD_FLOOR_FLOOR = b.svn ∧ Logged s t 8 Ev.SVN_RAISED [s.rd Reg.UPD_FLOOR_FLOOR, b.svn] ∧ t.rd Reg.SUP_BOOT_STAGE = 6 ∧
        Only [.sup, .recs] [Reg.SUP_BOOT_STAGE, failFld s.cfg.dev, Reg.UPD_FLOOR_FLOOR] s t) ∧
      (p.bst = 0x7F → s.upd.trial ≠ 0 → Completes .bootOk s fun t => t.upd = { s.upd with trialEnd := some (s.up + s.upd.trial * 1000000000) } ∧
        t.rd Reg.UPD_STAT_STATE = 4 ∧ t.rd Reg.SUP_BOOT_STAGE = 6 ∧
        Only [.sup, .upd] [Reg.SUP_BOOT_STAGE, failFld s.cfg.dev, Reg.UPD_STAT_STATE] s t)) ∧
    ∀ tag,
      (Takes s 0x0101 → s.sup.due = none → Completes (.restart tag) s fun t => Answers s t 0x0101 tag 0 s.tai [] ∧ t.sup.due = some 5 ∧
        Only [.sup, .mbx] [Reg.MBX_RSPPI] s t) ∧
      (Takes s 0x0207 →
        Completes (.bootClear tag 0x0A) s (fun t => Answers s t 0x0207 tag 0 s.tai [] ∧ t.rd Reg.SUP_BOOT_FAILA = 0 ∧
          Only [.mbx] [Reg.MBX_RSPPI, Reg.SUP_BOOT_FAILA] s t) ∧
        Completes (.bootClear tag 0x0B) s (fun t => Answers s t 0x0207 tag 0 s.tai [] ∧ t.rd Reg.SUP_BOOT_FAILB = 0 ∧
          Only [.mbx] [Reg.MBX_RSPPI, Reg.SUP_BOOT_FAILB] s t) ∧
        ∀ dev, dev ≠ 0x0A → dev ≠ 0x0B → Denied (.bootClear tag dev) s 0x0207 tag St.BAD_PARAM) ∧
      (Takes s 0x0205 → Completes (.cfgStatus tag) s fun t => Answers s t 0x0205 tag 0 s.tai
        (pack [(1, s.rd Reg.SUP_CFGSTAT_STATE), (1, s.cfg.lastStat), (2, 0), (4, s.rd Reg.SUP_CFGACT_SEQ), (4, stageSeq s),
          (4, if s.rd Reg.SUP_CFGSTAT_STATE = 5 then secsTo s s.cfg.probEnd else 0), (4, s.cfg.discard), (2, 2 * s.rd Reg.SUP_CFGSTAT_DEF), (2, 0)]) ∧
        Only [.mbx] [Reg.MBX_RSPPI] s t)

/-- CFG_STAGE_OPEN in the idle state maps the buffer at window 7 for writing only and is answered OK; in any other state, or during an update, BUSY.
CFG_STAGE_COMMIT without an open stage is answered 0x81, with a mode, time or length out of range BAD_PARAM; an image that fails a check is answered
with that check's status, kept as the last one, with CFG_COMMIT_FAILED; one that passes, AT_RESTART, is being written, the other device withdrawn
before. A write that fails is answered FLASH_FAIL, and the other device shows no image that is not withdrawn. One that succeeds leaves the other
device with the image, a confirmed faceplate and the next sequence number, and makes the restart APPLYRST due. Rows shown to complete with their
effect (`Completes`): cfgStageOpen, cfgStageCommit, cfgWriteComplete. -/
def Obligations.StagingAnImage : Prop :=
  ∀ (s : State) (tag : Nat),
    (Takes s 0x0201 →
      (s.rd Reg.SUP_CFGSTAT_STATE = 0 → updBusy s = false → s.cfg.win7 ≠ 1 → fabWaits s = false → Completes (.cfgStageOpen tag) s fun t =>
        Answers s t 0x0201 tag 0 s.tai [] ∧ t.rd Reg.SUP_CFGSTAT_STATE = 1 ∧ t.cfg = { s.cfg with win7 := 1 } ∧ t.rd (Reg.HBR_WIN_POL_EN 7) = 1 ∧
        t.rd (Reg.HBR_WIN_POL_WR 7) = 1 ∧ t.rd (Reg.HBR_WIN_POL_RD 7) = 0 ∧ t.rd Reg.SUP_FEPOCH_FEPOCH = (s.rd Reg.SUP_FEPOCH_FEPOCH + 1) % 2 ^ 16 ∧
        Only [.cfg, .mbx] [Reg.MBX_RSPPI, Reg.SUP_CFGSTAT_STATE, Reg.SUP_FEPOCH_FEPOCH, Reg.HBR_WIN_MAP_SIZE 7, Reg.HBR_WIN_MAP_BASE 7, Reg.HBR_WIN_POL_EN 7,
          Reg.HBR_WIN_POL_RD 7, Reg.HBR_WIN_POL_WR 7, Reg.HBR_WIN_POL_LOCK 7, Reg.HBR_WIN_POL_LANE 7, Reg.HBR_WIN_POL_PATH 7] s t) ∧
      (s.rd Reg.SUP_CFGSTAT_STATE ≠ 0 ∨ updBusy s = true → Denied (.cfgStageOpen tag) s 0x0201 tag St.BUSY)) ∧
    (Takes s 0x0202 → updBusy s = false → ∀ len mode prob img,
      (s.rd Reg.SUP_CFGSTAT_STATE = 0 → Denied (.cfgStageCommit tag len mode prob img) s 0x0202 tag 0x81) ∧
      (s.rd Reg.SUP_CFGSTAT_STATE = 1 → mode = 0 ∨ 2 < mode ∨ trialOk prob = false ∨ 0x2000000 < len →
        Denied (.cfgStageCommit tag len mode prob img) s 0x0202 tag St.BAD_PARAM) ∧
      (∀ st, s.rd Reg.SUP_CFGSTAT_STATE = 1 → 1 ≤ mode → mode ≤ 2 → trialOk prob = true → len ≤ 0x2000000 → imageCheck s (fmtTab s) true true len img = some st →
        st ≠ 0 → Roomy s → Completes (.cfgStageCommit tag len mode prob img) s fun t => Answers s t 0x0202 tag st s.tai [] ∧
          t.rd Reg.SUP_CFGSTAT_STATE = 0 ∧ t.cfg.lastStat = st ∧ t.cfg.apply = none ∧ t.cfg.win7 = 0 ∧ t.cfg.devA = s.cfg.devA ∧ t.cfg.devB = s.cfg.devB ∧
          Logged s t 8 Ev.CFG_COMMIT_FAILED [st]) ∧
      (s.rd Reg.SUP_CFGSTAT_STATE = 1 → trialOk prob = true → len ≤ 0x2000000 → imageCheck s (fmtTab s) true true len img = none → s.cfg.dev < 2 →
        Completes (.cfgStageCommit tag len 2 prob img) s fun t => t.rd Reg.SUP_CFGSTAT_STATE = 3 ∧ t.cfg.win7 = 0 ∧
          t.dev (1 - s.cfg.dev) = (s.dev (1 - s.cfg.dev)).program 0 0xFF ∧ t.dev s.cfg.dev = s.dev s.cfg.dev ∧ (0x0202, tag) ∈ t.mbx.prog ∧
          ∃ a, t.cfg.apply = some a ∧ a.mode = 2 ∧ a.prob = prob ∧ a.tag = tag ∧ a.raw = img ∧ a.phase = 1 ∧ a.kind = 0)) ∧
    ∀ a, s.cfg.apply = some a → a.phase = 1 → s.rd Reg.SUP_CFGSTAT_STATE = 3 → (0x0202, a.tag) ∈ s.mbx.prog → Roomy s →
      (∀ e, e ≠ WriteEnd.ok → s.cfg.dev < 2 → Completes (.cfgWriteComplete e) s fun t => Answers s t 0x0202 a.tag St.FLASH_FAIL s.tai [] ∧
        t.rd Reg.SUP_CFGSTAT_STATE = 0 ∧ t.cfg.apply = none ∧ t.cfg.lastStat = St.FLASH_FAIL ∧ t.dev s.cfg.dev = s.dev s.cfg.dev ∧
        (∀ p, t.plate (1 - s.cfg.dev) = some p → p.cst = 0) ∧ Logged s t 8 Ev.CFG_COMMIT_FAILED [St.FLASH_FAIL] ∧
        Only [.cfg, .mbx, .recs, .key, .free] [Reg.MBX_RSPPI, Reg.SUP_CFGSTAT_STATE] s t) ∧
      (a.mode = 2 → s.sup.due = none → s.cfg.dev < 2 → a.raw.total ≤ 0x2000000 → (s.upd.run.map (·.total)).getD 0 ≤ 0x4000000 →
        Completes (.cfgWriteComplete .ok) s fun t => Answers s t 0x0202 a.tag 0 s.tai [] ∧
        t.sup.due = some 8 ∧ t.cfg.apply = none ∧ (t.dev (1 - s.cfg.dev)).image = some a.raw ∧ t.rd (failFld (1 - s.cfg.dev)) = 0 ∧
        t.dev s.cfg.dev = s.dev s.cfg.dev ∧
        ∃ p, t.plate (1 - s.cfg.dev) = some p ∧ p.seq = (s.rd Reg.SUP_CFGACT_SEQ + 1) % 2 ^ 32 ∧ p.cst = 0x0F)

/-- With every step made and none waiting for its moment, the new image is the running one, the other device its own, and probation runs for the time
asked. A step that fails after all were made, nothing differing between the images: the sections before it are in force again, the new device is
withdrawn, the apply is over, with CFG_APPLY_FAILED. CFG_CONFIRM outside probation is answered 0x81, in probation it confirms the device, with
CFG_CONFIRMED. The end of probation and CFG_ROLLBACK bring the image before it back, the device withdrawn, with CFG_ROLLBACK. At the drain limit of a
fabric epoch the reads of the older one are gone and counted; a change that waited opens when none is left; the other kinds change nothing. Rows shown
to complete with their effect (`Completes`): cfgApplyComplete, cfgApplyFailed, cfgConfirm, cfgRollback, cfgProbationExpiry, epochDrainLimit,
epochPendingChange. -/
def Obligations.ApplyProbationAndEpochs : Prop :=
  ∀ s : State,
    (∀ a, s.cfg.apply = some a → a.kind = 0 → a.phase = 3 → s.rd Reg.SUP_CFGSTAT_STATE = 4 → s.cfg.dev < 2 → s.cfg.due = [] →
      (a.prob ≠ 0 → s.cfg.old03 = none → Completes .cfgApplyComplete s fun t => t.cfg.image = some a.raw ∧ t.cfg.dev = 1 - s.cfg.dev ∧ t.cfg.before = a.frm ∧ t.cfg.apply = none ∧
        t.cfg.secs = a.img.secs ∧ t.cfg.probEnd = some (s.up + a.prob * 1000000000) ∧ t.rd Reg.SUP_CFGSTAT_STATE = 5 ∧ t.rd Reg.SUP_CFGSTAT_DEF = 0 ∧
        t.rd Reg.SUP_CFGACT_SEQ = devSeq s (1 - s.cfg.dev) % 2 ^ 32 ∧
        Only [.cfg] [Reg.SUP_CFGSTAT_STATE, Reg.SUP_CFGSTAT_DEF, Reg.SUP_CFGSTAT_DEFAULTS, Reg.SUP_CFGACT_SEQ] s t) ∧
      (∀ sec i c, 2 ≤ sec → sec ≤ 15 → a.frm = some (i, c) → a.edits = [] → i.dir = a.img.dir → s.fuses.suiteP = true →
        (s.cfg.secs.s0f.map (·.outCrc)).getD 0 = (c.s0f.map (·.outCrc)).getD 0 → Roomy s →
        Completes (.cfgApplyFailed sec) s fun t => t.cfg.apply = none ∧ t.cfg.secs = c ∧ t.cfg.dev = s.cfg.dev ∧ t.rd Reg.SUP_CFGSTAT_STATE = 0 ∧
          t.rd Reg.SUP_CFGSTAT_DEF = a.def0 % 2 ^ 15 ∧ t.dev (1 - s.cfg.dev) = (s.dev (1 - s.cfg.dev)).program 0 0xFF ∧ t.cfg.lastStat < 256 ∧
          Logged s t 8 Ev.CFG_APPLY_FAILED [sec] ∧
          Only [.cfg, .recs, .free] [Reg.SUP_CFGSTAT_STATE, Reg.SUP_CFGSTAT_DEF, Reg.SUP_CFGSTAT_DEFAULTS] s t)) ∧
    (∀ tag, Takes s 0x0203 →
      (s.rd Reg.SUP_CFGSTAT_STATE ≠ 5 → Denied (.cfgConfirm tag) s 0x0203 tag 0x81) ∧
      (s.rd Reg.SUP_CFGSTAT_STATE = 5 → s.cfg.dev < 2 → Roomy s → Completes (.cfgConfirm tag) s fun t => Answers s t 0x0203 tag 0 s.tai [] ∧
        t.rd Reg.SUP_CFGSTAT_STATE = 0 ∧ t.dev s.cfg.dev = (s.dev s.cfg.dev).program 0x0F 0xFF ∧ t.rd (failFld s.cfg.dev) = 0 ∧ t.cfg.before = none ∧
        t.cfg.probEnd = none ∧ Logged s t 8 Ev.CFG_CONFIRMED [devSeq t s.cfg.dev] ∧
        Only [.cfg, .mbx, .recs] [Reg.MBX_RSPPI, Reg.SUP_CFGSTAT_STATE, failFld s.cfg.dev] s t)) ∧
    (∀ i c j, s.cfg.before = some (i, c) → s.cfg.image = some j → j.dir = i.dir → s.cfg.edited = [] → s.cfg.due = [] → s.cfg.dev < 2 → s.rd Reg.SUP_CFGSTAT_STATE = 5 →
      (s.cfg.secs.s0f.map (·.outCrc)).getD 0 = (c.s0f.map (·.outCrc)).getD 0 → Roomy s →
      (∀ tag, Takes s 0x0204 → Completes (.cfgRollback tag) s fun t => Answers s t 0x0204 tag 0 s.tai [] ∧ t.cfg.image = some i ∧ t.cfg.secs = c ∧
        t.cfg.dev = 1 - s.cfg.dev ∧ t.rd Reg.SUP_CFGSTAT_STATE = 0) ∧
      (s.cfg.probEnd.getD 0 ≤ s.up → Completes .cfgProbationExpiry s fun t => t.cfg.image = some i ∧ t.cfg.secs = c ∧ t.cfg.dev = 1 - s.cfg.dev ∧ t.cfg.before = none ∧ t.cfg.apply = none ∧
        t.rd Reg.SUP_CFGSTAT_STATE = 0 ∧ t.rd Reg.SUP_CFGACT_SEQ = devSeq s (1 - s.cfg.dev) % 2 ^ 32 ∧
        t.dev s.cfg.dev = (s.dev s.cfg.dev).program 0 0xFF ∧ Logged s t 8 Ev.CFG_ROLLBACK [] ∧
        Only [.cfg, .recs] [Reg.SUP_CFGSTAT_STATE, Reg.SUP_CFGSTAT_DEF, Reg.SUP_CFGSTAT_DEFAULTS, Reg.SUP_CFGACT_SEQ] s t)) ∧
    (s.key.engs = [] →
      (∀ x, s.hbr.waiting = [] → s.hbr.sides = [(0, x)] → x.chan = none → x.wait = [] → x.far = [] → x.lock = none → s.rd Reg.HBR_CNT2_EPAB < 2 ^ 8 →
        Completes (.epochDrainLimit .fabric) s fun t => (t.side 0).txns = x.txns.filter (fun r => r.epoch = s.rd Reg.SUP_FEPOCH_FEPOCH) ∧
          t.rd Reg.HBR_CNT2_EPAB = min (s.rd Reg.HBR_CNT2_EPAB + (x.txns.filter fun r => r.epoch != s.rd Reg.SUP_FEPOCH_FEPOCH).length) (2 ^ 8 - 1) ∧
          Only [.hbr, .mbx, .key] [Reg.HBR_CNT2_EPAB] s t) ∧
      (∀ k, s.hbr.waiting = [.win7 k] → oldFabric s = false → Completes (.epochPendingChange .fabric) s fun t =>
        t.hbr = { s.hbr with waiting := [] } ∧ t.rd Reg.SUP_FEPOCH_FEPOCH = (s.rd Reg.SUP_FEPOCH_FEPOCH + 1) % 2 ^ 16 ∧ t.rd Reg.SUP_FEPOCH_PEND = 0 ∧
        t.rd (Reg.HBR_WIN_POL_EN 7) = b2n (k != 0) ∧
        Only [.hbr, .key] [Reg.SUP_FEPOCH_FEPOCH, Reg.SUP_FEPOCH_PEND, Reg.HBR_WIN_MAP_SIZE 7, Reg.HBR_WIN_MAP_BASE 7, Reg.HBR_WIN_POL_EN 7,
          Reg.HBR_WIN_POL_RD 7, Reg.HBR_WIN_POL_WR 7, Reg.HBR_WIN_POL_LOCK 7, Reg.HBR_WIN_POL_LANE 7, Reg.HBR_WIN_POL_PATH 7] s t)) ∧
    ∀ k, k = EpochKind.sample ∨ k = EpochKind.roster → Completes (.epochDrainLimit k) s (fun t => Only [] [] s t) ∧
      Completes (.epochPendingChange k) s (fun t => Only [] [] s t)

/-- A doorbell of the owner that asks for no more than the ring holds is the new PI, its slots written from the old PI on; of another path it is discarded
with NOTOWN; one that asks for more sets DBBAD. A consumer index within what is unread is taken; beyond it sets CIBAD; from another path NOTOWN.
MBX_OWNER takes a path number. Consuming takes the slot at CI: a bad envelope and an unknown code are answered; a known command waits to begin. Rows
shown to complete with their effect (`Completes`): mbxCmdpiDoorbell, mbxCiWrite, mbxOwnerWrite, commandConsume. -/
def Obligations.MailboxRegisters : Prop :=
  ∀ s : State,
    (∀ path pi slots, Writable s path 20 → slots.length ≤ 256 → pi < 2 ^ 32 →
      (s.rd Reg.MBX_OWNER_PATH = path → (pi + 2 ^ 32 - s.rd Reg.MBX_CMDCI) % 2 ^ 32 ≤ 256 → Completes (.mbxCmdpiDoorbell path pi slots) s fun t =>
        t.rd Reg.MBX_CMDPI = pi ∧ (∀ k c, slots[k]? = some c → t.mbx.cmds.get? ((s.rd Reg.MBX_CMDPI + k) % 256) = some c) ∧ Only [.mbx] [Reg.MBX_CMDPI] s t) ∧
      (s.rd Reg.MBX_OWNER_PATH = path → 256 < (pi + 2 ^ 32 - s.rd Reg.MBX_CMDCI) % 2 ^ 32 → Completes (.mbxCmdpiDoorbell path pi slots) s fun t =>
        t.rd Reg.MBX_ERR_DBBAD = 1 ∧ Only [.mbx] [Reg.MBX_ERR_DBBAD] s t) ∧
      (s.rd Reg.MBX_OWNER_PATH ≠ path → Completes (.mbxCmdpiDoorbell path pi slots) s fun t =>
        t.rd Reg.MBX_ERR_NOTOWN = 1 ∧ Only [.mbx] [Reg.MBX_ERR_NOTOWN] s t)) ∧
    (∀ path ring ci, Writable s path 20 → ci < 2 ^ 32 →
      (s.rd Reg.MBX_OWNER_PATH = path → (ci + 2 ^ 32 - s.rd (ringRegs ring).2) % 2 ^ 32 ≤ unread s (ringRegs ring).1 (ringRegs ring).2 → s.mbx.ovfl = [] →
        Completes (.mbxCiWrite path ring ci) s fun t => t.rd (ringRegs ring).2 = ci ∧ Only [] [(ringRegs ring).2] s t) ∧
      (s.rd Reg.MBX_OWNER_PATH = path → unread s (ringRegs ring).1 (ringRegs ring).2 < (ci + 2 ^ 32 - s.rd (ringRegs ring).2) % 2 ^ 32 →
        Completes (.mbxCiWrite path ring ci) s fun t => t.rd Reg.MBX_ERR_CIBAD = 1 ∧ Only [] [Reg.MBX_ERR_CIBAD] s t) ∧
      (s.rd Reg.MBX_OWNER_PATH ≠ path → Completes (.mbxCiWrite path ring ci) s fun t => t.rd Reg.MBX_ERR_NOTOWN = 1 ∧ Only [] [Reg.MBX_ERR_NOTOWN] s t)) ∧
    (∀ path (v : Word), Writable s path 20 →
      (v.toNat % 8 < 5 → Completes (.mbxOwnerWrite path v) s fun t => t.rd Reg.MBX_OWNER_PATH = v.toNat % 8 ∧ Only [] [Reg.MBX_OWNER_PATH] s t) ∧
      (5 ≤ v.toNat % 8 → Completes (.mbxOwnerWrite path v) s fun t => Only [] [] s t)) ∧
    ∀ c, s.canTake = true → s.rd Reg.MBX_CMDPI ≠ s.rd Reg.MBX_CMDCI → s.mbx.cmds.get? (s.rd Reg.MBX_CMDCI % 256) = some c →
      (c.ever ≠ 1 ∨ 248 < c.plen ∨ c.flags ≠ 0 → Completes .commandConsume s fun t => Answers s t c.code c.tag St.BAD_ENVELOPE s.tai [] ∧
        t.rd Reg.MBX_CMDCI = (s.rd Reg.MBX_CMDCI + 1) % 2 ^ 32 ∧ Only [.mbx] [Reg.MBX_CMDCI, Reg.MBX_RSPPI] s t) ∧
      (c.ever = 1 → c.plen ≤ 248 → c.flags = 0 →
        (c.code ∉ codes → Completes .commandConsume s fun t => Answers s t c.code c.tag St.UNKNOWN s.tai [] ∧
          t.rd Reg.MBX_CMDCI = (s.rd Reg.MBX_CMDCI + 1) % 2 ^ 32 ∧ Only [.mbx] [Reg.MBX_CMDCI, Reg.MBX_RSPPI] s t) ∧
        (c.code ∈ codes → Completes .commandConsume s fun t => t.mbx.held = s.mbx.held ++ [(c.code, c.tag)] ∧
          t.mbx.prog = s.mbx.prog ++ [(c.code, c.tag)] ∧ t.rd Reg.MBX_CMDCI = (s.rd Reg.MBX_CMDCI + 1) % 2 ^ 32 ∧ Only [.mbx] [Reg.MBX_CMDCI] s t))

/-- With nothing in flight at the bridges: an allowed window read of up to 8 bytes gives the bytes behind the window in its lane mode, a longer one waits
for its data under a tag; an allowed write puts its bytes there and nowhere else. A window that is not open, or a range beyond it, is counted in
BOUNDS; a path that may not is counted in DENY and recorded, once a second. ACQ takes the line of HBR_LKADDR in a lockable window; bytes written on it
are held; REL writes them, an abort drops them. A half reads application DDR5 and writes the other half's memory through its crossing windows; of two
sides that ask for a line in one cycle side A gets it. Rows shown to complete with their effect (`Completes`): bar4WindowAccess, bulkRead,
lockAcquire, lockRelease, lockAbort. -/
def Obligations.WindowsAndLock : Prop :=
  ∀ s : State, s.runs 1 = true → Mem.wf 0 s.hbr.ddr = true → (∀ p ∈ s.hbr.lp, Mem.wf 0 p.2 = true) →
    (∀ path win off len, win < 8 → pathOpen s path = true →
      (winVerdict s path win off len false = 0 → s.hbr.sides = [] →
        (len ≤ 8 → Completes (.bar4WindowAccess 0 path win off false len []) s fun t =>
          t.mbx = { s.mbx with lastBytes := winRead s win off len } ∧ Only [.mbx] [] s t) ∧
        (9 ≤ len → len ≤ 4096 → Completes (.bulkRead 0 path win off len) s fun t => t.hbr = { s.hbr with sides := [(0, { txns :=
          [⟨some 0, s.rd Reg.SUP_FEPOCH_FEPOCH, 0, winBase s win, s.rd (Reg.HBR_WIN_POL_LANE win), off, len⟩] })] } ∧ Only [.hbr] [] s t)) ∧
      (winVerdict s path win off len false = 2 → Completes (.bar4WindowAccess 0 path win off false len []) s fun t =>
        t.mbx = { s.mbx with lastBytes := List.replicate len 0xFF } ∧ Counted s t Reg.HBR_CNT2_BOUNDS ∧ Only [.mbx] [Reg.HBR_CNT2_BOUNDS] s t) ∧
      (∀ data : List Byte, data.length = len →
        (winVerdict s path win off len true = 0 → s.hbr.sides = [] → Completes (.bar4WindowAccess 0 path win off true len data) s fun t =>
          (∀ i b, data[i]? = some b → Mem.read 0 t.hbr.ddr (winBase s win + laneMap (s.rd (Reg.HBR_WIN_POL_LANE win)) (off + i)) = b) ∧
          (∀ a, (∀ i, i < len → a ≠ winBase s win + laneMap (s.rd (Reg.HBR_WIN_POL_LANE win)) (off + i)) → Mem.read 0 t.hbr.ddr a = Mem.read 0 s.hbr.ddr a) ∧
          Only [.hbr] [] s t) ∧
        (∀ l, winVerdict s path win off len true = 0 → s.hbr.sides = [(0, { lock := some l })] → l.mem = 0 →
          (∀ i, i < len → (winBase s win + laneMap (s.rd (Reg.HBR_WIN_POL_LANE win)) (off + i)) / 64 = l.line) →
          Completes (.bar4WindowAccess 0 path win off true len data) s fun t =>
            (t.side 0).lock = some { l with held := l.held ++ data.zipIdx.map fun b => (s.rd Reg.SUP_FEPOCH_FEPOCH,
              winBase s win + laneMap (s.rd (Reg.HBR_WIN_POL_LANE win)) (off + b.2), b.1) } ∧ t.hbr.ddr = s.hbr.ddr ∧ Only [.hbr] [] s t) ∧
        (winVerdict s path win off len true = 1 → Roomy s → s.hbr.denyAt.get? win ≠ some s.sec →
          Completes (.bar4WindowAccess 0 path win off true len data) s fun t => t.hbr.ddr = s.hbr.ddr ∧ Counted s t Reg.HBR_CNT2_DENY ∧
            Logged s t 3 Ev.HOST_DENY [path, win] ∧ Only [.hbr, .recs] [Reg.HBR_CNT2_DENY] s t))) ∧
    (∀ path win line tie, Writable s path 19 →
      ((s.side 0).lock = none → winOpen s (s.rd Reg.HBR_LKADDR_WIN) = true → s.rd (Reg.HBR_WIN_POL_LOCK (s.rd Reg.HBR_LKADDR_WIN)) = 1 →
        Completes (.lockAcquire 0 path win line tie) s fun t => (t.side 0) = { s.side 0 with
            lock := some ⟨0, winBase s (s.rd Reg.HBR_LKADDR_WIN) / 64 + s.rd Reg.HBR_LKADDR_LINE, []⟩ } ∧
          t.rd Reg.HBR_LKCTL_STATE = 1 ∧ Only [.hbr] [Reg.HBR_LKCTL_STATE] s t) ∧
      ((s.side 0).lock.isSome = true ∨ winOpen s (s.rd Reg.HBR_LKADDR_WIN) = false ∨ s.rd (Reg.HBR_WIN_POL_LOCK (s.rd Reg.HBR_LKADDR_WIN)) = 0 →
        Completes (.lockAcquire 0 path win line tie) s fun t => Counted s t Reg.HBR_CNT2_DENY ∧ Only [] [Reg.HBR_CNT2_DENY] s t) ∧
      (∀ l e a b, (s.side 0).lock = some l → l.mem = 0 → l.held = [(e, a, b)] → s.hbr.late = [] → Completes (.lockRelease 0 path) s fun t =>
        (t.side 0).lock = none ∧ t.rd Reg.HBR_LKCTL_STATE = 2 ∧ Mem.read 0 t.hbr.ddr a = b ∧
        (∀ x, x ≠ a → Mem.read 0 t.hbr.ddr x = Mem.read 0 s.hbr.ddr x) ∧ Only [.hbr] [Reg.HBR_LKCTL_STATE] s t) ∧
      ((s.side 0).lock = none → Completes (.lockRelease 0 path) s fun t => Only [] [] s t)) ∧
    ((s.side 0).lock.isSome = true → s.hbr.late = [] → Completes (.lockAbort 0) s fun t => (t.side 0) = { s.side 0 with lock := none } ∧
      t.hbr.ddr = s.hbr.ddr ∧ t.rd Reg.HBR_LKCTL_STATE = 3 ∧ Counted s t Reg.HBR_CNT2_LOCKAB ∧ Only [.hbr] [Reg.HBR_LKCTL_STATE, Reg.HBR_CNT2_LOCKAB] s t) ∧
    ∀ side path win off len, side = 1 ∨ side = 2 → s.runs (side + 1) = true →
      (len ≤ 8 → off + len ≤ 2 ^ 35 → s.hbr.sides = [] → Completes (.bar4WindowAccess side path 8 off false len []) s fun t =>
        (t.side side).got = (List.range len).map (fun i => Mem.read 0 s.hbr.ddr (off + i)) ∧ t.hbr.ddr = s.hbr.ddr ∧ Only [.hbr] [] s t) ∧
      (∀ data : List Byte, data.length = len → win < 8 → xVerdict s side win off len true = 0 → s.hbr.sides = [] → s.runs (4 - side) = true →
        Completes (.bar4WindowAccess side path win off true len data) s fun t =>
          (∀ i b, data[i]? = some b → Mem.read 0 (t.hbr.lp.getD (2 - side) []) (xwinBase s win + (off + i)) = b) ∧
          (∀ a, a < xwinBase s win + off ∨ xwinBase s win + off + len ≤ a →
            Mem.read 0 (t.hbr.lp.getD (2 - side) []) a = Mem.read 0 (s.hbr.lp.getD (2 - side) []) a) ∧ t.hbr.ddr = s.hbr.ddr ∧ Only [.hbr] [] s t) ∧
      ∀ line tie, (s.side side).lock = none → xwinOpen s win = true → win / 4 = 2 - side → s.rd (Reg.BRC_XWIN_POL_LOCK win) = 1 →
        (tie = false ∨ side = 1 → Completes (.lockAcquire side path win line tie) s fun t =>
          (t.side side).lock = some ⟨3 - side, xwinBase s win / 64 + line, []⟩ ∧ Only [.hbr] [] s t) ∧
        (tie = true → side = 2 → Completes (.lockAcquire side path win line tie) s fun t => Only [] [] s t)

/-- A write beyond BAR0's registers does nothing; one off alignment is counted as a bad size; one that the path's policy forbids is counted in DENY. Each
bit of the brace's event register is cleared by writing 1, unless the hardware sets it in the same cycle; the RTC's load register takes the value; a
read-only register nothing. Bad sizes, timed-out reads (which give ones), fall-backs (by which the posted writes pass a blocked read) and orphans
(whose tag is free again) are counted. A datagram that fails a check is discarded and counted, and recorded once a second; an accepted one keeps its
TSEQ, and a window read in it answers with the bytes, a malformed record with status 5, in a reply under the same key. Rows shown to complete with
their effect (`Completes`): registerWrite, bar0BadSizeAccess, registerReadTimeout, postedWriteFallback, readDataOrphan, tunnelDatagram. -/
def Obligations.RegisterWritesAndTunnel : Prop :=
  ∀ s : State,
    (∀ path off (v : Word) hw, 0x14FFFF < off → off % 4 = 0 → Completes (.registerWrite path off v hw) s fun t => Only [] [] s t) ∧
    (∀ path off (v : Word) hw, off % 4 ≠ 0 → pathOpen s path = true → s.runs 1 = true → Completes (.registerWrite path off v hw) s fun t =>
      Counted s t Reg.HBR_CNT1_SIZE ∧ Only [] [Reg.HBR_CNT1_SIZE] s t) ∧
    (∀ path off (v : Word) hw, off ≤ 0x14FFFF → off % 4 = 0 → pathOpen s path = true → blockRuns s (off / 0x10000) = true → pathMay s path (off / 0x10000) = false →
      Completes (.registerWrite path off v hw) s fun t => Counted s t Reg.HBR_CNT2_DENY ∧ Only [] [Reg.HBR_CNT2_DENY] s t) ∧
    (∀ path (v : Word) hw, Writable s path 10 → Completes (.registerWrite path Reg.BRC_EVT_TRANSFER.off v hw) s fun t =>
      (∀ g ∈ [Reg.BRC_EVT_TRANSFER, Reg.BRC_EVT_HEELFAIL, Reg.BRC_EVT_DISAGREE, Reg.BRC_EVT_SPLIT, Reg.BRC_EVT_PARTCHG, Reg.BRC_EVT_MISMATCH, Reg.BRC_EVT_REJOINFAIL],
        t.rd g = if bit (hw.getD 0) g.lo then 1 else if bit v.toNat g.lo then 0 else s.rd g % 2) ∧
      Only [] [Reg.BRC_EVT_TRANSFER, Reg.BRC_EVT_HEELFAIL, Reg.BRC_EVT_DISAGREE, Reg.BRC_EVT_SPLIT, Reg.BRC_EVT_PARTCHG, Reg.BRC_EVT_MISMATCH,
        Reg.BRC_EVT_REJOINFAIL] s t) ∧
    (∀ path (v : Word) hw, Writable s path 3 → Completes (.registerWrite path Reg.RTC_LOAD_LO_LOAD_LO.off v hw) s fun t =>
      t.rd Reg.RTC_LOAD_LO_LOAD_LO = v.toNat ∧ Only [] [Reg.RTC_LOAD_LO_LOAD_LO] s t) ∧
    (∀ path (v : Word) hw, Writable s path 0 → Completes (.registerWrite path Reg.SUP_HEARTBEAT_HB.off v hw) s fun t => Only [] [] s t) ∧
    (s.runs 1 = true →
      (s.pwr.perst = false → Completes (.bar0BadSizeAccess true) s (fun t => Counted s t Reg.HBR_CNT1_SIZE ∧ Only [] [Reg.HBR_CNT1_SIZE] s t) ∧
      Completes (.bar0BadSizeAccess false) s (fun t => Counted s t Reg.HBR_CNT1_SIZE ∧ t.mbx = { s.mbx with lastRead := some 0xFFFFFFFF } ∧
        Only [.mbx] [Reg.HBR_CNT1_SIZE] s t)) ∧
      (∀ off, off / 0x10000 ≤ 20 → blockDom (off / 0x10000) ≠ 0 → Completes (.registerReadTimeout 0 off) s fun t => Counted s t Reg.HBR_CNT0_RDTO ∧
        t.mbx = { s.mbx with lastRead := some 0xFFFFFFFF } ∧ Only [.mbx] [Reg.HBR_CNT0_RDTO] s t) ∧
      (∀ off r, (s.side 0).chan = some r → (s.side 0).wait = [] → Completes (.registerReadTimeout 4 off) s fun t => Counted s t Reg.HBR_CNT0_RDTO ∧
        t.mbx = { s.mbx with lastBytes := List.replicate r.len 0xFF } ∧ (t.side 0).chan = none ∧ BrReq.read r ∉ (t.side 0).far ∧
        Only [.mbx, .hbr] [Reg.HBR_CNT0_RDTO] s t) ∧
      (∀ x r e a b, s.hbr.sides = [(0, x)] → x.far = [.read r, .write e 0 [(a, b)]] → x.lock = none → Mem.wf 0 s.hbr.ddr = true →
        Completes (.postedWriteFallback 0) s fun t => Counted s t Reg.HBR_CNT1_FALLBK ∧ (t.side 0).far = [.read r] ∧ Mem.read 0 t.hbr.ddr a = b ∧
          (∀ y, y ≠ a → Mem.read 0 t.hbr.ddr y = Mem.read 0 s.hbr.ddr y) ∧ Only [.hbr] [Reg.HBR_CNT1_FALLBK] s t) ∧
      (∀ tag,
        ((s.side 0).txns.find? (·.tag = some tag) = none → Completes (.readDataOrphan 0 (some tag)) s fun t =>
          Counted s t Reg.HBR_CNT0_ORPHAN ∧ Only [] [Reg.HBR_CNT0_ORPHAN] s t) ∧
        ∀ r, (s.side 0).txns.find? (·.tag = some tag) = some r → (s.side 0).wait = [] → Completes (.readDataOrphan 0 (some tag)) s fun t =>
          Counted s t Reg.HBR_CNT0_ORPHAN ∧ (t.side 0).txns = (s.side 0).txns.erase r ∧ Only [.hbr] [Reg.HBR_CNT0_ORPHAN] s t) ∧
      (∀ (q : TunReq) chk, tunCheck s q = some chk → Roomy s → s.hbr.rejAt.get? q.tslot ≠ some s.sec → Completes (.tunnelDatagram q) s fun t =>
        Counted s t (if chk = 5 then Reg.HBR_CNT3_TUNMAC else Reg.HBR_CNT3_TUNOTHER) ∧ Logged s t 3 Ev.TUNNEL_REJECT [q.tslot, chk] ∧
        t.hbr = { s.hbr with rejAt := t.hbr.rejAt } ∧ Only [.hbr, .recs] [if chk = 5 then Reg.HBR_CNT3_TUNMAC else Reg.HBR_CNT3_TUNOTHER] s t) ∧
      ∀ (q : TunReq) (r : TunRec) (e : KeySlot), tunCheck s q = none → s.key.slots.get? (s.rd (Reg.HBR_TUN_KSLOT q.tslot)) = some e → e.uses = 0xFFFFFFFF →
        q.recs = [r] →
        (recWellFormed r = true → r.op = 3 → r.space = 4 → winVerdict s (q.tslot + 1) (r.addr / 0x2000000) (r.addr % 0x2000000) r.len false = 0 →
          r.addr / 0x2000000 < 8 → Completes (.tunnelDatagram q) s fun t => t.hbr.tseq.get? q.tslot = some q.tseq ∧
            t.hbr.reply = some (tunReply q (s.rd (Reg.HBR_TUN_KSLOT q.tslot)) (slotKey s (s.rd (Reg.HBR_TUN_KSLOT q.tslot)))
              [⟨3, 0, r.len, r.addr, winRead s (r.addr / 0x2000000) (r.addr % 0x2000000) r.len⟩]) ∧ t.hbr.ddr = s.hbr.ddr ∧ Only [.hbr] [] s t) ∧
        (recWellFormed r = false → r.op % 2 = 0 → Completes (.tunnelDatagram q) s fun t => t.hbr.tseq.get? q.tslot = some q.tseq ∧
          t.hbr.reply = some (tunReply q (s.rd (Reg.HBR_TUN_KSLOT q.tslot)) (slotKey s (s.rd (Reg.HBR_TUN_KSLOT q.tslot)))
            [⟨r.op, 5, r.len, r.addr, []⟩]) ∧ t.hbr.ddr = s.hbr.ddr ∧ Only [.hbr] [] s t))

/-- TB_INC_NS arms the pair for the next tick; TB_NOW_LO loads the shadow with the rest of one count; TB_ADJ adds with saturation, a decrement of the same
cycle taken off after. A host unit's target half is stored and the unit disarmed, a fire of that tick being reported; a unit of the module's own is
not written. ARM arms. A reached, armed unit fires, disarms itself and releases an RTC armed for it; a fire of a unit of the module's own goes to its
owner. PPS_IN_LO freezes the high half. An edge after less than 1 µs of low is no edge; any other is stamped less INDLY; with SRC = PPS one more than
10 µs off is PPS_BAD and moves nothing, the eighth good one locks once TIME_SET has given the seconds, and silence ends LOCKED. At a whole second
PPS_OUT rises for 100 ms as OUTEN, OUTQ and the quality say. Rows shown to complete with their effect (`Completes`): tbIncNsWrite, tbAdjWrite,
compareTargetWrite, compareArm, tbNowLoRead, tbPpsinLoRead, tbPpsinHiRead, compareFire, ppsInEdge, ppsTimeout, ppsOutSecond. -/
def Obligations.TimebaseCompareAndPps : Prop :=
  ∀ s : State,
    (∀ path (v : Word), Writable s path 2 →
      (Completes (.tbIncNsWrite path v) s fun t => t.rd Reg.TB_INC_NS_NS = v.toNat % 256 ∧
        t.tb = { s.tb with incNew := true, hostInc := decide (s.rd Reg.TB_CFG_SRC < 2) } ∧ Only [.tb] [Reg.TB_INC_NS_NS] s t) ∧
      (Completes (.tbAdjWrite path v false) s fun t =>
        t.tb = { s.tb with adjRem := clampI (-2147483648) 2147483647 (s.tb.adjRem + v.toInt) } ∧ Only [.tb] [] s t) ∧
      (Completes (.tbAdjWrite path v true) s fun t =>
        t.tb.adjRem = clampI (-2147483648) 2147483647 (s.tb.adjRem + v.toInt) - (clampI (-2147483648) 2147483647 (s.tb.adjRem + v.toInt)).sign ∧
        Only [.tb] [] s t) ∧
      (∀ n hi, n < 4 → s.rd Reg.RTC_CTL_ARM = 0 → Completes (.compareTargetWrite path n hi v false) s fun t =>
        t.rd (if hi then Reg.TB_CMP_THI_TGT_HI n else Reg.TB_CMP_TLO_TGT_LO n) = v.toNat % 2 ^ (if hi then 16 else 32) ∧
        t.rd (Reg.TB_CMP_CTL_ARM n) = 0 ∧ Only [] [if hi then Reg.TB_CMP_THI_TGT_HI n else Reg.TB_CMP_TLO_TGT_LO n, Reg.TB_CMP_CTL_ARM n] s t) ∧
      (∀ n hi, n < 4 → s.rd Reg.RTC_CTL_ARM = 0 → s.rd (Reg.TB_CMP_CTL_ARM n) = 1 → Completes (.compareTargetWrite path n hi v true) s fun t =>
        t.rd (if hi then Reg.TB_CMP_THI_TGT_HI n else Reg.TB_CMP_TLO_TGT_LO n) = v.toNat % 2 ^ (if hi then 16 else 32) ∧
        t.rd (Reg.TB_CMP_CTL_ARM n) = 0 ∧ t.rd (Reg.TB_CMP_CTL_FIRED n) = 1) ∧
      (∀ n hi firing, 4 ≤ n → Completes (.compareTargetWrite path n hi v firing) s (fun t => Only [] [] s t) ∧
        Completes (.compareArm path n firing) s fun t => Only [] [] s t) ∧
      ∀ n firing, n < 4 → Completes (.compareArm path n firing) s fun t => t.rd (Reg.TB_CMP_CTL_ARM n) = 1 ∧ Only [] [Reg.TB_CMP_CTL_ARM n] s t) ∧
    (blockRuns s 2 = true → s.pwr.perst = false →
      (Completes .tbNowLoRead s fun t => t.mbx.lastRead = some (BitVec.ofNat 32 s.tb.ns) ∧
        t.tb = { s.tb with shHi := s.tb.ns / 2 ^ 32 % 2 ^ 32, shFr := s.tb.frac } ∧ Only [.tb, .mbx] [] s t) ∧
      (Completes .tbPpsinLoRead s fun t => t.mbx.lastRead = some (BitVec.ofNat 32 (s.tb.ppsIn.getD 0)) ∧
        t.tb = { s.tb with ppsFrozen := some (s.tb.ppsIn.getD 0 / 2 ^ 32 % 2 ^ 32) } ∧ Only [.tb, .mbx] [] s t) ∧
      (∀ v, s.tb.ppsFrozen = some v → Completes .tbPpsinHiRead s fun t => t.mbx.lastRead = some (BitVec.ofNat 32 v) ∧
        t.tb = { s.tb with ppsFrozen := none } ∧ Only [.tb, .mbx] [] s t) ∧
      (s.tb.ppsFrozen = none → Completes .tbPpsinHiRead s fun t =>
        t.mbx.lastRead = some (BitVec.ofNat 32 (s.tb.ppsIn.getD 0 / 2 ^ 32)) ∧ Only [.mbx] [] s t)) ∧
    (s.runs 5 = true →
      (∀ n, n < 32 → s.rd (Reg.TB_CMP_CTL_ARM n) = 1 → cmpReached s n = true →
        (4 ≤ n → Completes (.compareFire n) s fun t => t.rd (Reg.TB_CMP_CTL_FIRED n) = 1 ∧ t.rd (Reg.TB_CMP_CTL_ARM n) = 0 ∧
          t.tb = { s.tb with fires := s.tb.fires ++ [n] } ∧ Only [.tb] [Reg.TB_CMP_CTL_FIRED n, Reg.TB_CMP_CTL_ARM n] s t) ∧
        (n < 4 → s.rd Reg.RTC_CTL_ARM = 0 ∨ s.rd Reg.RTC_CTL_RELSRC ≠ 1 ∨ s.rd Reg.RTC_CTL_RELCMP ≠ n → Completes (.compareFire n) s fun t =>
          t.rd (Reg.TB_CMP_CTL_FIRED n) = 1 ∧ t.rd (Reg.TB_CMP_CTL_ARM n) = 0 ∧ Only [] [Reg.TB_CMP_CTL_FIRED n, Reg.TB_CMP_CTL_ARM n] s t) ∧
        (n < 4 → s.rd Reg.RTC_CTL_ARM = 1 → s.rd Reg.RTC_CTL_RELSRC = 1 → s.rd Reg.RTC_CTL_RELCMP = n → Completes (.compareFire n) s fun t =>
          t.rd (Reg.TB_CMP_CTL_FIRED n) = 1 ∧ t.rd (Reg.TB_CMP_CTL_ARM n) = 0 ∧
          t.tb.rtc = s.rd Reg.RTC_LOAD_HI_LOAD_HI * 2 ^ 32 + s.rd Reg.RTC_LOAD_LO_LOAD_LO ∧ t.rd Reg.RTC_CTL_HALT = 0 ∧ t.rd Reg.RTC_CTL_ARM = 0 ∧
          t.rd Reg.RTC_STAT_HALTED = 0 ∧ (2 ≤ s.tb.q → t.tb.rtcEpoch.valid = true ∧ t.tb.rtcEpoch.tick = t.tb.rtc ∧ t.tb.rtcEpoch.tai = s.tb.ns ∧
            t.tb.rtcEpoch.qual = s.tb.q) ∧ (s.tb.q < 2 → t.tb.rtcEpoch.valid = false) ∧
          Only [.tb] [Reg.TB_CMP_CTL_FIRED n, Reg.TB_CMP_CTL_ARM n, Reg.RTC_CTL_HALT, Reg.RTC_CTL_ARM, Reg.RTC_STAT_HALTED] s t)) ∧
      (∀ a low, low < 1000 → Completes (.ppsInEdge a low) s fun t => Only [] [] s t) ∧
      (∀ a low, 1000 ≤ low → s.rd Reg.TB_PPSCFG_INDLY ≤ a → s.tb.setPps = none →
        (s.rd Reg.TB_CFG_SRC ≠ 1 → s.rd Reg.RTC_CTL_ARM = 0 → Completes (.ppsInEdge a low) s fun t =>
          t.tb = { s.tb with ppsIn := some (a - s.rd Reg.TB_PPSCFG_INDLY) } ∧ Only [.tb] [] s t) ∧
        (s.rd Reg.TB_CFG_SRC ≠ 1 → s.rd Reg.RTC_CTL_ARM = 1 → s.rd Reg.RTC_CTL_RELSRC = 2 → Completes (.ppsInEdge a low) s fun t =>
          t.tb.ppsIn = some (a - s.rd Reg.TB_PPSCFG_INDLY) ∧ t.tb.rtc = s.rd Reg.RTC_LOAD_HI_LOAD_HI * 2 ^ 32 + s.rd Reg.RTC_LOAD_LO_LOAD_LO ∧
          t.rd Reg.RTC_STAT_HALTED = 0 ∧ Only [.tb] [Reg.RTC_CTL_HALT, Reg.RTC_CTL_ARM, Reg.RTC_STAT_HALTED] s t) ∧
        ∀ o, s.rd Reg.TB_CFG_SRC = 1 → s.rd Reg.RTC_CTL_ARM = 0 → s.tb.ppsIn = some o → Roomy s →
          (10000 < ((a : Int) - s.rd Reg.TB_PPSCFG_INDLY - o - 1000000000).natAbs → Completes (.ppsInEdge a low) s fun t =>
            t.rd Reg.TB_STAT_PPSBAD = 1 ∧ Logged s t 7 Ev.PPS_BAD [] ∧ t.tb = { s.tb with ppsIn := some (a - s.rd Reg.TB_PPSCFG_INDLY) } ∧
            Only [.tb, .recs] [Reg.TB_STAT_PPSBAD] s t) ∧
          (((a : Int) - s.rd Reg.TB_PPSCFG_INDLY - o - 1000000000).natAbs ≤ 10000 → s.tb.q = 2 → s.tb.lockRun = 7 → s.tb.lockOmit = false →
            (ppsOffset (a - s.rd Reg.TB_PPSCFG_INDLY)).natAbs ≤ 200 → Completes (.ppsInEdge a low) s fun t =>
              t.tb.q = (if s.tb.ppsSet then 4 else 2) ∧ t.rd Reg.TB_QUAL_SERVO = (if s.tb.ppsSet then 2 else 1) ∧
              (s.tb.ppsSet = true → Logged s t 7 Ev.TIME_QUALITY [2, 4]) ∧ Parts [.tb, .recs] s t)) ∧
      (∀ a, s.rd Reg.TB_CFG_SRC = 1 → s.tb.ppsIn = some a → a + 1500000000 ≤ s.tb.ns → s.tb.q = 4 → Roomy s → Completes .ppsTimeout s fun t =>
        t.tb.q = 3 ∧ t.rd Reg.TB_QUAL_SERVO = 3 ∧ t.rd Reg.TB_STAT_QCHG = 1 ∧ Logged s t 7 Ev.TIME_QUALITY [4, 3] ∧ t.tb.ns = s.tb.ns ∧
        Only [.tb, .recs] [Reg.TB_INC_NS_NS, Reg.TB_INC_FR_FR, Reg.CMN_LOST_UPD 2, Reg.TB_QUAL_SERVO, Reg.TB_STAT_QCHG] s t) ∧
      (s.tb.ns % 1000000000 < 3 → s.cfg.due = [] → Completes .ppsOutSecond s fun t =>
        t.tb = { s.tb with ppsOut := if s.rd Reg.TB_PPSCFG_OUTEN = 1 ∧ (s.rd Reg.TB_PPSCFG_OUTQ = 1 ∨ s.tb.q = 3 ∨ s.tb.q = 4)
          then s.tb.ns + 100000000 else 0 } ∧ Only [.tb] [] s t))

/-- A Sync of the selected master, its offset from the port's stamp corrected for asymmetry, corrects the phase: the eighth in-range offset locks, one
that was passed over for its size steps the spindle there; the eighth out of range in LOCKED ends it in HOLDOVER with the mean increment; one that is
out of range before the lock begins the count anew. An Announce is kept, and without a module that may be master the best of those kept is selected,
its offset to UTC shown when it is valid. When the only master is silent LOCKED becomes HOLDOVER, HOLDOVER past its limit FREERUN. NET comes back with
the quality it had, LOCKED as HOLDOVER, the count going on while APP runs, and loaded from the RTC when it does not. Rows shown to complete with their
effect (`Completes`): ptpSyncReceived, ptpAnnounceReceived, syncTimeout, holdoverLimitExpiry, netDomainReturn. -/
def Obligations.ServoMasterAndQuality : Prop :=
  ∀ s : State,
    (s.runs 5 = true → s.rd Reg.TB_CFG_SRC = 0 →
      (∀ port rx origin corr mpd off, port ≤ 4 → s.tb.port = port → off = ptpOffset s port rx origin corr mpd → Roomy s →
        (s.tb.q = 2 → s.tb.lockRun = 7 → s.tb.lockOmit = false → off.natAbs ≤ 200 → Completes (.ptpSyncReceived port rx origin corr mpd) s fun t =>
          t.tb.q = 4 ∧ t.tb.qSince = s.tb.ns ∧ t.tb.ns = s.tb.ns ∧ t.rd Reg.TB_QUAL_SERVO = 2 ∧ t.tb.adjRem = -off ∧ t.tb.lastOff = some off ∧
          t.tb.mpd = mpd % 2 ^ 32 ∧ regInc t = clampInc (Config.servoInc 64 off (regInc s)) ∧ t.tb.incNew = true ∧
          t.tb.rtcEpoch.valid = true ∧ t.tb.rtcEpoch.tick = s.tb.rtc ∧ t.tb.rtcEpoch.tai = s.tb.ns ∧ t.tb.rtcEpoch.qual = 4 ∧
          t.rd Reg.TB_STAT_QCHG = 1 ∧ Logged s t 7 Ev.TIME_QUALITY [2, 4] ∧
          Only [.tb, .recs] [Reg.TB_INC_NS_NS, Reg.TB_INC_FR_FR, Reg.CMN_LOST_UPD 2, Reg.TB_QUAL_SERVO, Reg.TB_STAT_QCHG] s t) ∧
        (∀ o, s.tb.q ≤ 1 → s.tb.lockRun = 7 → s.tb.lockOmit = true → 1000000 ≤ off.natAbs → s.tb.lastOff = some o → (off - o).natAbs ≤ 200 →
          off ≤ s.tb.ns → (s.tb.ns : Int) - off < 2 ^ 64 → Completes (.ptpSyncReceived port rx origin corr mpd) s fun t => t.tb.q = 4 ∧ (t.tb.ns : Int) = s.tb.ns - off ∧ t.tb.adjRem = 0 ∧
            t.tb.stepNotes = [(0, -off), (1, -off), (2, -off), (3, -off), (4, -off), (6, -off)] ∧ t.rd Reg.TB_STAT_STEP = 1 ∧ Logged s t 7 Ev.TIME_STEP [ofS 64 (-off), ofS 64 (-off) / 2 ^ 32] ∧
            Logged s t 7 Ev.TIME_QUALITY [s.tb.q, 4] ∧ Parts [.tb, .recs] s t) ∧
        (s.tb.q = 2 → 200 < off.natAbs → Completes (.ptpSyncReceived port rx origin corr mpd) s fun t => t.tb.q = 2 ∧ t.tb.lockRun = 0 ∧ t.tb.ns = s.tb.ns ∧
          t.tb.adjRem = clampI (-2147483648) 2147483647 (-off) ∧ t.rd Reg.TB_QUAL_SERVO = 1 ∧
          Only [.tb] [Reg.TB_INC_NS_NS, Reg.TB_INC_FR_FR, Reg.CMN_LOST_UPD 2, Reg.TB_QUAL_SERVO] s t) ∧
        (s.tb.q = 4 → s.tb.lossRun = 7 → 1000 < off.natAbs → Completes (.ptpSyncReceived port rx origin corr mpd) s fun t => t.tb.q = 3 ∧
          t.rd Reg.TB_QUAL_SERVO = 3 ∧ Logged s t 7 Ev.TIME_QUALITY [4, 3] ∧ t.tb.ns = s.tb.ns ∧
          (∀ h, h = (clampInc (Config.servoInc 64 off (regInc s)) :: s.tb.incHist).take 64 → regInc t = clampInc (h.sum / h.length)) ∧
          Parts [.tb, .recs] s t)) ∧
      (∀ port (a : Announce), port ≤ 4 → s.cfg.due = [] → Completes (.ptpAnnounceReceived port a) s fun t => t.tb.ann = s.tb.ann.set port a ∧
        ((sec02 s).masterCapable = false → ∃ b, (t.tb.port, b) ∈ t.tb.ann ∧ t.tb.gmid = b.gmid ∧ t.tb.steps = b.steps ∧
          (∀ p ∈ t.tb.ann, lexLt (annKey p.2 p.1) (annKey b t.tb.port) = false) ∧ t.rd Reg.TB_QUAL_LEAP = b.leap % 4 ∧
          (b.utcValid = true → t.rd Reg.TB_QUAL_UTCOFF = ofS 16 b.utcOff)) ∧
        t.tb.q = s.tb.q ∧ t.tb.ns = s.tb.ns ∧ Only [.tb] [Reg.TB_QUAL_UTCOFF, Reg.TB_QUAL_LEAP] s t) ∧
      ((∀ p ∈ s.tb.ann, p.1 = s.tb.port) →
        (s.tb.q = 4 → Roomy s → Completes .syncTimeout s fun t => t.tb.q = 3 ∧ t.tb.ann = [] ∧ t.tb.port = 0xFF ∧ t.rd Reg.TB_QUAL_SERVO = 3 ∧
          Logged s t 7 Ev.TIME_QUALITY [4, 3] ∧ Parts [.tb, .recs] s t) ∧
        (s.tb.q ≠ 4 → Completes .syncTimeout s fun t => t.tb.q = s.tb.q ∧ t.tb.ann = [] ∧ t.tb.port = 0xFF ∧
          Only [.tb] [Reg.TB_QUAL_UTCOFF, Reg.TB_QUAL_LEAP] s t))) ∧
    (s.runs 5 = true → s.tb.q = 3 → s.tb.qSince + s.rd Reg.TB_CFG_HOLDLIM * 1000000000 ≤ s.tb.ns → Roomy s → Completes .holdoverLimitExpiry s fun t =>
      t.tb = { s.tb with q := 2, qSince := s.tb.ns } ∧ t.rd Reg.TB_QUAL_SERVO = (if s.tb.port = 0xFF ∧ s.rd Reg.TB_CFG_SRC = 0 then 0 else 1) ∧
      t.rd Reg.TB_STAT_QCHG = 1 ∧ Logged s t 7 Ev.TIME_QUALITY [3, 2] ∧ Only [.tb, .recs] [Reg.TB_QUAL_SERVO, Reg.TB_STAT_QCHG] s t) ∧
    (mayRun s = true → s.dom 5 = 1 → s.cfg.due = [] →
      (s.runs 1 = true → Roomy s → Completes .netDomainReturn s fun t => t.dom 5 = 2 ∧ t.tb.ns = s.tb.ns ∧
        t.tb.q = (if s.tb.qHeld = 4 then 3 else s.tb.qHeld) ∧ t.tb.port = 0xFF ∧ t.tb.adjRem = 0 ∧ t.rd Reg.TB_CFG_SRC = (sec02 s).src % 4) ∧
      (s.runs 1 = false → Completes .netDomainReturn s fun t => t.dom 5 = 2 ∧ (t.tb.ns, t.tb.q) = fromRtc s ∧ t.tb.adjRem = 0))

/-- A read of RTC_TICK_LO freezes the reader's own copy of the high bits, which the next read of RTC_TICK_HI gives and frees; another takes the live ones.
HALT stops the count; in the cycle of an armed release it wins, ARM is gone and LOST_UPD set. HALT = 0 loads a halted count and makes the epoch
invalid. ARM takes effect in a halted count with a release source. OSF makes the epoch invalid and is recorded. In LOCKED the epoch is anchored again
after 3,600 s. A second of operation counts OPSEC and a running RTC; OPSEC is saved every 10 s. A leap second changes UTCOFF at its midnight. The end
of the zone table is flagged. TIME_SET steps at once and gives FREERUN, waits for an edge in AT_PPS, and is refused as said; without an edge in 2 s it
is LATE. Rows shown to complete with their effect (`Completes`): rtcTickLoRead, rtcTickHiRead, rtcHalt, rtcRelease, rtcArm, rtcOsf, rtcEpochReanchor,
opsecTick, opsecSave, leapSecond, tzWarn, timeStatus, timeSet, timeSetPpsTimeout. -/
def Obligations.RtcUtcAndTimeCommands : Prop :=
  ∀ s : State,
    (Completes (.rtcTickLoRead true) s fun t =>
      t.tb = { s.tb with rtcSup := some (s.tb.rtc / 2 ^ 32 % 2 ^ 16), supRead := s.tb.rtc % 2 ^ 32 } ∧ Only [.tb] [] s t) ∧
    (s.pwr.perst = false → Completes (.rtcTickLoRead false) s fun t => t.tb = { s.tb with rtcHost := some (s.tb.rtc / 2 ^ 32 % 2 ^ 16) } ∧
      t.mbx.lastRead = some (BitVec.ofNat 32 s.tb.rtc) ∧ Only [.tb, .mbx] [] s t) ∧
    (Completes (.rtcTickHiRead true) s fun t => t.tb.rtcSup = none ∧ t.tb.rtcHost = s.tb.rtcHost ∧ t.tb.rtc = s.tb.rtc ∧
      (∀ v, s.tb.rtcSup = some v → t.tb.supRead = v) ∧ (s.tb.rtcSup = none → t.tb.supRead = s.tb.rtc / 2 ^ 32 % 2 ^ 16) ∧ Only [.tb] [] s t) ∧
    (s.pwr.perst = false → Completes (.rtcTickHiRead false) s fun t => t.tb = { s.tb with rtcHost := none } ∧
      (∀ v, s.tb.rtcHost = some v → t.mbx.lastRead = some (BitVec.ofNat 32 v)) ∧
      (s.tb.rtcHost = none → t.mbx.lastRead = some (BitVec.ofNat 32 (s.tb.rtc / 2 ^ 32 % 2 ^ 16))) ∧ Only [.tb, .mbx] [] s t) ∧
    (∀ path, Writable s path 3 →
      (Completes (.rtcHalt path false) s fun t => t.rd Reg.RTC_CTL_HALT = 1 ∧ t.rd Reg.RTC_STAT_HALTED = 1 ∧
        Only [] [Reg.RTC_CTL_HALT, Reg.RTC_STAT_HALTED] s t) ∧
      (s.rd Reg.RTC_CTL_ARM = 1 → Completes (.rtcHalt path true) s fun t => t.rd Reg.RTC_CTL_HALT = 1 ∧ t.rd Reg.RTC_STAT_HALTED = 1 ∧
        t.rd Reg.RTC_CTL_ARM = 0 ∧ t.rd (Reg.CMN_LOST_UPD 3) = 1 ∧
        Only [] [Reg.RTC_CTL_HALT, Reg.RTC_STAT_HALTED, Reg.RTC_CTL_ARM, Reg.CMN_LOST_UPD 3] s t) ∧
      (s.rd Reg.RTC_STAT_HALTED = 1 → Completes (.rtcRelease path) s fun t =>
        t.tb = { s.tb with rtc := s.rd Reg.RTC_LOAD_HI_LOAD_HI * 2 ^ 32 + s.rd Reg.RTC_LOAD_LO_LOAD_LO, rtcEpoch := { s.tb.rtcEpoch with valid := false } } ∧
        t.rd Reg.RTC_CTL_HALT = 0 ∧ t.rd Reg.RTC_CTL_ARM = 0 ∧ t.rd Reg.RTC_STAT_HALTED = 0 ∧
        Only [.tb] [Reg.RTC_CTL_HALT, Reg.RTC_CTL_ARM, Reg.RTC_STAT_HALTED] s t) ∧
      (s.rd Reg.RTC_CTL_HALT = 1 → s.rd Reg.RTC_CTL_RELSRC = 1 ∨ s.rd Reg.RTC_CTL_RELSRC = 2 → Completes (.rtcArm path) s fun t =>
        t.rd Reg.RTC_CTL_ARM = 1 ∧ Only [] [Reg.RTC_CTL_ARM] s t) ∧
      (s.rd Reg.RTC_CTL_HALT = 0 → Completes (.rtcArm path) s fun t => Only [] [] s t)) ∧
    (Roomy s → Completes .rtcOsf s fun t => t.rd Reg.RTC_STAT_OSF = 1 ∧ t.tb = { s.tb with rtcEpoch := { s.tb.rtcEpoch with valid := false } } ∧
      Logged s t 0 Ev.RTC_OSF [] ∧ Only [.tb, .recs] [Reg.RTC_STAT_OSF] s t) ∧
    (s.tb.q = 4 → s.tb.rtcEpoch.valid = false ∨ s.tb.rtcEpoch.tai + 3600000000000 ≤ s.tb.ns → Completes .rtcEpochReanchor s fun t =>
      t.tb.rtcEpoch.valid = true ∧ t.tb.rtcEpoch.tick = s.tb.rtc ∧ t.tb.rtcEpoch.tai = s.tb.ns ∧ t.tb.rtcEpoch.qual = 4 ∧
      t.tb.rtcEpoch.drift = (if s.tb.rtcEpoch.valid = true ∧ s.tb.rtcEpoch.qual = 4 then rtcDrift s.tb.rtcEpoch s.tb.rtc s.tb.ns else s.tb.rtcEpoch.drift) ∧
      Only [.tb] [] s t) ∧
    (Completes .opsecTick s fun t => t.rd Reg.RTC_OPSEC_OPSEC = (s.rd Reg.RTC_OPSEC_OPSEC + 1) % 2 ^ 32 ∧
      t.tb = { s.tb with rtc := if s.rd Reg.RTC_STAT_HALTED = 1 ∨ s.rd Reg.RTC_STAT_OSF = 1 then s.tb.rtc else (s.tb.rtc + 32768) % 2 ^ 48 } ∧
      Only [.tb] [Reg.RTC_OPSEC_OPSEC] s t) ∧
    (s.tb.opsecSaved + 10 ≤ s.opsec → Completes .opsecSave s fun t => t.tb = { s.tb with opsecSaved := s.rd Reg.RTC_OPSEC_OPSEC } ∧ Only [.tb] [] s t) ∧
    (s.runs 5 = true →
      (∀ d : Int, (s.rd Reg.TB_QUAL_LEAP = 1 ∧ d = 1) ∨ (s.rd Reg.TB_QUAL_LEAP = 2 ∧ d = -1) →
        ((s.sec : Int) - (toS 16 (s.rd Reg.TB_QUAL_UTCOFF) + d)) % 86400 = 0 → -32768 ≤ toS 16 (s.rd Reg.TB_QUAL_UTCOFF) + d →
        toS 16 (s.rd Reg.TB_QUAL_UTCOFF) + d ≤ 32767 → Completes .leapSecond s fun t =>
          toS 16 (t.rd Reg.TB_QUAL_UTCOFF) = toS 16 (s.rd Reg.TB_QUAL_UTCOFF) + d ∧ t.rd Reg.TB_QUAL_LEAP = 0 ∧ t.tb.ns = s.tb.ns ∧
          Only [.tb] [Reg.TB_QUAL_UTCOFF, Reg.TB_QUAL_LEAP] s t) ∧
      ((sec02 s).validUntil ≠ 0 → ((sec02 s).validUntil : Int) ≤ utcSec s + 5184000 → Completes .tzWarn s fun t => t.rd Reg.TB_STAT_TZWARN = 1 ∧
        Only [] [Reg.TB_STAT_TZWARN] s t)) ∧
    ∀ tag,
      (Takes s 0x0301 → Completes (.timeStatus tag) s fun t => ∃ pl, Answers s t 0x0301 tag 0 s.tai pl ∧ pl.length = 60 ∧
        pl.getD 0 0 = BitVec.ofNat 8 s.tb.q ∧ pl.getD 6 0 = BitVec.ofNat 8 (leapNow s) ∧ Only [.mbx] [Reg.MBX_RSPPI] s t) ∧
      (Takes s 0x0302 → s.tb.setPps = none → ∀ tai mode,
        (mode ≠ 1 → mode ≠ 2 → Denied (.timeSet tag tai mode) s 0x0302 tag St.BAD_PARAM) ∧
        (tai % 1000000000 ≠ 0 → Denied (.timeSet tag tai 2) s 0x0302 tag St.BAD_PARAM) ∧
        (3 ≤ s.tb.q → Denied (.timeSet tag tai 1) s 0x0302 tag St.BUSY) ∧
        (s.runs 5 = true → s.tb.q < 3 → tai < 2 ^ 64 → Roomy s → Completes (.timeSet tag tai 1) s fun t => t.tb.ns = tai ∧ t.tb.q = 2 ∧ t.tb.adjRem = 0 ∧
          t.tb.stepNotes = replicas.map (fun k => (k, (tai : Int) - s.tb.ns)) ∧ t.rd Reg.TB_STAT_STEP = 1 ∧ t.tb.rtcEpoch.valid = true ∧ t.tb.rtcEpoch.tai = tai ∧
          Answers s t 0x0302 tag 0 tai [] ∧
          Logged s t 7 Ev.TIME_STEP [ofS 64 ((tai : Int) - s.tb.ns), ofS 64 ((tai : Int) - s.tb.ns) / 2 ^ 32] ∧
          Only [.tb, .recs, .mbx] [Reg.TB_STAT_STEP, Reg.TB_STAT_QCHG, Reg.MBX_RSPPI] s t) ∧
        (s.runs 5 = true → s.tb.q < 3 → tai % 1000000000 = 0 → Completes (.timeSet tag tai 2) s fun t => t.tb = { s.tb with setPps := some (tag, tai, s.tb.ns) } ∧
          t.mbx.prog = s.mbx.prog ++ [(0x0302, tag)] ∧ Only [.tb, .mbx] [] s t)) ∧
      ∀ tai a, s.tb.setPps = some (tag, tai, a) → (0x0302, tag) ∈ s.mbx.prog →
        (a + 2000000000 ≤ s.tb.ns → Completes .timeSetPpsTimeout s fun t => t.tb = { s.tb with setPps := none } ∧
          Answers s t 0x0302 tag St.LATE s.tai [] ∧ Only [.tb, .mbx] [Reg.MBX_RSPPI] s t)

/-- An over-ranged chain with nothing on air leaves service and is recorded. A bound engine that fails is mapped out and a free spare of its cluster takes
its slot, on the tally with the margin, the fewest spares left; with no spare its channel goes dark. An idle spare that fails is on the tally with no
spare. A module that fails its self-test shares its neighbour's clock; when that one has failed as well both clusters are dark. A request waits in the
scheduler; one past its latest start ends LATE; one that may start goes on air for its duration, in region A and with no thermal cap, launched earlier
by the transmit delay of R288; one that may not waits. At its end a carrier leaves the air. Rows shown to complete with their effect (`Completes`):
rxChainFail, engineFailure, spareEngineFailure, ccmSelfTest, transmitRequest, txSchedulerStep, transmitEnd. -/
def Obligations.EnginesAndTransmission : Prop :=
  ∀ s : State, s.runs 4 = true →
    (Roomy s →
      (∀ c, c < 2 → s.rad.air = [] → s.rd (chainOk c) ≠ 0 → Completes (.rxChainFail c) s fun t => t.rd (chainOk c) = 0 ∧ t.rd Reg.RAD_EVT_CHAINFAIL = 1 ∧
        Logged s t 6 Ev.RX_CHAIN_FAIL [c] ∧ Only [.recs] [chainOk c, Reg.RAD_EVT_CHAINFAIL] s t) ∧
      (∀ e reason slot, e < 544 → s.rad.grid = true → slotOf s e = some slot → isDark s (32 * (e / 34) + slot) = false →
        (∀ sp l, freeSpares s (e / 34) = sp :: l → s.sup.tally.length < 8000 → Completes (.engineFailure e reason) s fun t =>
          t.rad.failed = s.rad.failed ++ [e] ∧ t.rad.bound.get? sp = some slot ∧ slotOf t e = none ∧ t.margin 0 = engineMargin t ∧
          (∃ r, t.sup.tally = s.sup.tally ++ [r] ∧ r.kind = 1 ∧ r.cls = 0 ∧ r.failed = e ∧ r.spare = sp ∧ r.margin = engineMargin t ∧ r.reason = reason ∧
            r.detail = 32 * (e / 34) + slot) ∧
          t.rd (Reg.PACK_CL_SPLEFT (e / 34)) = l.length ∧ Parts [.rad, .sup] s t) ∧
        (freeSpares s (e / 34) = [] → Completes (.engineFailure e reason) s fun t => isDark t (32 * (e / 34) + slot) = true ∧
          Logged s t 6 Ev.CHANNEL_DARK [32 * (e / 34) + slot] ∧ t.rad = { s.rad with dead := s.rad.dead ++ [e] } ∧
          Only [.recs, .rad] [Reg.PACK_DARK_DARK ((32 * (e / 34) + slot) / 32)] s t)) ∧
      (∀ e reason, e < 544 → e ∈ freeSpares s (e / 34) → s.sup.tally.length < 8000 → Completes (.spareEngineFailure e reason) s fun t =>
        t.rad = { s.rad with failed := s.rad.failed ++ [e] } ∧ t.margin 0 = engineMargin t ∧
        (∃ r, t.sup.tally = s.sup.tally ++ [r] ∧ r.kind = 1 ∧ r.cls = 0 ∧ r.failed = e ∧ r.spare = 0xFFFF ∧ r.reason = reason) ∧ Parts [.rad, .sup] s t) ∧
      (∀ k, k < 16 →
        (Completes (.ccmSelfTest k true) s fun t => Only [] [] s t) ∧
        (s.rd (Reg.PACK_CL_CCMFAIL k) = 0 → s.rd (Reg.PACK_CL_CCMFAIL (k ^^^ 1)) = 0 → Completes (.ccmSelfTest k false) s fun t =>
          t.rd (Reg.PACK_CL_CCMFAIL k) = 1 ∧ t.rd (Reg.PACK_CL_CCMSHR k) = 1 ∧ t.rd (Reg.PACK_CL_CCMSHR (k ^^^ 1)) = 1 ∧
          Logged s t 6 Ev.CCM_FAIL [k] ∧ Only [.recs] [Reg.PACK_CL_CCMFAIL k, Reg.PACK_CL_CCMSHR k, Reg.PACK_CL_CCMSHR (k ^^^ 1)] s t) ∧
        (s.rd (Reg.PACK_CL_CCMFAIL k) = 0 → s.rd (Reg.PACK_CL_CCMFAIL (k ^^^ 1)) = 1 → Completes (.ccmSelfTest k false) s fun t =>
          (∀ i, i < 64 → isDark t (32 * (k / 2 * 2) + i) = true) ∧ Parts [.recs] s t))) ∧
    (∀ ch cls e l fs, ch < 512 → Completes (.transmitRequest ch cls e l fs) s fun t =>
      t.rad = { s.rad with pend := s.rad.pend ++ [⟨s.rad.nextId, ch, cls, e, l, airNs s cls fs, 0, fs⟩], nextId := s.rad.nextId + 1 } ∧ Only [.rad] [] s t) ∧
    (QuietLink s →
      (∀ now r, s.rad.pend = [r] →
        (now < r.earliest → Completes (.txSchedulerStep now) s fun t => Only [] [] s t) ∧
        (r.earliest ≤ now → r.latest < now → Completes (.txSchedulerStep now) s fun t => t.rad = { s.rad with pend := [] } ∧
          Counted s t Reg.RAD_CNT0_LATE ∧ Only [.rad] [Reg.RAD_CNT0_LATE] s t) ∧
        (r.earliest ≤ now → now ≤ r.latest →
          s.rd Reg.RAD_STAT_SETTLE = 1 ∨ s.rd Reg.RAD_STAT_CAL = 1 ∨ (s.rd Reg.RAD_STAT_DRAIN = 1 ∧ s.rad.horizon < now + r.dur) ∨
            maxCar s ≤ s.rad.air.length ∨ (∃ c ∈ s.rad.air, c.req.chan = r.chan) ∨ bit (sec03 s).mask r.chan = false →
          Completes (.txSchedulerStep now) s fun t => Only [] [] s t) ∧
        (s.fuses.region = 1 → r.earliest ≤ now → now ≤ r.latest → s.rd Reg.RAD_STAT_SETTLE = 0 → s.rd Reg.RAD_STAT_CAL = 0 → s.rd Reg.RAD_STAT_DRAIN = 0 →
          s.rd Reg.RAD_STAT_THROT = 0 →
          s.rad.air.length < maxCar s →
          (r.cls ≠ .ack → s.rad.air.length - (s.rad.air.filter fun c => c.req.cls = .ack).length < maxCar s - min (s.rd Reg.RAD_TXLIM_RSVACK) (maxCar s / 2)) →
          (r.cls = .train → (s.rad.air.filter fun c => c.req.cls = .train).length < s.rd Reg.RAD_TXLIM_TRAINMAX) →
          (∀ c ∈ s.rad.air, c.req.chan ≠ r.chan) → bit (sec03 s).mask r.chan = true → Completes (.txSchedulerStep now) s fun t =>
            t.rad.pend = [] ∧ t.rad.air = s.rad.air ++ [⟨r, now + r.dur, carLevel s, now - txDelay s⟩] ∧ t.rad.blank0 = true ∧
            t.rd Reg.RAD_TXCAP_ONAIR = s.rad.air.length + 1 ∧ Only [.rad] [Reg.RAD_TXCAP_ONAIR, Reg.RAD_TXCAP_MAXCAR] s t)) ∧
      ∀ id c, s.rad.air.find? (·.req.id = id) = some c → s.rad.air.length ≤ 32 → Completes (.transmitEnd id) s fun t =>
        t.rad.air.map (·.req) = (s.rad.air.map (·.req)).filter (·.id != id) ∧ t.rd Reg.RAD_TXCAP_ONAIR = t.rad.air.length ∧ t.rad.ended = [] ∧
        Only [.rad] [Reg.RAD_TXCAP_ONAIR, Reg.RAD_TXCAP_MAXCAR] s t)

/-- Loss of LO lock takes every carrier off the air, sets SETTLE, ends a drain or a calibration to be begun anew, and is recorded. The settled LO opens
both chains and begins what waits. A period after the last calibration a drain begins, or the wish is kept while the LO settles; CAL_NOW begins one,
or is BUSY. At the horizon with nothing on air the calibration starts; at its end, 180 µs later or after, good chains are in service, the third
failure in a row of a chain takes it out, and CAL_NOW is answered. RAD_STATUS and CHAN_STATE give the state as Table RAD-4 and R366 lay it out. Rows
shown to complete with their effect (`Completes`): loUnlock, loSettled, calibrationDue, calibrationStart, calibrationEnd, calNow, radStatus,
chanState. -/
def Obligations.CalibrationAndRadioCommands : Prop :=
  ∀ s : State, s.runs 4 = true →
    (QuietLink s → Roomy s → Completes .loUnlock s fun t => t.rad.air = [] ∧ t.rad.blankAll = true ∧ t.rad.pend = s.rad.pend ∧ t.rd Reg.RAD_STAT_SETTLE = 1 ∧
      t.rd Reg.RAD_STAT_CAL = 0 ∧ t.rd Reg.RAD_STAT_DRAIN = 0 ∧ t.rd Reg.RAD_EVT_LOUNLK = 1 ∧
      t.rad.calWant = (decide (s.rd Reg.RAD_STAT_CAL = 1) || decide (s.rd Reg.RAD_STAT_DRAIN = 1) || s.rad.calWant) ∧ Logged s t 6 Ev.LO_UNLOCK [] ∧
      Only [.rad, .recs] [Reg.RAD_STAT_SETTLE, Reg.RAD_STAT_CAL, Reg.RAD_STAT_DRAIN, Reg.RAD_EVT_LOUNLK, Reg.RAD_TXCAP_ONAIR, Reg.RAD_TXCAP_MAXCAR] s t) ∧
    (∀ now,
      (s.rd Reg.RAD_STAT_SETTLE = 1 →
        (s.rad.calWant = false → s.rad.calTag = none → Completes (.loSettled now) s fun t => t.rd Reg.RAD_STAT_SETTLE = 0 ∧
          t.rad = { s.rad with blankAll := false } ∧ Only [.rad] [Reg.RAD_STAT_SETTLE] s t) ∧
        (s.rad.calWant = true ∨ s.rad.calTag ≠ none → Completes (.loSettled now) s fun t => t.rd Reg.RAD_STAT_SETTLE = 0 ∧ t.rd Reg.RAD_STAT_DRAIN = 1 ∧
          t.rad.blankAll = false ∧ t.rad.drainAt = now ∧ Only [.rad] [Reg.RAD_STAT_SETTLE, Reg.RAD_STAT_DRAIN] s t)) ∧
      (s.rad.calFrom + s.rd Reg.RAD_CAL_CALPER * 1000000000 ≤ now →
        (s.rd Reg.RAD_STAT_SETTLE = 1 → Completes (.calibrationDue now) s fun t => t.rad = { s.rad with calWant := true } ∧ Only [.rad] [] s t) ∧
        (s.rd Reg.RAD_STAT_SETTLE = 0 → s.rd Reg.RAD_STAT_DRAIN = 0 → s.rd Reg.RAD_STAT_CAL = 0 → Completes (.calibrationDue now) s fun t =>
          t.rd Reg.RAD_STAT_DRAIN = 1 ∧ t.rad.drainAt = now ∧ now ≤ t.rad.horizon ∧ (∀ c ∈ s.rad.air, c.stop ≤ t.rad.horizon) ∧
          t.rad.air = s.rad.air ∧ Only [.rad] [Reg.RAD_STAT_DRAIN] s t)) ∧
      (s.rd Reg.RAD_STAT_DRAIN = 1 → s.rad.horizon ≤ now → s.rad.air = [] → Completes (.calibrationStart now) s fun t =>
        t.rd Reg.RAD_STAT_DRAIN = 0 ∧ t.rd Reg.RAD_STAT_CAL = 1 ∧ t.rad = { s.rad with calAt := now, blank0 := true } ∧
        t.rd Reg.RAD_CAL_LASTDRN = min 0xFFFF ((now - s.rad.drainAt) / 1000000) ∧
        Only [.rad] [Reg.RAD_STAT_DRAIN, Reg.RAD_STAT_CAL, Reg.RAD_CAL_LASTDRN, Reg.RAD_TXCAP_ONAIR, Reg.RAD_TXCAP_MAXCAR] s t) ∧
      (s.rd Reg.RAD_STAT_CAL = 1 → s.rad.calAt + 180000 ≤ now →
        (s.rad.calTag = none → Completes (.calibrationEnd now true true) s fun t => t.rd Reg.RAD_STAT_CAL = 0 ∧ t.rd Reg.RAD_STAT_CH0OK = 1 ∧
          t.rd Reg.RAD_STAT_CH1OK = 1 ∧ t.rad.lastCal = now ∧ t.rad.calFrom = now ∧ t.rad.calBad.get? 0 = none ∧ t.rad.calBad.get? 1 = none ∧
          Only [.rad] [Reg.RAD_STAT_CAL, Reg.RAD_STAT_CH0OK, Reg.RAD_STAT_CH1OK, Reg.RAD_TXCAP_ONAIR, Reg.RAD_TXCAP_MAXCAR] s t) ∧
        (∀ tag, s.rad.calTag = some tag → (0x0403, tag) ∈ s.mbx.prog → Completes (.calibrationEnd now true true) s fun t =>
          t.rd Reg.RAD_STAT_CAL = 0 ∧ t.rad.calTag = none ∧ Answers s t 0x0403 tag 0 s.tai []) ∧
        (s.rad.calTag = none → s.rad.calBad.getD 0 0 = 2 → s.rd Reg.RAD_STAT_CH0OK = 1 → Roomy s → Completes (.calibrationEnd now false true) s fun t =>
          t.rd Reg.RAD_STAT_CAL = 0 ∧ t.rd Reg.RAD_STAT_CH0OK = 0 ∧ t.rd Reg.RAD_EVT_CALFAIL = 1 ∧ t.rd Reg.RAD_EVT_CHAINFAIL = 1 ∧
          t.rad.calBad.get? 0 = some 3 ∧ Logged s t 6 Ev.CAL_FAIL [0] ∧ Logged s t 6 Ev.RX_CHAIN_FAIL [0]))) ∧
    ∀ tag,
      (Takes s 0x0403 →
        (s.rd Reg.RAD_STAT_SETTLE = 0 → s.rd Reg.RAD_STAT_DRAIN = 0 → s.rd Reg.RAD_STAT_CAL = 0 → s.rad.calTag = none → Completes (.calNow tag) s fun t =>
          t.rd Reg.RAD_STAT_DRAIN = 1 ∧ t.rad.calTag = some tag ∧ t.rad.drainAt = s.tb.ns ∧ t.mbx.prog = s.mbx.prog ++ [(0x0403, tag)] ∧
          Only [.rad, .mbx] [Reg.RAD_STAT_DRAIN] s t) ∧
        (s.rd Reg.RAD_STAT_SETTLE = 1 ∨ s.rd Reg.RAD_STAT_DRAIN = 1 ∨ s.rd Reg.RAD_STAT_CAL = 1 ∨ s.rad.calTag ≠ none →
          Denied (.calNow tag) s 0x0403 tag St.BUSY)) ∧
      (Takes s 0x0401 → Completes (.radStatus tag) s fun t => ∃ pl, Answers s t 0x0401 tag 0 s.tai pl ∧ pl.length = 48 ∧
        pl.getD 0 0 = BitVec.ofNat 8 s.fuses.region ∧ pl.getD 2 0 = BitVec.ofNat 8 (maxCar s) ∧ pl.getD 3 0 = BitVec.ofNat 8 s.rad.air.length ∧
        pl.getD 6 0 = BitVec.ofNat 8 (s.margin 0) ∧ Only [.mbx] [Reg.MBX_RSPPI] s t) ∧
      (Takes s 0x0402 → ∀ first count,
        (1 ≤ count → count ≤ 120 → first + count ≤ 512 → Completes (.chanState tag first count) s fun t => ∃ pl, Answers s t 0x0402 tag 0 s.tai pl ∧
          pl.length = 2 * count ∧ (∀ i, i < count → (pl.drop (2 * i)).take 2 = le 2 (chanWord s (first + i))) ∧ Only [.mbx] [Reg.MBX_RSPPI] s t) ∧
        (count = 0 ∨ 120 < count ∨ 512 < first + count → Denied (.chanState tag first count) s 0x0402 tag St.BAD_PARAM))

/-- A DATA frame that fails a check is counted at the first it fails, and nothing else comes of it but the record of an unknown node or of a failed MIC; a
repeated one is counted and acknowledged. A bark in good order makes its node known as it says, takes its offset, and is reported the first time. The
ACK of a host's frame ends it DONE with its report; the missing ACK of its last transmission ends it NO_ACK and the node is unreachable. A clear CCA
starts the preamble, unless its request's latest start has passed, which is counted; after a busy one the request waits for its backoff, after the
fifth it is gone. Replay counters are saved every 10 s. Times are those of the stamp of R287. A copy of a howl in the seen cache is counted, any other
is entered there. Rows shown to complete with their effect (`Completes`): barkReceived, ackReceived, ackTimeout, ccaEnd, replayCounterSave,
howlCopyHeard. -/
def Obligations.AirReception : Prop :=
  ∀ s : State,
    (QuietLink s → ∀ c f0 f, uplinkRow c = some f0 → f = stamped s f0 →
      (hears s f.chan f.t = false → Completes c s fun t => Only [] [] s t) ∧
      (hears s f.chan f.t = true →
        (f.phrResv = true ∨ f.len < 5 ∨ 255 < f.len → Completes c s fun t => Counted s t Reg.PACK_AIR0_HDRERR ∧ Only [] [Reg.PACK_AIR0_HDRERR] s t) ∧
        (f.phrResv = false → 5 ≤ f.len → f.len ≤ 255 →
          (f.fcsOk = false → Completes c s fun t => Counted s t Reg.PACK_AIR0_FCSERR ∧ Only [] [Reg.PACK_AIR0_FCSERR] s t) ∧
          (f.fcsOk = true → f.pver ≠ 1 → f.pver ≠ 2 → Completes c s fun t => Counted s t Reg.PACK_AIR1_VERERR ∧ Only [] [Reg.PACK_AIR1_VERERR] s t) ∧
          (f.fcsOk = true → f.pver = 1 ∨ f.pver = 2 →
            (headerOk f 0 = false → Completes c s fun t => Counted s t Reg.PACK_AIR0_HDRERR ∧ Only [] [Reg.PACK_AIR0_HDRERR] s t) ∧
            (headerOk f 0 = true → s.node f.src = none ∨ f.euiOk = false → s.lnt.unkAt = none → Roomy s → Completes c s fun t => Counted s t Reg.PACK_AIR1_UNROST ∧
              Counted s t Reg.LNT_CNT2_UNKN ∧ Logged s t 7 Ev.NODE_UNKNOWN [f.src, f.chan, s.lnt.unkN + 1] ∧
              t.lnt = { s.lnt with unkN := 0, unkAt := some f.t } ∧ Only [.lnt, .recs] [Reg.PACK_AIR1_UNROST, Reg.LNT_CNT2_UNKN] s t)))) ∧
      ∀ d, rxNode s f 0 = (s, some d) →
        (f.micOk = false ∨ d.lkey = none → d.authAt = none → Roomy s → Completes c s fun t => Counted s t Reg.PACK_AIR2_MICERR ∧
          Logged s t 3 Ev.AIR_AUTH_FAIL [f.src, 1] ∧ t.rad = s.rad ∧ Only [.lnt, .recs] [Reg.PACK_AIR2_MICERR] s t) ∧
        (f.micOk = true → d.lkey ≠ none → d.lastRx ≠ some (f.seq, f.fcnt) → f.fcnt ≤ d.rx ∨ 0xFFFFFFFF ≤ f.fcnt → d.authAt = none → Roomy s → Completes c s fun t =>
          Counted s t Reg.PACK_AIR2_REPLAY ∧ Logged s t 3 Ev.AIR_AUTH_FAIL [f.src, 2] ∧ t.rad = s.rad ∧ Only [.lnt, .recs] [Reg.PACK_AIR2_REPLAY] s t) ∧
        (f.micOk = true → d.lkey ≠ none → d.lastRx = some (f.seq, f.fcnt) → f.rt = true → bit (sec03 s).mask f.chan = true → Completes c s fun t =>
          Counted s t Reg.PACK_AIR3_DUP ∧ t.lnt = s.lnt ∧
          (∃ r, t.rad = { s.rad with pend := s.rad.pend ++ [r], nextId := s.rad.nextId + 1 } ∧ r.cls = .ack ∧ r.chan = f.chan ∧
            r.earliest = rxEnd s f + 1000000) ∧ Only [.rad] [Reg.PACK_AIR3_DUP] s t)) ∧
    (∀ (f0 f : RxFrame) (b : Bark) (d : Node) (e : Int), f = stamped s f0 → Accepted s f 2 d → d.due = [] → luxNode s f.src = none → bit d.lux.faults 16 = false →
      d.slost = false → d.unreach = false → b.tunk = false → b.tsc = d.rcd.tsc → b.tsc ≤ 6 → max 1 b.pvmax = d.pvmax → d.seenAt = none → Reportable s →
      e = toS 48 ((b.ntime48 + 2 ^ 48 - f.t / 1000 % 2 ^ 48) % 2 ^ 48) → e.natAbs ≤ (sec03 s).timeTol * 1000 →
      Completes (.barkReceived f0 b) s fun t => Taken s t f ∧ (∃ body, Reported s t 0x0503 3 body) ∧
        (∃ n, t.node f.src = some n ∧ n.barked = true ∧ n.rho = b.rho ∧ n.boots = b.boots ∧ n.supply = b.supply ∧ n.mains = b.mains ∧ n.relay = b.relay ∧
          n.tsc = b.tsc ∧ n.contact = some f.t ∧ n.offs = e ∧ n.seenAt = some f.t ∧ n.nbver = (if f.pver = 2 then b.nbver else d.nbver)) ∧
        Only [.lnt, .rad, .mbx] [Reg.MBX_RPTPI] s t) ∧
    (∀ (ln : Nat) (d : Node) (f : DlFrame) (tag : Nat), OneFrame s ln d f → f.stage = .ack → f.src = .host tag → f.cmd = false → d.rcd.hops = 0 → Reportable s →
      (∀ (a0 a : AckFrame) (e : Int), a = { a0 with t := rxStamp s a0.t } → hears s a.chan a.t = true → f.chan = a.chan → f.seq = some a.seq →
        a.phrResv = false → a.len = 9 → a.fcsOk = true → a.pver = 1 ∨ a.pver = 2 → a.up = true → a.resv = false →
        a.t + (2 + a.len) * dataByte s / 3 ≤ f.stop + 1400000 + ackNs s true →
        d.due = [] → luxNode s ln = none → bit d.lux.faults 16 = false → d.slost = false → d.unreach = false →
        e = d.offs + toS 32 (ofS 32 ((a.ntime : Int) - ((a.t / 1000 : Nat) : Int) - d.offs)) → e.natAbs ≤ (sec03 s).timeTol * 1000 →
        Completes (.ackReceived a0) s fun t => Counted s t Reg.LNT_CNT0_DLOK ∧
          (∃ n, t.node ln = some n ∧ n.q = [] ∧ n.contact = some a.t ∧ n.offs = e ∧ n.rssi = a.rssi) ∧
          Reported s t 0x0502 0 (nodeBody ln a.t (le 2 tag ++ le 1 0 ++ le 1 (min 255 f.tries) ++ le 1 (min 255 f.trains) ++ le 1 0 ++ le 2 f.chan)) ∧
          Only [.lnt, .rad, .mbx] [Reg.LNT_CNT0_DLOK, Reg.MBX_RPTPI] s t) ∧
      (∀ now, f.stop + 1400000 ≤ now → f.mode = .rxon → f.limit ≤ f.tries → d.unreach = true → Completes (.ackTimeout ln now) s fun t => Counted s t Reg.LNT_CNT0_DLFAIL ∧
        Counted s t Reg.PACK_AIR3_NOACK ∧ (∃ n, t.node ln = some n ∧ n.q = [] ∧ n.unreach = true) ∧
        Reported s t 0x0502 0 (nodeBody ln now (le 2 tag ++ le 1 1 ++ le 1 (min 255 f.tries) ++ le 1 (min 255 f.trains) ++ le 1 0 ++ le 2 f.chan)) ∧
        Only [.lnt, .mbx] [Reg.LNT_CNT0_DLFAIL, Reg.PACK_AIR3_NOACK, Reg.MBX_RPTPI] s t) ∧
      (∀ now, f.stop + 1400000 ≤ now → f.mode = .rxon → f.limit ≤ f.tries → d.unreach = false → Completes (.ackTimeout ln now) s fun t => Counted s t Reg.LNT_CNT0_DLFAIL ∧
        t.rd Reg.LNT_EVT_UNREACH = 1 ∧ (∃ n, t.node ln = some n ∧ n.q = [] ∧ n.unreach = true) ∧ Parts [.lnt, .mbx] s t)) ∧
    (QuietLink s → s.fuses.region = 1 → ∀ id c now, s.rad.air.find? (·.req.id = id) = some c → c.req.cls ≠ .ack →
      (now ≤ c.req.latest → Completes (.ccaEnd id true now) s fun t =>
        t.rad = { s.rad with air := s.rad.air.map fun x => if x.req.id = id then { x with stop := now + x.req.dur, launch := now - txDelay s } else x } ∧
        Only [.rad] [] s t) ∧
      (c.req.latest < now → Completes (.ccaEnd id true now) s fun t => (∀ x ∈ t.rad.air, x.req.id ≠ id) ∧ t.rad.pend = s.rad.pend ∧
        Counted s t Reg.RAD_CNT0_LATE ∧ Only [.rad] [Reg.RAD_TXCAP_ONAIR, Reg.RAD_TXCAP_MAXCAR, Reg.RAD_CNT0_LATE] s t) ∧
      (c.req.nb < 4 → Completes (.ccaEnd id false now) s fun t => (∀ x ∈ t.rad.air, x.req.id ≠ id) ∧ t.free = s.free + 1 ∧
        (∃ n, n < 2 ^ min (4 + c.req.nb) 6 ∧ t.rad.pend = s.rad.pend ++ [{ c.req with nb := c.req.nb + 1, earliest := now + n * 320000 }]) ∧
        Only [.rad, .free] [Reg.RAD_TXCAP_ONAIR, Reg.RAD_TXCAP_MAXCAR] s t) ∧
      (4 ≤ c.req.nb → Completes (.ccaEnd id false now) s fun t => (∀ x ∈ t.rad.air, x.req.id ≠ id) ∧ t.rad.pend = s.rad.pend ∧ t.rad.ended = [] ∧
        Only [.rad] [Reg.RAD_TXCAP_ONAIR, Reg.RAD_TXCAP_MAXCAR] s t)) ∧
    (s.runs 1 = true → (s.lnt.nodes.map Prod.fst).Nodup →
      ((∀ x, s.lnt.savedUp = some x → x + 10000000000 ≤ s.up) → Completes .replayCounterSave s fun t =>
        (∀ ln d, s.node ln = some d → ∃ m, t.lnt.ctr.get? ln = some m ∧ m.rx = d.rx) ∧
        t.lnt = { s.lnt with ctr := t.lnt.ctr, savedUp := some s.up } ∧ Only [.lnt] [] s t) ∧
      (∀ x, s.lnt.savedUp = some x → s.up < x + 10000000000 → Completes .replayCounterSave s fun t => Only [] [] s t)) ∧
    ∀ f0 f d msgid, f = stamped s f0 → rxNode s f 3 = (s, some d) → f.micOk = true →
      ((∃ a, (msgid, a) ∈ s.lnt.seen ∧ f.t < a + 600000000000) → Completes (.howlCopyHeard f0 msgid) s fun t => Counted s t Reg.LNT_CNT1_HCOPY ∧
        Only [.lnt] [Reg.LNT_CNT1_HCOPY] s t) ∧
      ((∀ a, (msgid, a) ∈ s.lnt.seen → a + 600000000000 ≤ f.t) → Completes (.howlCopyHeard f0 msgid) s fun t => (msgid, f.t) ∈ t.lnt.seen ∧
        t.lnt = { s.lnt with seen := t.lnt.seen } ∧ Only [.lnt] [] s t)

/-- A first record that keeps R440 is taken, GEN counts, and the answer gives it; records that break it are BAD_PARAM. A deleted node is gone; an unknown
one is 0x80. ROSTER_GET and NODE_STATE give what the module holds. NODE_SEND queues the frame with its deadline and an HTAG, and is refused as Table
NET-6 says; so is HOWL_SEND, whose howl waits for its window with a MSGID of its own. NODE_FLUSH cancels what was never on air. In a window with room
the copies are requested; a howl past its deadline is sent no more. HOWL_DONE reports a host's howl, 600 s after its last copy. The end-to-end timeout
repeats a routed frame once, then ends it; a deadline ends it LATE; at its retry time it is tried again. Rows shown to complete with their effect
(`Completes`): rosterPut, rosterDel, rosterGet, nodeState, nodeSend, howlSend, nodeFlush, howlWindow, howlDone, e2eTimeout, deadlineExpiry,
retryTimerExpiry. -/
def Obligations.RosterAndDelivery : Prop :=
  ∀ (s : State) (tag : Nat),
    (Takes s 0x0501 →
      (∀ r, s.lnt.nodes = [] → rosterOk (sec04 s).hchan [r] = true → Completes (.rosterPut tag [r]) s fun t =>
        (∃ n, t.node r.ln = some n ∧ n.rcd = r ∧ n.home = r.home ∧ n.alt = r.alt ∧ n.q = []) ∧
        t.rd Reg.LNT_STAT_GEN = (s.rd Reg.LNT_STAT_GEN + 1) % 65536 ∧
        Answers s t 0x0501 tag 0 s.tai (le 2 ((s.rd Reg.LNT_STAT_GEN + 1) % 65536)) ∧ t.cfg.edited = s.cfg.edited ++ [4] ∧
        Parts [.lnt, .mbx, .cfg, .key, .recs] s t) ∧
      (∀ recs, recs = [] ∨ 5 < recs.length ∨ rosterOk (sec04 s).hchan (recs.foldl (fun l r => l.filter (fun q => q.ln != r.ln) ++ [r]) (roster s)) = false →
        Denied (.rosterPut tag recs) s 0x0501 tag St.BAD_PARAM)) ∧
    (Takes s 0x0502 →
      (∀ ln d, QuietLink s → s.node ln = some d → (∀ r ∈ roster s, ln ∉ r.relays) → Completes (.rosterDel tag [ln]) s fun t => t.node ln = none ∧
        t.rd Reg.LNT_STAT_GEN = (s.rd Reg.LNT_STAT_GEN + 1) % 65536 ∧
        Answers s t 0x0502 tag 0 s.tai (le 2 ((s.rd Reg.LNT_STAT_GEN + 1) % 65536)) ∧ Parts [.lnt, .mbx, .cfg] s t) ∧
      (∀ lns, lns = [] ∨ 80 < lns.length → Denied (.rosterDel tag lns) s 0x0502 tag St.BAD_PARAM) ∧
      (∀ lns, 1 ≤ lns.length → lns.length ≤ 80 → (∃ ln ∈ lns, s.lnt.nodes.has ln = false) → Denied (.rosterDel tag lns) s 0x0502 tag 0x80)) ∧
    (∀ ln,
      (Takes s 0x0503 → s.node ln = none → Denied (.rosterGet tag ln) s 0x0503 tag 0x80) ∧
      (Takes s 0x0504 → s.node ln = none → Denied (.nodeState tag ln) s 0x0504 tag 0x80) ∧
      ∀ d, s.node ln = some d →
        (Takes s 0x0503 → Completes (.rosterGet tag ln) s fun t => Answers s t 0x0503 tag 0 s.tai (rosterBytes d.rcd ++ le 2 (s.rd Reg.LNT_STAT_GEN)) ∧
          Only [.mbx] [Reg.MBX_RSPPI] s t) ∧
        (Takes s 0x0504 → Completes (.nodeState tag ln) s fun t => (∃ pl, Answers s t 0x0504 tag 0 s.tai pl ∧ pl.length = 40 ∧ pl.take 2 = le 2 d.rxch ∧
          pl.getD 2 0 = BitVec.ofNat 8 (b2n d.slost + 2 * b2n (d.unreach || d.noRoute) + 4 * b2n d.onAlt + 8 * b2n d.rekey + 16 * b2n d.contact.isNone) ∧
          pl.getD 7 0 = BitVec.ofNat 8 d.q.length ∧ (pl.drop 32).take 4 = le 4 d.tx ∧ (pl.drop 36).take 4 = le 4 d.rx) ∧ Only [.mbx] [Reg.MBX_RSPPI] s t)) ∧
    (Takes s 0x0505 → ∀ ln deadline op (body : List Byte),
      (0x20 ≤ op → op ≤ 0x24 → Denied (.nodeSend tag ln deadline op body) s 0x0505 tag 0x82) ∧
      (0x10 ≤ op → op ≤ 0x18 → 1 ≤ deadline → deadline ≤ 86400 → body.length ≤ 255 →
        (s.node ln = none → Denied (.nodeSend tag ln deadline op body) s 0x0505 tag 0x80) ∧
        ∀ d, s.node ln = some d → d.rcd.hops = 0 → uniVer s ln = 1 →
          (229 < body.length → Denied (.nodeSend tag ln deadline op body) s 0x0505 tag 0x83) ∧
          (body.length ≤ 229 → (sec04 s).dldepth ≤ d.q.length → Denied (.nodeSend tag ln deadline op body) s 0x0505 tag 0x81) ∧
          (body.length ≤ 229 → QuietLink s → d.unreach = true → 1 ≤ (sec04 s).dldepth → Completes (.nodeSend tag ln deadline op body) s fun t =>
            (∃ n, t.node ln = some n ∧ n.q = [{ src := .host tag, cmd := false, op := op, body := body, htag := nextHtag d, deadline := some (s.tb.ns + deadline * 1000000000) }] ∧ (nextHtag d ≠ 0 → n.tags.get? (nextHtag d) = some (some tag))) ∧
            Answers s t 0x0505 tag 0 s.tai [] ∧ Only [.lnt, .mbx] [Reg.MBX_RSPPI] s t))) ∧
    (Takes s 0x0506 → ∀ scope group ttl deadline op (body : List Byte),
      (0x20 ≤ op → op ≤ 0x24 → Denied (.howlSend tag scope group ttl deadline op body) s 0x0506 tag 0x82) ∧
      (op < 0x20 → scope = 1 → group = 0 → 1 ≤ ttl → ttl ≤ 15 → 1 ≤ deadline → deadline ≤ 86400 → body.length ≤ 219 → s.lnt.howls = [] → s.lnt.used = [] →
        QuietLink s → (∀ p ∈ s.lnt.nodes, p.2.tsc = 0) → Completes (.howlSend tag scope group ttl deadline op body) s fun t =>
          (∃ h, t.lnt.howls = [h] ∧ h.msgid = (s.lnt.msgid + 1) % 65536 ∧ h.origin = 0 ∧ h.tag = tag ∧ h.op = op ∧ h.body = body ∧ h.ttl = ttl ∧
            h.deadline = some (s.tb.ns + deadline * 1000000000) ∧ h.todo = howlChans s 1 0) ∧ Counted s t Reg.LNT_CNT1_HOWLS ∧
          Answers s t 0x0506 tag 0 s.tai (le 2 ((s.lnt.msgid + 1) % 65536)) ∧ Only [.lnt, .mbx] [Reg.LNT_CNT1_HOWLS, Reg.MBX_RSPPI] s t)) ∧
    (Takes s 0x0507 → ∀ ln,
      (s.node ln = none → Denied (.nodeFlush tag ln) s 0x0507 tag 0x80) ∧
      ∀ d f, OneFrame s ln d f → f.aired = false → f.stage = .idle → f.src = .module → Completes (.nodeFlush tag ln) s fun t =>
        (∃ n, t.node ln = some n ∧ n.q = []) ∧ Counted s t Reg.LNT_CNT0_DLFAIL ∧ Answers s t 0x0507 tag 0 s.tai (le 2 1) ∧
        Only [.lnt, .mbx] [Reg.LNT_CNT0_DLFAIL, Reg.MBX_RSPPI] s t) ∧
    (s.runs 1 = true → s.runs 4 = true → ∀ w h ch,
      (s.lnt.howls = [h] → h.todo = [ch] → h.asked = [] → h.sent = 0 → h.origin ≠ 2 → h.deadline = none → mayUse s ch = true →
        frameNs s 4 (howlLen s h) + 2 * tolNs s ≤ (sec04 s).hwin * 1000000 →
        (∃ g k, (sec03 s).gkeys.find? (fun g => g.1 = (sec04 s).hkey) = some g ∧ s.key.slots.get? g.2 = some k ∧ k.uses = 0xFFFFFFFF ∧
          keyServes s 0 g.2 1 .encrypt = true) →
        Completes (.howlWindow w) s fun t => t.lnt = { s.lnt with howls := [{ h with todo := [], asked := [(s.rad.nextId, ch)] }] } ∧
          (∃ r, t.rad = { s.rad with pend := s.rad.pend ++ [r], nextId := s.rad.nextId + 1 } ∧ r.cls = .howl ∧ r.chan = ch ∧
            r.earliest = w * (sec04 s).hper * 1000000 + tolNs s) ∧ Only [.lnt, .rad] [] s t) ∧
      (∀ a, s.lnt.howls = [h] → h.todo = [ch] → h.origin ≠ 2 → h.deadline = some a → a ≤ w * (sec04 s).hper * 1000000 →
        Completes (.howlWindow w) s fun t => t.lnt = { s.lnt with howls := [{ h with todo := [] }] } ∧ Only [.lnt] [] s t)) ∧
    (∀ h, s.lnt.howls.find? (·.msgid = h.msgid) = some h → h.asked = [] → h.todo = [] → h.stop + 600000000000 ≤ s.tb.ns →
      (h.origin = 0 → Reportable s → Completes (.howlDone h.msgid) s fun t => (∀ x ∈ t.lnt.howls, x.msgid ≠ h.msgid) ∧
        Reported s t 0x0506 0 (nodeBody 0xFFFFFF s.tb.ns (le 2 h.tag ++ le 2 h.msgid ++ le 2 h.group ++ le 1 h.scope ++ le 1 h.sent ++ le 2 h.echo ++ le 4 h.hcopy)) ∧
        Only [.lnt, .mbx] [Reg.MBX_RPTPI] s t) ∧
      (h.origin ≠ 0 → Completes (.howlDone h.msgid) s fun t => t.lnt = { s.lnt with howls := s.lnt.howls.filter (·.msgid != h.msgid) } ∧ Only [.lnt] [] s t)) ∧
    ∀ ln d f now, OneFrame s ln d f →
      (f.stage = .resp → f.stop + (3 + 2 * d.rcd.hops) * 1000000000 ≤ now → f.repeated = false → d.unreach = true → Completes (.e2eTimeout ln now) s fun t =>
        (∃ n, t.node ln = some n ∧ n.q = [{ f with stage := .idle, repeated := true, limit := f.tries + 4 }]) ∧ Only [.lnt] [] s t) ∧
      (f.stage = .resp → f.stop + (3 + 2 * d.rcd.hops) * 1000000000 ≤ now → f.repeated = true → f.src = .host tag → Completes (.e2eTimeout ln now) s fun t => (∃ n, t.node ln = some n ∧ n.q = []) ∧
        Counted s t Reg.LNT_CNT0_DLFAIL ∧ t.mbx.rseq = (s.mbx.rseq + 1) % 2 ^ 32 ∧ Parts [.lnt, .mbx] s t) ∧
      (∀ a, f.stage = .idle → f.req = none → f.aired = false → f.deadline = some a → a ≤ now → f.src = .host tag → Completes (.deadlineExpiry ln now) s fun t =>
        (∃ n, t.node ln = some n ∧ n.q = []) ∧ Counted s t Reg.LNT_CNT0_DLFAIL ∧ t.mbx.rseq = (s.mbx.rseq + 1) % 2 ^ 32 ∧ Parts [.lnt, .mbx] s t) ∧
      (f.stage = .retry → f.again ≤ now → d.unreach = true → Completes (.retryTimerExpiry ln now) s fun t =>
        (∃ n, t.node ln = some n ∧ n.q = [{ f with stage := .idle }]) ∧ Only [.lnt] [] s t)

/-- An accepted frame is acknowledged and taken over, and then: the fault classes of a status are raised; energy adds what the counter has risen, and a
counter that fell is recorded; a fault report raises its class, unless the supply explains it; an undervoltage report opens a summary and one that
says LOST on a feeder of its own loses it; a vehicle starts a wave on each path that has the sensor; an answer to a host's command, a Lamp-Bus answer,
maker data and a route error are reported; the answer of a campaign's node is kept. Rows shown to complete with their effect (`Completes`):
uplinkStatus, uplinkFault, uplinkEnergy, uplinkUvolt, uplinkTraffic, uplinkResp, uplinkLampbusAns, uplinkMakerData, uplinkRouteErr, uplinkNbNack. -/
def Obligations.UplinkPayloads : Prop :=
  ∀ (s : State) (f0 f : RxFrame) (d : Node), f = stamped s f0 → Accepted s f 0 d → Reportable s → Roomy s →
    ((s.feeder (feederOf s f.src)).st = 0 → (s.feeder (feederOf s f.src)).lossAt = none → d.lux.faults = 0 →
      (∀ level lamp faults, Completes (.uplinkStatus f0 level lamp faults) s fun t => (∃ n, t.node f.src = some n ∧ n.lux.faults = faults % 2 ^ 13 ∧ n.rx = f.fcnt) ∧
        (∀ c, c < 13 → bit faults c = true → Logged s t 5 Ev.LAMP_FAULT [f.src, c, 0]) ∧ (faults % 2 ^ 13 ≠ 0 → t.rd Reg.LNT_LUXEVT_FLTNEW = 1)) ∧
      (∀ cls detail tn, cls < 13 → Completes (.uplinkFault f0 cls true detail tn) s fun t =>
        (∃ n, t.node f.src = some n ∧ n.lux.faults = 2 ^ cls ∧ n.rx = f.fcnt) ∧ Logged s t 5 Ev.LAMP_FAULT [f.src, cls, detail] ∧
        t.rd Reg.LNT_LUXEVT_FLTNEW = 1 ∧ Only [.lnt, .rad, .recs, .mbx] [Reg.LNT_LUXEVT_FLTNEW, Reg.LNT_LUXACT_OVR, Reg.LNT_LUXACT_FAULTY, Reg.MBX_RPTPI] s t)) ∧
    (∀ cls detail tn, cls < 13 → supplyDep d cls = true → (s.feeder (feederOf s f.src)).st ≠ 0 → bit d.lux.faults cls = false →
      Completes (.uplinkFault f0 cls true detail tn) s fun t => (∃ n, t.node f.src = some n ∧ n.lux.faults = d.lux.faults ∧ n.lux.suppr = true) ∧
        Counted s t Reg.LNT_LUXCNT1_SUPPR ∧ t.recs = s.recs ∧ t.mbx = s.mbx) ∧
    (∀ ewh power burn,
      (∀ b, d.lux.base = some b → b ≤ ewh → Completes (.uplinkEnergy f0 ewh power burn) s fun t =>
        (∃ n, t.node f.src = some n ∧ n.lux = { d.lux with base := some ewh, day := d.lux.day + (ewh - b), power := power, burn := burn, last := f.t }) ∧
        Only [.lnt, .rad] [] s t) ∧
      (∀ b, d.lux.base = some b → ewh < b → Completes (.uplinkEnergy f0 ewh power burn) s fun t =>
        (∃ n, t.node f.src = some n ∧ n.lux = { d.lux with base := some ewh, power := power, burn := burn, last := f.t }) ∧
        Logged s t 5 Ev.ENERGY_RESET [f.src] ∧ Only [.lnt, .rad, .recs] [] s t)) ∧
    (∀ u : Uvolt, u.dur = 0xFFFF → s.runs 2 = false → s.runs 3 = false →
      (u.lost = false → (s.feeder (feederOf s f.src)).uv = none → Completes (.uplinkUvolt f0 u) s fun t =>
        (t.feeder (feederOf s f.src)).uv = some ⟨s.tb.ns, 1, 0, u.vres, f.src, spindleOf s f.src u.t, spindleOf s f.src u.t⟩ ∧ Parts [.lnt, .rad, .lux] s t) ∧
      (u.lost = true → 32 ≤ feederOf s f.src → (s.feeder (feederOf s f.src)).st = 0 → Completes (.uplinkUvolt f0 u) s fun t =>
        (t.feeder (feederOf s f.src)).st = 1 ∧ (t.feeder (feederOf s f.src)).lossAt = some (spindleOf s f.src u.t) ∧ t.rd Reg.LNT_LUXEVT_SUPLOST = 1 ∧
        Logged s t 5 Ev.SUPPLY_LOST [feederOf s f.src, (feederLns s (feederOf s f.src)).length] ∧ Parts [.lnt, .rad, .lux, .recs, .mbx] s t)) ∧
    (∀ tn kind dir speed,
      ((∀ c ∈ (sec05 s).paths.vals, ∀ x ∈ c.sensors, x.1 ≠ f.src) → Completes (.uplinkTraffic f0 tn kind dir speed) s fun t => Taken s t f ∧ Only [.lnt, .rad] [] s t) ∧
      (∀ c pos l m, (sec05 s).paths.vals = [c] → c.sensors.find? (fun x => x.1 = f.src) = some (f.src, pos) → 1 ≤ kind → kind ≤ 8 → bit c.kinds (kind - 1) = true →
        dir = 1 → c.lanterns = [(l, pos)] → l ≠ f.src → s.node l = some m → m.unreach = true → m.lux.wave = none → hushed s l = false → topOverride s l = none →
        (∀ τ, schedLevel s l τ < c.lwave) → Completes (.uplinkTraffic f0 tn kind dir speed) s fun t => Counted s t Reg.LNT_LUXCNT0_WAVES ∧
          (∃ n g, t.node l = some n ∧ n.q = [g] ∧ g.src = .wave ∧ g.op = 0x10 ∧ g.body.take 2 = le 2 c.lwave ∧ n.lux.wave.map Prod.fst = some c.lwave) ∧
          Only [.lnt, .rad] [Reg.LNT_LUXCNT0_WAVES] s t)) ∧
    (∀ htag op status tag, d.tags.get? htag = some (some tag) → op ≠ 0x17 → op ≠ 0x18 → Completes (.uplinkResp f0 htag op status) s fun t =>
      (∃ n, t.node f.src = some n ∧ n.tags.get? htag = none ∧ n.rx = f.fcnt) ∧ (∃ body, Reported s t 0x0501 2 body) ∧
      Only [.lnt, .rad, .mbx] [Reg.MBX_RPTPI] s t) ∧
    (∀ htag (body : List Byte), body.length ≤ 36 → Completes (.uplinkLampbusAns f0 htag body) s fun t =>
      (∃ n, t.node f.src = some n ∧ n.tags.get? htag = none ∧ n.rx = f.fcnt) ∧ (∃ b, Reported s t 0x0501 2 b) ∧ Only [.lnt, .rad, .mbx] [Reg.MBX_RPTPI] s t) ∧
    (∀ op (body : List Byte),
      (0xC0 ≤ op → op ≤ 0xFF → body.length ≤ 36 → Completes (.uplinkMakerData f0 op body) s fun t => Taken s t f ∧ (∃ b, Reported s t 0x0501 2 b) ∧
        Only [.lnt, .rad, .mbx] [Reg.MBX_RPTPI] s t) ∧
      (op < 0xC0 → Completes (.uplinkMakerData f0 op body) s fun t => Taken s t f ∧ Only [.lnt, .rad] [] s t)) ∧
    (∀ body : List Byte, Completes (.uplinkRouteErr f0 body) s fun t => Taken s t f ∧ t.rd Reg.LNT_EVT_RTERR = 1 ∧
      Reported s t 0x0505 1 (nodeBody f.src f.t (le 3 f.src ++ body.take 11)) ∧ Only [.lnt, .rad, .mbx] [Reg.LNT_EVT_RTERR, Reg.MBX_RPTPI] s t) ∧
    ∀ n : NbNack, s.upd.running = true → n.camp = s.camp.no → f.src ∈ s.camp.members → s.camp.phase ≠ 3 → n.st ≠ 5 → Completes (.uplinkNbNack f0 n) s fun t =>
      t.camp.st.get? f.src = some (n.st, n.ranges) ∧ f.src ∈ t.camp.answered ∧ Parts [.lnt, .rad, .upd] s t

/-- LUX_OVERRIDE with a known target takes the next OVID, shows in LUXACT and is sent: a frame to a lantern, a howl to the whole segment; out of range it
is BAD_PARAM, an unknown target 0x80, a full table 0x81. Renewal sends it again; its end and LUX_RELEASE give the lantern back to its schedule; an
unknown OVID is 0x82. LUX_STATE, FEEDER_STATE, FAULT_LIST and ENERGY_GET give what the engine holds, or refuse. A node silent for 3 × BI + 600 s, with
BI at 600 s (log entry 52), is a fault. The end of the lighting day puts each lantern's energy in the archive and begins a new total. Rows shown to
complete with their effect (`Completes`): luxOverride, luxRelease, overrideRenewal, overrideExpiry, luxState, energyGet, commsLost, feederState,
faultList, lightingDayEnd. -/
def Obligations.LightingCommands : Prop :=
  ∀ (s : State) (tag : Nat), s.runs 1 = true →
    (Takes s 0x0601 → ∀ kind id level ramp dur,
      (3 < kind ∨ 1000 < level ∨ 600 < ramp ∨ 2592000 < dur → Denied (.luxOverride tag kind id level ramp dur) s 0x0601 tag St.BAD_PARAM) ∧
      (level ≤ 1000 → ramp ≤ 600 → dur ≤ 2592000 →
        (id ∉ lanterns s → Denied (.luxOverride tag 0 id level ramp dur) s 0x0601 tag 0x80) ∧
        (id ∈ lanterns s → 256 ≤ s.lux.ovr.length → Denied (.luxOverride tag 0 id level ramp dur) s 0x0601 tag 0x81) ∧
        (∀ d, QuietLink s → s.lux.ovr = [] → (s.lnt.nodes.map Prod.fst).Nodup → s.node id = some d → d.rcd.sensor = false → d.unreach = true → hushed s id = false →
          Completes (.luxOverride tag 0 id level ramp dur) s fun t =>
            (∃ o, t.lux.ovr = [(nextOvid s, o)] ∧ o.kind = 0 ∧ o.id = id ∧ o.level = level ∧ o.ramp = ramp ∧
              o.stop = if dur = 0 then none else some (s.tb.ns + dur * 1000000000)) ∧
            (∃ n g, t.node id = some n ∧ n.q = [g] ∧ g.src = .override (nextOvid s) ∧ g.op = 0x10 ∧
              g.body = le 2 level ++ le 2 ramp ++ le 2 (if dur = 0 then 3600 else min 3600 dur)) ∧ t.rd Reg.LNT_LUXACT_OVR = 1 ∧
            Answers s t 0x0601 tag 0 s.tai (le 2 (nextOvid s)) ∧
            Only [.lnt, .lux, .cfg, .mbx] [Reg.LNT_LUXACT_OVR, Reg.LNT_LUXACT_FAULTY, Reg.MBX_RSPPI] s t) ∧
        (s.lnt.nodes = [] → s.lux.ovr = [] → s.lnt.used = [] → Completes (.luxOverride tag 3 0 level ramp dur) s fun t =>
          (∃ h, t.lnt.howls = s.lnt.howls ++ [h] ∧ h.origin = 1 ∧ h.scope = 1 ∧ h.op = 0x10 ∧ h.body.take 2 = le 2 level) ∧
          t.lux.ovr.length = 1 ∧ Answers s t 0x0601 tag 0 s.tai (le 2 (nextOvid s)) ∧ Parts [.lnt, .lux, .cfg, .mbx] s t))) ∧
    (Takes s 0x0602 →
      (∀ ovid, ovid ≠ 0xFFFF → s.lux.ovr.has ovid = false → Denied (.luxRelease tag ovid) s 0x0602 tag 0x82) ∧
      (∀ ovid o, s.lux.ovr = [(ovid, o)] → ovid ≠ 0xFFFF → s.lnt.nodes = [] → s.cfg.old03 = none → Completes (.luxRelease tag ovid) s fun t => t.lux.ovr = [] ∧
        t.rd Reg.LNT_LUXACT_OVR = 0 ∧ Answers s t 0x0602 tag 0 s.tai (le 2 1) ∧
        Only [.lux, .mbx] [Reg.LNT_LUXACT_OVR, Reg.LNT_LUXACT_FAULTY, Reg.MBX_RSPPI] s t)) ∧
    (∀ ovid o ln d, QuietLink s → s.lux.ovr = [(ovid, o)] → o.kind = 0 → o.id = ln → (s.lnt.nodes.map Prod.fst).Nodup → s.node ln = some d → d.rcd.sensor = false →
      d.unreach = true → hushed s ln = false →
      (Completes (.overrideRenewal ovid) s fun t => (∃ p, t.lux.ovr = [(ovid, p)] ∧ p.level = o.level ∧ p.stop = o.stop ∧ p.hold = s.tb.ns + holdOf s o * 1000000000) ∧
        (∃ n g, t.node ln = some n ∧ n.q = [g] ∧ g.src = .override ovid ∧ g.body = le 2 o.level ++ le 2 o.ramp ++ le 2 (holdOf s o)) ∧ Only [.lnt, .lux] [] s t) ∧
      (∀ a, o.stop = some a → a ≤ s.tb.ns → Completes (.overrideExpiry ovid) s fun t => t.lux.ovr = [] ∧ t.rd Reg.LNT_LUXACT_OVR = 0 ∧
        (∃ n g, t.node ln = some n ∧ n.q = [g] ∧ g.src = .override ovid ∧ g.body = le 2 0xFFFF ++ le 2 o.ramp ++ le 2 0xFFFF) ∧
        Only [.lnt, .lux] [Reg.LNT_LUXACT_OVR, Reg.LNT_LUXACT_FAULTY] s t)) ∧
    (∀ ln,
      (s.node ln = none → (Takes s 0x0603 → Denied (.luxState tag ln) s 0x0603 tag 0x80) ∧ (Takes s 0x0606 → Denied (.energyGet tag ln) s 0x0606 tag 0x80)) ∧
      ∀ d, s.node ln = some d →
        (Takes s 0x0603 → Completes (.luxState tag ln) s fun t => (∃ pl, Answers s t 0x0603 tag 0 s.tai pl ∧ pl.length = 20 ∧
          pl.take 2 = le 2 (schedLevel s ln s.tb.ns) ∧ (pl.drop 2).take 2 = le 2 (luxSrc s ln d).2 ∧ pl.drop 16 = le 4 d.lux.faults) ∧
          Only [.mbx] [Reg.MBX_RSPPI] s t) ∧
        (Takes s 0x0606 → ∀ b, d.lux.base = some b → Completes (.energyGet tag ln) s fun t => Answers s t 0x0606 tag 0 s.tai
          (le 4 b ++ le 4 b ++ le 4 d.lux.day ++ le 2 d.lux.power ++ zeros 2 ++ le 4 d.lux.burn ++ le 8 d.lux.last) ∧ Only [.mbx] [Reg.MBX_RSPPI] s t) ∧
        ((∀ c, d.contact = some c → c + 2400000000000 ≤ s.tb.ns) → bit d.lux.faults 16 = false → (s.feeder (feederOf s ln)).st = 0 → (s.feeder (feederOf s ln)).lossAt = none → Roomy s → Reportable s →
          Completes (.commsLost ln) s fun t => (∃ n, t.node ln = some n ∧ bit n.lux.faults 16 = true ∧ ∀ i, i ≠ 16 → bit n.lux.faults i = bit d.lux.faults i) ∧
            Logged s t 5 Ev.LAMP_FAULT [ln, 16, 0] ∧ t.rd Reg.LNT_LUXEVT_FLTNEW = 1 ∧ (∃ body, Reported s t 0x0601 1 body) ∧
            Only [.lnt, .recs, .mbx] [Reg.LNT_LUXEVT_FLTNEW, Reg.LNT_LUXACT_OVR, Reg.LNT_LUXACT_FAULTY, Reg.MBX_RPTPI] s t)) ∧
    (Takes s 0x0604 → ∀ f,
      (31 < f → Denied (.feederState tag f) s 0x0604 tag St.BAD_PARAM) ∧
      (f ≤ 31 → (sec05 s).feeders.has f = false → Denied (.feederState tag f) s 0x0604 tag 0x80) ∧
      (f ≤ 31 → (sec05 s).feeders.has f = true → Completes (.feederState tag f) s fun t => (∃ pl, Answers s t 0x0604 tag 0 s.tai pl ∧ pl.length = 32 ∧
        pl.getD 0 0 = BitVec.ofNat 8 (s.feeder f).st ∧ pl.getD 2 0 = BitVec.ofNat 8 (s.feeder f).shot ∧ (pl.drop 4).take 4 = le 4 (feederLns s f).length) ∧
        Only [.mbx] [Reg.MBX_RSPPI] s t)) ∧
    (Takes s 0x0605 → ∀ first count,
      (count = 0 ∨ 33 < count → Denied (.faultList tag first count) s 0x0605 tag St.BAD_PARAM) ∧
      (1 ≤ count → count ≤ 33 → Completes (.faultList tag first count) s fun t => (∃ pl, Answers s t 0x0605 tag 0 s.tai pl ∧
        pl.length = 3 + 7 * min count (s.lnt.nodes.filter fun p => first ≤ p.1 && p.2.lux.faults != 0).length) ∧ Only [.mbx] [Reg.MBX_RSPPI] s t)) ∧
    ∀ day, QuietLink s → 10 ∉ s.cfg.due → (∀ ln, luxNode s ln = none) →
      ((∀ p ∈ s.lnt.nodes, p.2.lux.base = none) → Completes (.lightingDayEnd day) s fun t => Only [] [] s t) ∧
      (∀ ln d b, s.lnt.nodes = [(ln, d)] → d.rcd.sensor = false → d.lux.base = some b → s.fuses.arch = true → s.cfg.secs.s0c.isSome = true →
        Completes (.lightingDayEnd day) s fun t => t.arc.staged = s.arc.staged ++ [⟨2, 0, 0, s.tb.ns, [], luxRec s.tb.ns ln d.lux.day d.lux.burn d.lux.power⟩] ∧
          t.lnt.nodes = [(ln, { d with lux := { d.lux with day := 0 } })] ∧ Only [.arc, .lnt] [] s t)

/-- A notice or a forecast newer than the last acted on is taken, an older one is not. Open: LOST, with its record. Closed after LOST: PICKUP, its
lanterns waiting. A forecast in LOST: RECLOSE_PENDING with its shot and close time. When a kennel dropped a notice the lead posts one for each feeder
again, and its complete states take over; with no lead there is no reply. In PICKUP a batch is due: with none waiting PICKUP ends in GRACE; else the
next is released, of as many as the headroom allows, in suite L once both halves have produced it. At the end of GRACE the feeder is SUPPLIED. A
summary of undervoltage is reported and begun anew. APP comes back on the sections of the running image, its runtime edits discarded, a closed feeder
that was not SUPPLIED in GRACE. Rows shown to complete with their effect (`Completes`): feederNoticeReceived, recloseForecastReceived,
kennelDropDetected, graceExpiry, batchRelease, uvSummary, appDomainReturn. -/
def Obligations.FeederSupplyAndAppReturn : Prop :=
  ∀ s : State,
    (s.runs 1 = true → QuietLink s → Roomy s → (s.knl 64).pkts = [] → (s.knl 65).pkts = [] → ∀ n : FeederNotice,
      (n.seq ≤ s.lux.nseq → (Completes (.feederNoticeReceived n) s fun t => Only [] [] s t) ∧ Completes (.recloseForecastReceived n) s fun t => Only [] [] s t) ∧
      (s.lux.nseq < n.seq → n.feeder < 32 →
        (n.state = 0 → (s.feeder n.feeder).st ≠ 1 → Completes (.feederNoticeReceived n) s fun t => (t.feeder n.feeder).st = 1 ∧
          (t.feeder n.feeder).lossAt = some n.t ∧ (t.feeder n.feeder).waiting = [] ∧ t.lux.nseq = n.seq ∧ t.rd Reg.LNT_LUXEVT_SUPLOST = 1 ∧
          Logged s t 5 Ev.SUPPLY_LOST [n.feeder, (feederLns s n.feeder).length] ∧ (∀ m, m ≠ n.feeder → t.feeder m = s.feeder m) ∧
          t.mbx.rseq = (s.mbx.rseq + 1) % 2 ^ 32 ∧ Parts [.lnt, .lux, .mbx, .recs] s t) ∧
        (∀ ln l, n.state = 1 → (s.feeder n.feeder).st = 1 → releaseOrder s n.feeder = ln :: l → Completes (.feederNoticeReceived n) s fun t =>
          (t.feeder n.feeder).st = 3 ∧ (t.feeder n.feeder).waiting = ln :: l ∧ (t.feeder n.feeder).batches = 0 ∧ (t.feeder n.feeder).closeAt = n.t ∧
          (t.feeder n.feeder).pickAt = s.tb.ns ∧ t.lux.nseq = n.seq ∧ Parts [.lux, .mbx] s t) ∧
        ((s.feeder n.feeder).st = 1 → Completes (.recloseForecastReceived n) s fun t => (t.feeder n.feeder).st = 2 ∧ (t.feeder n.feeder).shot = n.shot ∧
          (t.feeder n.feeder).closeAt = n.close ∧ t.lux.nseq = n.seq ∧ t.mbx.rseq = (s.mbx.rseq + 1) % 2 ^ 32 ∧ Parts [.lux, .mbx] s t))) ∧
    (s.runs 1 = true → QuietLink s → ∀ k, k = 64 ∨ k = 65 →
      (∀ h f, f < 32 → s.rd (Reg.KNL_STAT_DROPCNT k) ≠ s.lux.drops.getD k 0 → s.lead = some h → leadFeeders s = [(f, 0)] → (s.feeder f).st ≠ 1 →
        Completes (.kennelDropDetected k) s fun t => (t.feeder f).st = 1 ∧ t.lux.drops.get? k = some (s.rd (Reg.KNL_STAT_DROPCNT k)) ∧
          (t.hf h).nseq = up32 (s.hf h).nseq 1 ∧ t.lux.nseq = leadSeq t ∧ (t.knl (64 + h)).pkts = [] ∧ Parts [.lnt, .lux, .mbx, .recs, .half, .kn] s t) ∧
      (s.lead = none → Completes (.kennelDropDetected k) s fun t => Only [] [] s t)) ∧
    (s.runs 1 = true → ∀ f,
      (QuietLink s → (s.feeder f).st = 4 → (s.feeder f).graceAt + (sec05 s).supGrace * 1000000000 ≤ s.tb.ns → (∀ p ∈ s.lnt.nodes, p.2.lux.suppr = false) → Completes (.graceExpiry f) s fun t => (t.feeder f).st = 0 ∧
        (t.feeder f).left = [] ∧ t.mbx.rseq = (s.mbx.rseq + 1) % 2 ^ 32 ∧ Parts [.lux, .mbx] s t) ∧
      (∀ now, QuietLink s → (s.feeder f).st = 3 → (s.feeder f).batch = [] → (s.feeder f).batches = 0 → (s.feeder f).pickAt + (feederCfg s f).start * 1000000 ≤ now →
        ((s.feeder f).waiting = [] → Completes (.batchRelease f now) s fun t => (t.feeder f).st = 4 ∧ Parts [.lux, .mbx] s t) ∧
        (∀ ln d, (s.feeder f).waiting = [ln] → (s.feeder f).tries = [] → now ≤ (s.feeder f).pickAt + (feederCfg s f).start * 1000000 + 80000000000 → s.node ln = some d →
          d.unreach = true → topOverride s ln = none → (s.fuses.suiteP = true → min (s.rd Reg.RAD_TXLIM_RSVACK) (maxCar s / 2) < maxCar s) →
          (s.fuses.suiteP = false → s.lux.agreed.get? f = some [ln]) → Completes (.batchRelease f now) s fun t =>
            (t.feeder f).batch = [ln] ∧ (t.feeder f).waiting = [] ∧ (t.feeder f).batches = 1 ∧ (t.feeder f).tries.get? ln = some 1 ∧
            (∃ m g, t.node ln = some m ∧ m.q = [g] ∧ g.src = .release f ∧ g.op = 0x10 ∧ g.body = le 2 0xFFFF ++ le 2 20 ++ le 2 0) ∧ Parts [.lux, .lnt] s t) ∧
        (∀ ln, (s.feeder f).waiting = [ln] → (s.feeder f).tries = [] → now ≤ (s.feeder f).pickAt + (feederCfg s f).start * 1000000 + 80000000000 →
          s.fuses.suiteP = false → s.lux.agreed.get? f = none → Completes (.batchRelease f now) s fun t =>
            (∀ g, t.feeder g = s.feeder g) ∧ Parts [.lux] s t)) ∧
      ∀ y, (s.feeder f).uv = some y → y.start + 30000000000 ≤ s.tb.ns → Reportable s → Completes (.uvSummary f) s fun t => (t.feeder f).uv = none ∧
        Reported s t 0x0604 1 (le 3 0xFFFFFF ++ le 1 (if f < 32 then f else 0xFF) ++ le 8 s.tb.ns ++ (le 4 y.n ++ le 4 y.lost ++ le 2 y.vmin ++ le 3 y.vln ++ zeros 1 ++
          le 8 y.first ++ le 8 y.last)) ∧ Parts [.lux, .mbx] s t) ∧
    ∀ i, mayRun s = true → s.dom 1 = 1 → s.cfg.image = some i → s.cfg.apply = none → Completes .appDomainReturn s fun t =>
      t.dom 1 = 2 ∧ t.cfg.secs.s04 = (runSecs s i).s04 ∧ t.cfg.secs.s05 = (runSecs s i).s05 ∧ t.cfg.secs.s0b = (runSecs s i).s0b ∧
      t.cfg.secs.s0c = (runSecs s i).s0c ∧ t.cfg.secs.s0e = (runSecs s i).s0e ∧ t.cfg.secs.s08 = s.cfg.secs.s08 ∧
      t.cfg.discard = (s.cfg.edited.filter fun n => n = 4 || n = 5).length ∧ t.cfg.edited = s.cfg.edited.filter (fun n => !(n = 4 || n = 5)) ∧
      (∀ f, leadFeeders s = [(f, 1)] → f < 32 → (s.feeder f).st ≠ 0 → (t.feeder f).st = 4)

/-- With no redundancy box: a frame with a bad FCS, or on a port that is off, is not seen; one whose VLAN its port is not in is counted; a known unicast
address leaves by its port, a broadcast by every other enabled member, each with the priority's queue; a new source is learned in a free place, a
moved one at its new port and counted, a static one at another port is a violation, a full bucket is counted. A frame to the routing address goes to
its next hop with one hop less. The second copy of a pair a box has seen goes nowhere, and a partner frame takes no part. An entry that fails parity
goes, and comes back from its shadow copy. A link that comes or goes is recorded; with it go the port's learned entries, at once by their generation.
A sweep ends with its entries gone and its command answered; a command on the port waits for the one that runs. An entry too old goes. TX_DIS follows
the cage and the port. Rows shown to complete with their effect (`Completes`): switchFrameReceived, linkUp, linkDown, modAbsChange, flushSweepDone,
macEntryAgeOut, parityRestore. -/
def Obligations.SwitchingAndLinks : Prop :=
  ∀ s : State, s.runs 5 = true →
    (∀ f : SwFrame, f.fcsOk = false ∨ (f.port < 6 ∧ (portCfg s f.port).en = false) ∨ partnerFrame f = true → Completes (.switchFrameReceived f []) s fun t => Only [] [] s t) ∧
    ((sec06 s).boxes = [] → ∀ f : SwFrame, f.fcsOk = true → f.port < 6 → (portCfg s f.port).en = true →
      (vlanRefuses s f = true →
        (Completes (.switchFrameReceived f []) s fun t => Counted s t Reg.FWD_CNT0_VLANDROP ∧ t.fwd = { s.fwd with egress := [] } ∧
          Only [.fwd] [Reg.FWD_CNT0_VLANDROP] s t) ∧
        ∀ idx, s.fwd.mac.has idx = true → s.fwd.parAt = [] → Roomy s → Completes (.switchFrameReceived f [(0, idx)]) s fun t => t.fwd.mac.get? idx = none ∧
          (∀ j, j ≠ idx → t.fwd.mac.get? j = s.fwd.mac.get? j) ∧ Counted s t Reg.FWD_PARCNT_MACT ∧ t.rd Reg.FWD_EVT_PARERR = 1 ∧
          Logged s t 0 Ev.FWD_PARITY [0, idx] ∧ Only [.fwd, .recs] [Reg.FWD_PARCNT_MACT, Reg.FWD_EVT_PARERR, Reg.FWD_CNT0_VLANDROP] s t) ∧
      (∀ v p, f.tag = some (v, p) → v ≠ 0 → vlanRefuses s f = false →
        ((portCfg s f.port).learn = false → f.dst ≠ (sec06 s).rmac → isGroup f.dst = false →
          (∀ c e, macFind s v f.dst = some (c, e) → e.port < 6 → e.port ≠ f.port → bit (vlan s v).member e.port = true → (portCfg s e.port).en = true →
            Completes (.switchFrameReceived f []) s fun t => t.fwd = { s.fwd with egress :=
              [⟨e.port, p % 8, if bit (vlan s v).untagged e.port then none else some (v, p), f.src, f.dst, f.hop, none⟩] } ∧ Only [.fwd] [] s t)) ∧
        (f.dst = 0xFFFFFFFFFFFF → f.dst ≠ (sec06 s).rmac →
          (Completes (.switchFrameReceived f []) s fun t => (∀ q, (∃ e ∈ t.fwd.egress, e.port = q) ↔ q < 7 ∧ bit (vlan s v).member q = true ∧ q ≠ f.port ∧
              (q < 6 → (portCfg s q).en = true)) ∧ (∀ e ∈ t.fwd.egress, e.queue = p % 8 ∧ e.src = f.src ∧ e.dst = f.dst ∧ e.rct = none)) ∧
          ((portCfg s f.port).learn = true → isGroup f.src = false →
            (∀ c, macFind s v f.src = none → macFree s (macWays v f.src) = some c → Completes (.switchFrameReceived f []) s fun t =>
              t.fwd.mac.get? c = some ⟨v, f.src, f.port, false, portGen s f.port, s.tb.ns⟩ ∧ (∀ j, j ≠ c → t.fwd.mac.get? j = s.fwd.mac.get? j) ∧ Only [.fwd] [] s t) ∧
            (macFind s v f.src = none → macFree s (macWays v f.src) = none → Completes (.switchFrameReceived f []) s fun t =>
              Counted s t Reg.FWD_CNT0_LEARNFULL ∧ t.fwd.mac = s.fwd.mac ∧ Only [.fwd] [Reg.FWD_CNT0_LEARNFULL] s t) ∧
            (∀ c e, macFind s v f.src = some (c, e) → e.port ≠ f.port →
              (e.fixed = false → Completes (.switchFrameReceived f []) s fun t => t.fwd.mac.get? c = some ⟨v, f.src, f.port, false, portGen s f.port, s.tb.ns⟩ ∧
                Counted s t Reg.FWD_CNT1_MOVES ∧ Only [.fwd] [Reg.FWD_CNT1_MOVES] s t) ∧
              (e.fixed = true → Completes (.switchFrameReceived f []) s fun t => t.fwd.mac = s.fwd.mac ∧ Counted s t Reg.FWD_CNT1_STATVIOL ∧
                Only [.fwd] [Reg.FWD_CNT1_STATVIOL] s t)))) ∧
        (∀ c x n, (portCfg s f.port).learn = false → f.dst = (sec06 s).rmac → (sec06 s).rmac ≠ 0 → f.etype = 0x86DD → v ∈ (sec06 s).routed → 1 < f.hop →
          lpm s [] f.dip (lensDown s) = some (c, x) → x.nh ≠ 0 → s.fwd.nh.get? x.nh = some n → n.port < 6 →
          bit (vlan s n.vid).member n.port = true → (portCfg s n.port).en = true →
          Completes (.switchFrameReceived f []) s fun t => t.fwd = { s.fwd with egress :=
            [⟨n.port, p % 8, if bit (vlan s n.vid).untagged n.port then none else some (n.vid, p), (sec06 s).rmac, n.mac, f.hop - 1, none⟩] } ∧ Only [.fwd] [] s t))) ∧
    (∀ (f : SwFrame) b c q a, f.fcsOk = true → partnerFrame f = false → (portCfg s f.port).en = true → boxOf s f.port = some (b, c) → f.fromUs = false → f.seq = some q →
      (f.src, q, a) ∈ s.fwd.dup.getD b [] → s.tb.ns < a + c.ddlife * 1000000 → Completes (.switchFrameReceived f []) s fun t =>
        t.fwd = { s.fwd with egress := [] } ∧ Only [.fwd] [] s t) ∧
    (∀ p, p < 6 →
      (Roomy s → (portCfg s p).en = true → s.rd (Reg.FWD_PORTSTAT_LINK p) = 0 → Completes (.linkUp p) s fun t => t.rd (Reg.FWD_PORTSTAT_LINK p) = 1 ∧
        t.rd (Reg.FWD_PORTSTAT_PCSOK p) = 1 ∧ t.rd (Reg.FWD_PORTSTAT_RXLOS p) = 0 ∧ t.rd Reg.FWD_EVT_LINKCHG = 1 ∧ Logged s t 7 Ev.LINK_UP [p] ∧
        Only [.recs] [Reg.FWD_PORTSTAT_LINK p, Reg.FWD_PORTSTAT_PCSOK p, Reg.FWD_PORTSTAT_RXLOS p, Reg.FWD_EVT_LINKCHG] s t) ∧
      (∀ pcs los, pcs = false ∨ los = true → Roomy s → s.rd (Reg.FWD_PORTSTAT_LINK p) = 1 → s.fwd.sweeps.has p = false → portGen s p < 16 →
        Completes (.linkDown p pcs los) s fun t =>
        t.rd (Reg.FWD_PORTSTAT_LINK p) = 0 ∧ t.rd (Reg.FWD_PORTSTAT_PCSOK p) = b2n pcs ∧ t.rd (Reg.FWD_PORTSTAT_RXLOS p) = b2n los ∧ t.rd Reg.FWD_EVT_LINKCHG = 1 ∧ Logged s t 7 Ev.LINK_DOWN [p] ∧
        (∀ e : MacE, e.fixed = false → e.port = p → macLive s e = true → macLive t e = false) ∧
        (∀ e : MacE, e.fixed = true ∨ e.port ≠ p → macLive t e = macLive s e) ∧ t.fwd.sweeps.has p = true ∧
        Only [.fwd, .recs] [Reg.FWD_PORTSTAT_LINK p, Reg.FWD_PORTSTAT_PCSOK p, Reg.FWD_PORTSTAT_RXLOS p, Reg.FWD_EVT_LINKCHG] s t) ∧
      (∀ absent, Completes (.modAbsChange p absent) s fun t => t.rd (Reg.FWD_PORTSTAT_MODABS p) = b2n absent ∧
        bit t.fwd.txDis p = !((portCfg s p).en && !absent) ∧ (∀ q, q ≠ p → bit t.fwd.txDis q = bit s.fwd.txDis q) ∧
        Only [.fwd] [Reg.FWD_PORTSTAT_MODABS p] s t) ∧
      ∀ w, s.fwd.sweeps.get? p = some w → s.fwd.waiting = [] →
        (w.tag = none → Completes (.flushSweepDone p) s fun t => (∀ c ∈ w.todo, t.fwd.mac.get? c = none) ∧ (∀ c, c ∉ w.todo → t.fwd.mac.get? c = s.fwd.mac.get? c) ∧
          t.fwd.sweeps.get? p = none ∧ Only [.fwd] [] s t) ∧
        (∀ tag, w.tag = some tag → (0x0705, tag) ∈ s.mbx.prog → Completes (.flushSweepDone p) s fun t => (∀ c ∈ w.todo, t.fwd.mac.get? c = none) ∧
          t.fwd.sweeps.get? p = none ∧ Answers s t 0x0705 tag 0 s.tai (le 4 (w.todo.filter fun c => s.fwd.mac.has c).length) ∧
          Only [.fwd, .mbx] [Reg.MBX_RSPPI] s t)) ∧
    (∀ c e, s.fwd.mac.get? c = some e → e.fixed = false → e.at_ + s.rd Reg.FWD_AGE_AGE * 1000000000 ≤ s.tb.ns → Completes (.macEntryAgeOut c) s fun t =>
      t.fwd.mac.get? c = none ∧ (∀ j, j ≠ c → t.fwd.mac.get? j = s.fwd.mac.get? j) ∧ Only [.fwd] [] s t) ∧
    ∀ i,
      (∀ e, s.fwd.shMac.get? i = some e → Completes (.parityRestore 0 i) s fun t => t.fwd = { s.fwd with mac := s.fwd.mac.set i e } ∧ Only [.fwd] [] s t) ∧
      (∀ e, s.fwd.shMc.get? i = some e → Completes (.parityRestore 1 i) s fun t => t.fwd = { s.fwd with mc := s.fwd.mc.set i e } ∧ Only [.fwd] [] s t) ∧
      (∀ e, s.fwd.shPfx.get? i = some e → Completes (.parityRestore 2 i) s fun t => t.fwd = { s.fwd with pfx := s.fwd.pfx.set i e } ∧ Only [.fwd] [] s t) ∧
      (∀ e, s.fwd.shNh.get? i = some e → Completes (.parityRestore 3 i) s fun t => t.fwd = { s.fwd with nh := s.fwd.nh.set i e } ∧ Only [.fwd] [] s t)

/-- An entry that can be added is what a lookup of its key finds, with a shadow copy, and is a counted edit of section 0x06; a static one is in the place
of a learned one where the bucket is full, and 0x81 where that is full of static ones; a prefix of a 33rd length is 0x82. A deleted entry's place is
empty; what is not there is 0x80, a next hop that a prefix uses 0x83. FWD_SEARCH gives the entry or 0x80, FWD_NEXT at most what its table allows.
FWD_FLUSH starts its sweep and is answered at its end. The roster's table is not written: 0x84. Anything else is BAD_PARAM. Rows shown to complete
with their effect (`Completes`): fwdAdd, fwdDel, fwdSearch, fwdNext, fwdFlush. -/
def Obligations.ForwardingTableCommands : Prop :=
  ∀ (s : State) (tag : Nat),
    (Takes s 0x0703 →
      (∀ e, Denied (.fwdAdd tag 4 e) s 0x0703 tag 0x84) ∧
      (∀ table e, table < 4 → entTable e ≠ table ∨ entOk e = false → Denied (.fwdAdd tag table e) s 0x0703 tag St.BAD_PARAM) ∧
      (∀ vid mac port, entOk (.mac vid mac port) = true →
        ((macFind s vid mac).isSome = true ∨ (macFree s (macWays vid mac)).isSome = true ∨ (oldestLearned s (macWays vid mac)).isSome = true →
          Completes (.fwdAdd tag 0 (.mac vid mac port)) s fun t => (∃ c e, macFind t vid mac = some (c, e) ∧ e.port = port ∧ e.fixed = true ∧
            t.fwd.shMac.get? c = some e) ∧ t.cfg.edited = s.cfg.edited ++ [6] ∧ Answers s t 0x0703 tag 0 s.tai [] ∧
            Only [.fwd, .cfg, .mbx] [Reg.MBX_RSPPI] s t) ∧
        (macFind s vid mac = none → macFree s (macWays vid mac) = none → oldestLearned s (macWays vid mac) = none →
          Denied (.fwdAdd tag 0 (.mac vid mac port)) s 0x0703 tag 0x81)) ∧
      (∀ vid mac pmask, entOk (.mc vid mac pmask) = true → (∃ c ∈ mcWays vid mac, s.fwd.mc.has c = false) →
        Completes (.fwdAdd tag 1 (.mc vid mac pmask)) s fun t => (∃ c, mcFind t vid mac = some (c, ⟨vid, mac, pmask⟩)) ∧ t.cfg.edited = s.cfg.edited ++ [6] ∧
          Answers s t 0x0703 tag 0 s.tai [] ∧ Only [.fwd, .cfg, .mbx] [Reg.MBX_RSPPI] s t) ∧
      (∀ pre len nh, entOk (.pfx pre len nh) = true →
        (s.fwd.lens.has len = true → (∃ c ∈ pfxWays len pre, s.fwd.pfx.has c = false) → Completes (.fwdAdd tag 2 (.pfx pre len nh)) s fun t =>
          (∃ c, pfxFind t len pre = some (c, ⟨pre, len, nh⟩)) ∧ Answers s t 0x0703 tag 0 s.tai [] ∧ Only [.fwd, .cfg, .mbx] [Reg.MBX_RSPPI] s t) ∧
        (pfxFind s len pre = none → s.fwd.lens.has len = false → 32 ≤ s.fwd.lens.length → Denied (.fwdAdd tag 2 (.pfx pre len nh)) s 0x0703 tag 0x82)) ∧
      (∀ idx vid port mac, entOk (.nh idx vid port mac) = true → Completes (.fwdAdd tag 3 (.nh idx vid port mac)) s fun t =>
        t.fwd.nh.get? idx = some ⟨vid, port, mac⟩ ∧ t.fwd.shNh.get? idx = some ⟨vid, port, mac⟩ ∧ Answers s t 0x0703 tag 0 s.tai [] ∧
        Only [.fwd, .cfg, .mbx] [Reg.MBX_RSPPI] s t)) ∧
    (Takes s 0x0704 →
      (∀ e, Denied (.fwdDel tag 4 e) s 0x0704 tag 0x84) ∧
      (∀ table e, table < 4 → entTable e ≠ table → Denied (.fwdDel tag table e) s 0x0704 tag St.BAD_PARAM) ∧
      (∀ vid mac port,
        (macFind s vid mac = none → Denied (.fwdDel tag 0 (.mac vid mac port)) s 0x0704 tag 0x80) ∧
        ∀ c e, macFind s vid mac = some (c, e) → Completes (.fwdDel tag 0 (.mac vid mac port)) s fun t => t.fwd.mac.get? c = none ∧ t.fwd.shMac.get? c = none ∧
          (∀ j, j ≠ c → t.fwd.mac.get? j = s.fwd.mac.get? j) ∧ t.cfg.edited = s.cfg.edited ++ [6] ∧ Answers s t 0x0704 tag 0 s.tai [] ∧
          Only [.fwd, .cfg, .mbx] [Reg.MBX_RSPPI] s t) ∧
      ∀ idx vid port mac,
        (s.fwd.nh.has idx = false → Denied (.fwdDel tag 3 (.nh idx vid port mac)) s 0x0704 tag 0x80) ∧
        (∀ p, s.fwd.nh.has idx = true → p ∈ s.fwd.pfx → p.2.nh = idx → Denied (.fwdDel tag 3 (.nh idx vid port mac)) s 0x0704 tag 0x83)) ∧
    (Takes s 0x0701 → ∀ table e,
      (4 < table ∨ entTable e ≠ table → Denied (.fwdSearch tag table e) s 0x0701 tag St.BAD_PARAM) ∧
      (table ≤ 4 → entTable e = table →
        (searchEnt s e = none → Denied (.fwdSearch tag table e) s 0x0701 tag 0x80) ∧
        ∀ b, searchEnt s e = some b → Completes (.fwdSearch tag table e) s fun t => Answers s t 0x0701 tag 0 s.tai b ∧ Only [.mbx] [Reg.MBX_RSPPI] s t)) ∧
    (Takes s 0x0702 → ∀ table cursor mx,
      (4 < table ∨ mx = 0 ∨ nextLimit table < mx → Denied (.fwdNext tag table cursor mx) s 0x0702 tag St.BAD_PARAM) ∧
      (table ≤ 4 → 1 ≤ mx → mx ≤ nextLimit table → cursor < 2 ^ 32 → Completes (.fwdNext tag table cursor mx) s fun t => (∃ pl, Answers s t 0x0702 tag 0 s.tai pl ∧
        pl.getD 4 0 = BitVec.ofNat 8 (min mx ((tableRows s table).filter fun r => cursor ≤ r.1).length) ∧
        pl.drop 8 = (((tableRows s table).filter fun r => cursor ≤ r.1).take mx).flatMap (·.2) ∧
        (((tableRows s table).filter fun r => cursor ≤ r.1).length < mx → pl.take 4 = le 4 0xFFFFFFFF)) ∧ Only [.mbx] [Reg.MBX_RSPPI] s t)) ∧
    (Takes s 0x0705 → ∀ port vid,
      (5 < port ∨ 4094 < vid → Denied (.fwdFlush tag port vid) s 0x0705 tag St.BAD_PARAM) ∧
      (port ≤ 5 → vid ≤ 4094 →
        (s.fwd.sweeps.has port = false → Completes (.fwdFlush tag port vid) s fun t => t.mbx.prog = s.mbx.prog ++ [(0x0705, tag)] ∧ t.fwd.mac = s.fwd.mac ∧
          (∃ w, t.fwd.sweeps.get? port = some w ∧ w.vid = vid ∧ w.tag = some tag ∧ ∀ p ∈ s.fwd.mac, p.2.fixed = false → p.2.port = port →
            vid = 0 ∨ p.2.vid = vid → macLive s p.2 = true → p.1 ∈ w.todo) ∧ Only [.fwd, .mbx] [] s t) ∧
        (s.fwd.sweeps.has port = true → Completes (.fwdFlush tag port vid) s fun t => t.fwd = { s.fwd with waiting := s.fwd.waiting ++ [(port, vid, some tag)] } ∧
          t.mbx.prog = s.mbx.prog ++ [(0x0705, tag)] ∧ Only [.fwd, .mbx] [] s t)))

/-- A sample of a matched stream: the first is delivered; the next in step is, with what is missing counted; the last one again, or an older one that has
received CHECKED in the last half second, is a duplicate; any other older one, one of another ConfRev, or a count beyond the rate is rejected. With
one bad copy of the match table the sample is taken and the failure counted, with two it is not seen. CHECKED: the stream is active; any other verdict
counts and takes the delivery back. 10 ms without a verdict lose the stream, recorded. A GOOSE message that is new is accepted with its booleans,
unless its tag is wrong; a duplicate, a rejected and a stale one are counted. Silence beyond its time is recorded. SUB_STATUS gives the counts. Rows
shown to complete with their effect (`Completes`): svAsduReceived, svFrameEnd, svStreamLost, gooseLost, gooseFrameReceived, subStatus. -/
def Obligations.SubscriptionsAndGoose : Prop :=
  ∀ s : State,
    (s.runs 5 = true → s.runs 2 = false → s.runs 3 = false → ∀ (a : SvAsdu) i sub,
      (sec07 s).sv.find? (fun p => p.2.dmac = a.dmac && p.2.appid = a.appid && p.2.vid = a.vid && inPorts s p.2.ports a.port && p.2.svid = a.svid) = some (i, sub) →
      (a.confrev ≠ sub.confrev ∨ sub.rate ≤ a.smp ∨ (a.trailer = true ∧ 496 < a.len) → Completes (.svAsduReceived a 0) s fun t =>
        svRun t i = { svRun s i with nRej := ((svRun s i).nRej + 1) % 2 ^ 32 } ∧ Only [.fwd] [] s t) ∧
      (a.confrev = sub.confrev → a.smp < sub.rate → a.trailer = false → (∀ w ∈ (svRun s i).wait, w.smp ≠ a.smp) →
        ((svRun s i).last = none → Completes (.svAsduReceived a 0) s fun t => (svRun t i).last = some a.smp ∧ (svRun t i).deliv = ((svRun s i).deliv + 1) % 65536 ∧
          (svRun t i).nDeliv = ((svRun s i).nDeliv + 1) % 2 ^ 32 ∧ (∃ c, (svRun t i).wait = (svRun s i).wait ++ [c] ∧ c.frame = a.frame ∧ c.smp = a.smp ∧
            c.stamp = a.stamp ∧ c.held = none) ∧ (∀ j, j ≠ i → svRun t j = svRun s j) ∧ Only [.fwd] [] s t) ∧
        (∀ l d, (svRun s i).last = some l → l < sub.rate → d = (a.smp + sub.rate - l) % sub.rate →
          (d = 0 → Completes (.svAsduReceived a 0) s fun t => svRun t i = { svRun s i with nDup := ((svRun s i).nDup + 1) % 2 ^ 32 } ∧ Only [.fwd] [] s t) ∧
          (0 < d → d ≤ sub.rate / 2 → Completes (.svAsduReceived a 0) s fun t => (svRun t i).last = some a.smp ∧ (svRun t i).nDeliv = ((svRun s i).nDeliv + 1) % 2 ^ 32 ∧
            (svRun t i).nMiss = ((svRun s i).nMiss + (d - 1)) % 2 ^ 32 ∧ Only [.fwd] [] s t) ∧
          (sub.rate / 2 < d → a.smp ∈ (svRun s i).done → Completes (.svAsduReceived a 0) s fun t => svRun t i = { svRun s i with nDup := ((svRun s i).nDup + 1) % 2 ^ 32 } ∧ Only [.fwd] [] s t) ∧
          (sub.rate / 2 < d → a.smp ∉ (svRun s i).done → Completes (.svAsduReceived a 0) s fun t => svRun t i = { svRun s i with nRej := ((svRun s i).nRej + 1) % 2 ^ 32 } ∧ Only [.fwd] [] s t))) ∧
      (a.confrev ≠ sub.confrev → s.fwd.parAt = [] → Roomy s →
        (Completes (.svAsduReceived a 1) s fun t => Counted s t Reg.FWD_PARCNT_SUB ∧ (svRun t i).nRej = ((svRun s i).nRej + 1) % 2 ^ 32 ∧
          Logged s t 0 Ev.FWD_PARITY [6, 0]) ∧
        (Completes (.svAsduReceived a 2) s fun t => svRun t i = svRun s i ∧ t.rd Reg.FWD_EVT_PARERR = 1))) ∧
    (s.runs 5 = true → s.runs 2 = false → s.runs 3 = false → ∀ i sub c (bytes : List Byte), i < 128 → (sec07 s).sv = [(i, sub)] → sub.auth = none →
      (svRun s i).wait = [c] → c.held = none → s.fwd.svOld = [] → Roomy s →
      (Completes (.svFrameEnd c.frame 0 bytes) s fun t => (svRun t i).wait = [] ∧ (svRun t i).nChk = ((svRun s i).nChk + 1) % 2 ^ 32 ∧ (svRun t i).lost = false ∧
        (svRun t i).since = s.tb.ns ∧ (svRun t i).lastT = c.stamp ∧ (svRun t i).done = (c.smp :: (svRun s i).done).take (sub.rate / 2) ∧ bit (t.rd (Reg.FWD_SVACT_ACT (i / 32))) (i % 32) = true ∧
        ((svRun s i).lost = true → Logged s t 1 Ev.SV_STREAM_BACK [i]) ∧ Only [.fwd, .recs] [Reg.FWD_SVACT_ACT (i / 32)] s t) ∧
      (∀ r, 1 ≤ r → r ≤ 3 → Completes (.svFrameEnd c.frame r bytes) s fun t => svRun t i = { svRun s i with wait := [], nFail := ((svRun s i).nFail + 1) % 2 ^ 32, last := if (svRun s i).last = some c.smp then c.prev else (svRun s i).last } ∧ Only [.fwd] [] s t)) ∧
    (s.runs 5 = true → Roomy s → ∀ i,
      (i < 128 → (sec07 s).sv.has i = true → (svRun s i).lost = false → (svRun s i).since + 10000000 ≤ s.tb.ns → Completes (.svStreamLost i) s fun t =>
        svRun t i = { svRun s i with lost := true, last := none } ∧ bit (t.rd (Reg.FWD_SVACT_ACT (i / 32))) (i % 32) = false ∧ t.rd Reg.FWD_EVT_SVLOST = 1 ∧
        Logged s t 1 Ev.SV_STREAM_LOST [i] ∧ Only [.fwd, .recs] [Reg.FWD_SVACT_ACT (i / 32), Reg.FWD_EVT_SVLOST] s t) ∧
      (i < 256 → s.runs 2 = false → s.runs 3 = false → (s.knl 47).pkts = [] → (s.knl 63).pkts = [] → (sec07 s).goose.has i = true → (goRun s i).lost = false → ∀ x, (goRun s i).last = some x →
        (goRun s i).since + (goRun s i).ttl * 1000000 ≤ s.tb.ns → Completes (.gooseLost i) s fun t =>
          goRun t i = { goRun s i with lost := true, nLoss := ((goRun s i).nLoss + 1) % 2 ^ 32 } ∧ bit (t.rd (Reg.FWD_GOACT_ACT (i / 32))) (i % 32) = false ∧
          t.rd Reg.FWD_EVT_GOLOST = 1 ∧ Logged s t 1 Ev.GOOSE_LOST [i] ∧ Only [.fwd, .recs] [Reg.FWD_GOACT_ACT (i / 32), Reg.FWD_EVT_GOLOST] s t)) ∧
    (s.runs 5 = true → s.runs 2 = false → s.runs 3 = false → (s.knl 47).pkts = [] → (s.knl 63).pkts = [] → ∀ (m : GoMsg) i sub, i < 256 → m.fcsOk = true →
      (sec07 s).goose.find? (fun p => p.2.dmac = m.dmac && p.2.appid = m.appid && p.2.vid = m.vid && inPorts s p.2.ports m.port && p.2.gocb = m.gocb) = some (i, sub) →
      (m.seen = true → Completes (.gooseFrameReceived m 0) s fun t => goRun t i = { goRun s i with nDup := ((goRun s i).nDup + 1) % 2 ^ 32 } ∧ Only [.fwd] [] s t) ∧
      (m.seen = false → m.confrev ≠ sub.confrev ∨ 488 < m.len ∨ (m.sim = true ∧ sub.test = false) → Completes (.gooseFrameReceived m 0) s fun t =>
        goRun t i = { goRun s i with nRej := ((goRun s i).nRej + 1) % 2 ^ 32 } ∧ Only [.fwd] [] s t) ∧
      (m.seen = false → m.confrev = sub.confrev → m.len ≤ 488 → m.sim = false →
        (∀ st sq, (goRun s i).last = some (st, sq) → m.stnum = st → m.sqnum ≤ sq → Completes (.gooseFrameReceived m 0) s fun t =>
          goRun t i = { goRun s i with nDisc := ((goRun s i).nDisc + 1) % 2 ^ 32 } ∧ Only [.fwd] [] s t) ∧
        (sub.auth = none → (∀ st sq, (goRun s i).last = some (st, sq) → m.stnum ≠ st ∨ sq < m.sqnum) → Completes (.gooseFrameReceived m 0) s fun t =>
          (goRun t i).last = some (m.stnum, m.sqnum) ∧ (goRun t i).vals = m.vals ∧ (goRun t i).lost = false ∧ (goRun t i).ttl = m.ttl ∧
          (goRun t i).since = s.tb.ns ∧ (goRun t i).nDeliv = ((goRun s i).nDeliv + 1) % 2 ^ 32 ∧ bit (t.rd (Reg.FWD_GOACT_ACT (i / 32))) (i % 32) = true ∧
          (∀ j, j ≠ i → goRun t j = goRun s j) ∧ Only [.fwd] [Reg.FWD_GOACT_ACT (i / 32)] s t) ∧
        (∀ k cont, sub.auth = some (k, cont) → keyServes s 2 k 3 .verify = true → m.macOk = false → (∀ e, s.key.slots.get? k = some e → e.uses = 0xFFFFFFFF) →
          (goRun s i).last = none → Completes (.gooseFrameReceived m 0) s fun t => (goRun t i).vals = (goRun s i).vals ∧
            (goRun t i).nAuth = ((goRun s i).nAuth + 2) % 2 ^ 32 ∧ (goRun t i).last = some (m.stnum, m.sqnum)))) ∧
    ∀ tag, Takes s 0x0706 →
      (∀ kind idx, 1 < kind ∨ 255 < idx ∨ (kind = 0 ∧ 127 < idx) → Denied (.subStatus tag kind idx) s 0x0706 tag St.BAD_PARAM) ∧
      (∀ idx, idx ≤ 127 →
        ((sec07 s).sv.has idx = false → Completes (.subStatus tag 0 idx) s fun t => Answers s t 0x0706 tag 0 s.tai (zeros 48) ∧ Only [.mbx] [Reg.MBX_RSPPI] s t) ∧
        ((sec07 s).sv.has idx = true → Completes (.subStatus tag 0 idx) s fun t => (∃ pl, Answers s t 0x0706 tag 0 s.tai pl ∧ pl.length = 48 ∧
          pl.getD 0 0 = (if (svRun s idx).lost then 2#8 else 1#8) ∧ (pl.drop 12).take 4 = le 4 (svRun s idx).nDeliv) ∧ Only [.mbx] [Reg.MBX_RSPPI] s t)) ∧
      ∀ idx, idx ≤ 255 → (sec07 s).goose.has idx = true → Completes (.subStatus tag 1 idx) s fun t => (∃ pl, Answers s t 0x0706 tag 0 s.tai pl ∧ pl.length = 48 ∧
        (pl.drop 12).take 4 = le 4 (goRun s idx).nDeliv) ∧ Only [.mbx] [Reg.MBX_RSPPI] s t

/-- In a half that runs passes: the sample of the next pass is buffered and sets its time; one 64 sets ahead is counted late; what a stream skipped is
synthesised. A sample whose verdict is CHECKED is passed, or waits for the half's own HMAC; any other verdict fails it, and so does the HMAC, with its
record. A pass whose samples are there starts, or, when its time has come, with the missing one synthesised; before that it waits. At its end an
instance whose samples have all passed is confirmed: its run of results (its elements' pickups and timers, R647) grows or ends, and its operate bits
stand from N_CONF on; on any other samples it is provisional and its run stays; a blocked one shows nothing. The lead records a rise of START and
OPERATE. Two periods on, what was provisional is gone and counted. A re-evaluation needs a replaced sample; one that does not fit is dropped and
counted. Rows shown to complete with their effect (`Completes`): halfSampleDelivered, halfVerdict, halfHmacDone, passDue, passEnd, provisionalExpiry,
reevaluation. -/
def Obligations.PassesOfAHalf : Prop :=
  ∀ (s : State) (h : Nat) (c : Sec08), h < 2 → passing s h = true → s.s08For h = some c → 200 ≤ c.prate →
    (∀ x : HalfSample, x.stream < 128 → x.smp < c.prate →
      ((s.hf h).next = some x.smp → ((s.hf h).stream x.stream).newest = none → badChans x.chans = 0 → x.synch = 2 →
        (∀ q ∈ (s.hf h).streams, ∀ b, q.2.buf.get? x.smp = some b → b.syn = 0xFFFF) → Completes (.halfSampleDelivered h x) s fun t =>
        ((t.hf h).stream x.stream).buf.get? x.smp = some ⟨x.deliv, 0, 0, false, false, x.stamp, x.chans, x.chans⟩ ∧ ((t.hf h).stream x.stream).newest = some x.smp ∧
        (t.hf h).tk = sampleTime c x.smp x.stamp ∧ (t.hf h).next = some x.smp ∧ (∀ j, j ≠ x.stream → (t.hf h).stream j = (s.hf h).stream j) ∧
        t.hf (1 - h) = s.hf (1 - h) ∧ Only [.half, .kn] [Reg.PR_CNT0_SYNTH h] s t) ∧
      (∀ k, (s.hf h).next = some k → k < c.prate → 64 ≤ (x.smp + c.prate - k) % c.prate → (x.smp + c.prate - k) % c.prate < c.prate / 2 →
        Completes (.halfSampleDelivered h x) s fun t => Counted s t (Reg.PR_CNT1_LATE h) ∧ t.half = s.half ∧ Only [.kn] [Reg.PR_CNT1_LATE h] s t) ∧
      (∀ k, (s.hf h).next = some k → x.smp = k + 1 → 1 ≤ k → ((s.hf h).stream x.stream).newest = some (k - 1) → ((s.hf h).stream x.stream).buf.has k = false →
        badChans x.chans = 0 → s.rd (Reg.PR_CNT0_SYNTH h) < 2 ^ (Reg.PR_CNT0_SYNTH h).w - 1 → Completes (.halfSampleDelivered h x) s fun t =>
          (∃ b, ((t.hf h).stream x.stream).buf.get? k = some b ∧ b.syn = 0xFFFF) ∧ ((t.hf h).stream x.stream).buf.has x.smp = true ∧
          t.rd (Reg.PR_CNT0_SYNTH h) = s.rd (Reg.PR_CNT0_SYNTH h) + 1)) ∧
    (∀ i k b, ((s.hf h).stream i).buf.get? k = some b → b.syn ≠ 0xFFFF → b.chk = 0 → (∀ p ∈ (s.hf h).hist, p.k ≠ k) →
      (∀ r, r ≠ 0 → Completes (.halfVerdict h i k b.deliv r) s fun t => ((t.hf h).stream i).buf.get? k = some { b with chk := 2, hmac := false } ∧
        ((t.hf h).stream i).realRun = 0 ∧ Only [.half, .kn] [] s t) ∧
      (((sec07 s).sv.get? i).bind (·.auth) = none → Completes (.halfVerdict h i k b.deliv 0) s fun t =>
        ((t.hf h).stream i).buf.get? k = some { b with chk := 1, hmac := false } ∧ ((t.hf h).stream i).realRun = ((s.hf h).stream i).realRun + 1 ∧
        Only [.half, .kn] [] s t) ∧
      (∀ ks cont, ((sec07 s).sv.get? i).bind (·.auth) = some (ks, cont) →
        (keyLost s h ks = false → Completes (.halfVerdict h i k b.deliv 0) s fun t => ((t.hf h).stream i).buf.get? k = some { b with hmac := true } ∧
          Only [.half, .kn] [] s t) ∧
        (keyLost s h ks = true → cont = false → Completes (.halfVerdict h i k b.deliv 0) s fun t =>
          ((t.hf h).stream i).buf.get? k = some { b with chk := 2, hmac := false } ∧ (svRun t i).nAuth = ((svRun s i).nAuth + 1) % 2 ^ 32 ∧
          Only [.half, .kn, .fwd] [] s t) ∧
        (∀ e, ((s.hf h).stream i).buf.find? (fun p => p.2.deliv = b.deliv && p.2.hmac) = some (k, b) → keyLost s h ks = false → s.key.slots.get? ks = some e →
          e.uses = 0xFFFFFFFF →
          (Completes (.halfHmacDone h i b.deliv true) s fun t => ((t.hf h).stream i).buf.get? k = some { b with chk := 1, hmac := false } ∧
            Only [.half, .kn, .fwd] [] s t) ∧
          ((svRun s i).authAt = none → Roomy s → Completes (.halfHmacDone h i b.deliv false) s fun t =>
            ((t.hf h).stream i).buf.get? k = some { b with chk := 2, hmac := false } ∧ (svRun t i).nAuth = ((svRun s i).nAuth + 1) % 2 ^ 32 ∧
            Logged s t 3 Ev.SV_AUTH_FAIL [i] ∧ Only [.half, .kn, .fwd, .recs] [] s t)))) ∧
    (∀ k, (s.hf h).next = some k → (s.hf h).running = none →
      (∀ hit : Bool, (∀ i ∈ expected c, ((s.hf h).stream i).buf.has k = true) → hit = decide ((s.hf h).rst = some k ∨ (s.hf h).rst = some 0xFFFF) →
        Completes (.passDue h) s fun t =>
        t.hf h = { s.hf h with running := some (k, s.tb.ns), rstNow := hit, rst := if hit then none else (s.hf h).rst } ∧ t.hf (1 - h) = s.hf (1 - h) ∧ Only [.half] [] s t) ∧
      (∀ i ∈ expected c, ((s.hf h).stream i).buf.has k = false → (s.tb.ns < (s.hf h).tk + c.palign * 100000 → Completes (.passDue h) s fun t => Only [] [] s t) ∧
        ((s.hf h).tk + c.palign * 100000 ≤ s.tb.ns → Completes (.passDue h) s fun t => (t.hf h).running = some (k, s.tb.ns) ∧
          (∃ b, ((t.hf h).stream i).buf.get? k = some b ∧ b.syn = 0xFFFF) ∧ Only [.half] [Reg.PR_CNT0_SYNTH h, Reg.PR_EVT_BLOCKED h] s t))) ∧
    (∀ k start outs us imp, (s.hf h).running = some (k, start) → k < c.prate → (c.insts.map Prod.fst).Nodup →
      (s.isLead h = false → Completes (.passEnd h outs us imp) s fun t => (t.hf h).running = none ∧ (t.hf h).next = some ((k + 1) % c.prate) ∧
        t.rd (Reg.PR_PASS_LASTK h) = k % 2 ^ 16 ∧ (t.hf h).passes = ((s.hf h).passes + 1) % 2 ^ 32 ∧ (t.hf h).maxPass = max (s.hf h).maxPass us ∧
        (64 < us → Counted s t (Reg.PR_CNT0_OVERRUN h) ∧ t.rd (Reg.PR_EVT_OVERRUN h) = 1) ∧
        (∀ n i o up el, c.insts.get? n = some i → outs.find? (fun o => o.inst = n) = some o → i.en = true →
          (up, el) = elemsNext i ((s.hf h).insts.getD n {}).up (s.hf h).tk o →
          (blockOf (s.hf h) n i ≠ 0 → ((t.hf h).insts.getD n {}).bits = 0 ∧ ((t.hf h).insts.getD n {}).run = 0 ∧ ((t.hf h).insts.getD n {}).blk = blockOf (s.hf h) n i) ∧
          (blockOf (s.hf h) n i = 0 → inputsPass (s.hf h) i k = true → ((t.hf h).insts.getD n {}).prov = false ∧
            ((t.hf h).insts.getD n {}).run = (if el = 0 then 0 else min 16 (((s.hf h).insts.getD n {}).run + 1)) ∧ ((t.hf h).insts.getD n {}).up = up ∧
            ((t.hf h).insts.getD n {}).bits = (if i.nconf ≤ ((t.hf h).insts.getD n {}).run ∧ el ≠ 0 then el else el &&& 0x5555) ∧
            ((t.hf h).insts.getD n {}).conf = ((t.hf h).insts.getD n {}).bits) ∧
          (blockOf (s.hf h) n i = 0 → inputsPass (s.hf h) i k = false → ((t.hf h).insts.getD n {}).prov = true ∧
            ((t.hf h).insts.getD n {}).run = ((s.hf h).insts.getD n {}).run ∧ ((t.hf h).insts.getD n {}).conf = ((s.hf h).insts.getD n {}).conf)) ∧
        t.hf (1 - h) = s.hf (1 - h) ∧ Parts [.half, .kn] s t) ∧
      (∀ n i ms bits el, s.lead = some h → c.insts = [(n, i)] → c.outs = [] → c.pubs = [] → c.feeders = [] → outs = [⟨n, ms, bits, none⟩] → i.en = true →
        el = (elemsNext i ((s.hf h).insts.getD n {}).up (s.hf h).tk ⟨n, ms, bits, none⟩).2 → i.nconf ≤ 1 →
        blockOf (s.hf h) n i = 0 → inputsPass (s.hf h) i k = true → (s.hf h).hist = [] → (s.hf h).told.getD n 0 = 0 → ((s.hf h).insts.getD n {}).run < 16 → us ≤ 64 → Roomy s →
        el % 4 = 3 → Completes (.passEnd h outs us imp) s fun t => Logged s t 1 Ev.PICKUP [n, k, el] ∧ Logged s t 1 Ev.OPERATE [n, k, el])) ∧
    ∀ k p, (s.hf h).hist.find? (fun p => p.k = k) = some p → p.expired = false →
      (p.start + 2 * periodNs s ≤ s.tb.ns → (∀ q ∈ (s.hf h).streams, ∀ b, q.2.buf.get? k = some b → b.chk ≠ 2) →
        ((∀ r ∈ p.res, r.2.2 = false) → Completes (.provisionalExpiry h k) s fun t => (∀ q ∈ (t.hf h).hist, q.k = k → q.expired = true) ∧
          (t.hf h).nExp = (s.hf h).nExp ∧ Only [.half] [] s t) ∧
        ((∃ r ∈ p.res, r.2.2 = true) → s.isLead h = false → Completes (.provisionalExpiry h k) s fun t => Counted s t (Reg.PR_CNT0_EXPIRED h) ∧
          (t.hf h).nExp = ((s.hf h).nExp + 1) % 2 ^ 32 ∧ Only [.half] [Reg.PR_CNT0_EXPIRED h] s t)) ∧
      (∀ outs fits, replaced (s.hf h) p = [] → Completes (.reevaluation h k outs fits) s fun t => Only [] [] s t) ∧
      (∀ outs, replaced (s.hf h) p ≠ [] → (Completes (.reevaluation h k outs false) s fun t => Counted s t (Reg.PR_CNT1_REDROP h) ∧
          t.hf h = { s.hf h with nRedrop := ((s.hf h).nRedrop + 1) % 2 ^ 32 } ∧ Only [.half] [Reg.PR_CNT1_REDROP h] s t) ∧
        (s.isLead h = false → Completes (.reevaluation h k outs true) s fun t => Counted s t (Reg.PR_CNT1_REEVAL h) ∧ Only [.half] [Reg.PR_CNT1_REEVAL h] s t))

/-- A publication of the lead that is due goes out again as a message with its gocbRef and values, its sqNum one higher, the interval doubled up to MAXT.
A report of a lantern on a feeder that has tripped is kept when its dip is within 50 ms of the fault's start and 35 s of the trip have not passed;
then the sections are named, four at most, and the lead reports and records them. The commands are NOT_IN_SERVICE while protection is, refuse what is
out of range and unknown instances, and give PROT_STATUS, INST_STATUS and the last FLOC_RESULT; PROT_RESET sets its signal for the next pass of one
SmpCnt in both halves; INST_BLOCK blocks in both halves and is a counted edit. Rows shown to complete with their effect (`Completes`):
gooseRetransmit, halfUvoltReceived, flocLocate, protStatus, instStatus, protReset, instBlock, flocGet. -/
def Obligations.PublicationsFaultLocationAndCommands : Prop :=
  ∀ s : State,
    (∀ h c, h < 2 → passing s h = true → s.s08For h = some c →
      (∀ pub p st, c.pubs.get? pub = some p → p.auth = none → s.lead = some h → (s.hf h).pubs.get? pub = some st → st.started = true → st.next ≤ s.tb.ns → 1 ≤ st.intv →
        1 ≤ p.maxt → Completes (.gooseRetransmit h pub) s fun t => (∃ m, (t.hf h).pubs.get? pub = some { st with
            sq := (st.sq + 1) % 2 ^ 32, intv := st.intv + min st.intv p.maxt, next := st.next + min st.intv p.maxt * 1000000
            ttl := 2 * min st.intv p.maxt, blocked := false, msg := some m } ∧ m.gocb = p.gocb ∧ m.st = st.st ∧ m.sq = (st.sq + 1) % 2 ^ 32 ∧
            m.ttl = 2 * min st.intv p.maxt ∧ m.vals = st.vals ∧ m.tagged = false) ∧
          Parts [.half, .fwd] s t) ∧
      (∀ f p fc fl ln sec a vres lost, c.feeders = [(f, p)] → p.floc = some fc → (s.hf h).floc.get? f = some fl → fc.lns.find? (fun q => q.1 = ln) = some (ln, sec) →
        (∀ tr, fl.trip = some tr → a ≤ fl.tf + 50000000 → fl.tf ≤ a + 50000000 → s.tb.ns ≤ tr + 35000000000 → Completes (.halfUvoltReceived h ln a vres lost) s fun t =>
          (t.hf h).floc.get? f = some { fl with reps := fl.reps ++ [(sec, vres)] } ∧ Only [.half, .kn] [] s t) ∧
        (∀ tr, fl.trip = some tr → fl.tf + 50000000 < a ∨ a + 50000000 < fl.tf ∨ tr + 35000000000 < s.tb.ns → Completes (.halfUvoltReceived h ln a vres lost) s fun t =>
          Only [.kn] [] s t)) ∧
      ∀ f p fc fl tr, c.feeders.get? f = some p → p.floc = some fc → (s.hf h).floc.get? f = some fl → fl.trip = some tr → tr + 35000000000 ≤ s.tb.ns →
        (flocLocate fc fl.dz fl.reps).1.length ≤ 4 ∧
        (s.isLead h = false → Completes (.flocLocate h f) s fun t => (∃ b, (t.hf h).floc.get? f = some { fl with trip := none, last := some b }) ∧ Only [.half] [] s t) ∧
        (s.lead = some h → Reportable s → Roomy s → Completes (.flocLocate h f) s fun t => (∃ b, (t.hf h).floc.get? f = some { fl with trip := none, last := some b } ∧
          Reported s t 0x0802 0 b ∧ b.take 12 = ([0xFF, 0xFF, 0xFF] : List Byte) ++ le 1 f ++ le 8 fl.tf ∧
          (b.drop 24).take 4 = (padTo 4 0xFF (flocLocate fc fl.dz fl.reps).1).map (fun x => BitVec.ofNat 8 x)) ∧
          t.rd (Reg.PR_EVT_FLOCDONE h) = 1 ∧ Only [.half, .mbx, .recs] [Reg.MBX_RPTPI, Reg.PR_EVT_FLOCDONE h] s t)) ∧
    ∀ tag,
      (s.sup.inServ = false →
        (Takes s 0x0801 → ∀ h, h < 2 → Denied (.protStatus tag h) s 0x0801 tag 0x81) ∧ (Takes s 0x0803 → Denied (.protReset tag) s 0x0803 tag 0x81) ∧
        (Takes s 0x0804 → ∀ n b, n < 192 → b < 2 → Denied (.instBlock tag n b) s 0x0804 tag 0x81)) ∧
      (Takes s 0x0801 → ∀ h, 1 < h → Denied (.protStatus tag h) s 0x0801 tag St.BAD_PARAM) ∧
      (Takes s 0x0802 → ∀ h n, 1 < h ∨ 191 < n → Denied (.instStatus tag h n) s 0x0802 tag St.BAD_PARAM) ∧
      (Takes s 0x0804 → ∀ n b, 191 < n ∨ 1 < b → Denied (.instBlock tag n b) s 0x0804 tag St.BAD_PARAM) ∧
      (Takes s 0x0805 → ∀ f, 31 < f → Denied (.flocGet tag f) s 0x0805 tag St.BAD_PARAM) ∧
      (s.sup.inServ = true →
        (Takes s 0x0801 → ∀ h, h < 2 → Completes (.protStatus tag h) s fun t => (∃ pl, Answers s t 0x0801 tag 0 s.tai pl ∧ pl.length = 24 ∧
          (pl.drop 2).take 2 = le 2 (s.rd (Reg.PR_PASS_LASTK h)) ∧ (pl.drop 4).take 4 = le 4 (s.hf h).passes ∧ pl.drop 20 = le 4 (s.hf h).nRedrop) ∧
          Only [.mbx] [Reg.MBX_RSPPI] s t) ∧
        (Takes s 0x0802 → ∀ h n, h < 2 → n < 192 →
          ((s.s08For h).bind (fun c => c.insts.get? n) = none → Denied (.instStatus tag h n) s 0x0802 tag 0x80) ∧
          ∀ i, (s.s08For h).bind (fun c => c.insts.get? n) = some i → Completes (.instStatus tag h n) s fun t => Answers s t 0x0802 tag 0 s.tai
            (le 1 i.func ++ le 1 i.bay ++ le 2 ((s.hf h).insts.getD n {}).bits ++ le 1 (b2n ((s.hf h).insts.getD n {}).prov) ++
              le 1 ((s.hf h).insts.getD n {}).run ++ le 1 ((s.hf h).insts.getD n {}).blk ++ zeros 1 ++ le 8 ((s.hf h).insts.getD n {}).lastOp) ∧
            Only [.mbx] [Reg.MBX_RSPPI] s t) ∧
        (Takes s 0x0803 → Completes (.protReset tag) s fun t => t.hf 0 = { s.hf 0 with rst := some (resetPass s) } ∧
          t.hf 1 = { s.hf 1 with rst := some (resetPass s) } ∧
          Answers s t 0x0803 tag 0 s.tai [] ∧ Only [.half, .mbx] [Reg.MBX_RSPPI] s t) ∧
        (Takes s 0x0804 → ∀ n, n < 192 →
          ((s.s08).bind (fun c => c.insts.get? n) = none → ∀ b, b < 2 → Denied (.instBlock tag n b) s 0x0804 tag 0x80) ∧
          (∀ i, (s.s08).bind (fun c => c.insts.get? n) = some i →
            (Completes (.instBlock tag n 1) s fun t => (∀ h, h < 2 → n ∈ (t.hf h).hostBlk) ∧ t.cfg.edited = s.cfg.edited ++ [8] ∧
              Answers s t 0x0804 tag 0 s.tai [] ∧ Only [.half, .cfg, .mbx] [Reg.MBX_RSPPI] s t) ∧
            (Completes (.instBlock tag n 0) s fun t => (∀ h, h < 2 → n ∉ (t.hf h).hostBlk ∧ ∀ m, m ≠ n → (m ∈ (t.hf h).hostBlk ↔ m ∈ (s.hf h).hostBlk)) ∧
              t.cfg.edited = s.cfg.edited ++ [8] ∧ Answers s t 0x0804 tag 0 s.tai [] ∧ Only [.half, .cfg, .mbx] [Reg.MBX_RSPPI] s t))) ∧
        (Takes s 0x0805 → ∀ f, f ≤ 31 →
          (((s.hf (s.lead.getD 0)).floc.get? f).bind (·.last) = none → Denied (.flocGet tag f) s 0x0805 tag 0x82) ∧
          ∀ b, ((s.hf (s.lead.getD 0)).floc.get? f).bind (·.last) = some b → Completes (.flocGet tag f) s fun t => Answers s t 0x0805 tag 0 s.tai (b.drop 12) ∧
            Only [.mbx] [Reg.MBX_RSPPI] s t))

/-- With both halves in IN_STEP on the same settings, no rejoin, split, request or handover under way, no output under SECURE, and the lead's own vector
of the pass at most 10 µs old: a heel VEC of that pass that agrees leaves every register as it was and ends all runs; one that disagrees on some
output starts a run of 1 for each such output, counts DISPASS, sets the event DISAGREE and appends BRC_DISAGREE with the pass, the outputs and the
lead's values. Rows shown to complete with their effect (`Completes`): vecReceived. -/
def Obligations.VectorsAreCompared : Prop :=
  ∀ (s : State) (l : Nat) (v : VecPkt) (c : Sec08) (dis agr : Nat), l < 2 → s.lead = some l → s.fuses.suiteP = true →
    s.brace 0 = 2 → s.brace 1 = 2 → s.cfg.secs.s08 = some c → (s.hf l).vecK = v.smp → (s.hf l).vecAt ≠ 0 → s.now ≤ (s.hf l).vecAt + 10000 →
    s.brc.cmpK ≠ some (v.smp, (s.hf l).vecSec % 2 ^ 32) → (ownVec s l).dig = v.dig → s.brc.first = 0 → s.brc.disRun = [] →
    s.brc.inRun = false → s.brc.await = none → s.brc.req = none → s.rd Reg.BRC_HO_PHASE = 0 → s.rd Reg.BRC_STAT_SPLIT = 0 → 1 < (sec09 s).disn →
    (∀ q ∈ c.outs, effPolicy s q.1 q.2 ≠ 2) → disagreeMask c (ownVec s l) v = (dis, agr) → dis < 2 ^ 32 →
    (dis = 0 → Completes (.vecReceived (1 - l) v) s fun t => t.brc.disRun = [] ∧ t.brc.inRun = false ∧
      t.brc.cmpK = some (v.smp, (s.hf l).vecSec % 2 ^ 32) ∧ Only [.kn, .brc] [] s t) ∧
    (dis ≠ 0 → Roomy s → Completes (.vecReceived (1 - l) v) s fun t => (∀ n, n < 32 → bit dis n = true → t.brc.disRun.get? n = some 1) ∧
      t.brc.inRun = true ∧ Counted s t Reg.BRC_CNT0_DISPASS ∧ t.rd Reg.BRC_EVT_DISAGREE = 1 ∧
      Logged s t 2 Ev.BRC_DISAGREE [v.smp, dis, (s.hf l).vec] ∧ Only [.kn, .brc, .recs] [Reg.BRC_CNT0_DISPASS, Reg.BRC_EVT_DISAGREE] s t)

/-- 10 µs after the lead's pass with no VEC of it from the heel, and nothing waiting for agreement, the run of late passes is one longer. With the heel's
VEC 20 µs old and none of that pass from the lead, the lead is declared failed with reason 7: its domain is in reset, it is DOWN, LEASH is the other
half's with transfer cause 1, and HALF_FAILED and LEASH_TRANSFER are recorded. Rows shown to complete with their effect (`Completes`): agwaitExpiry,
livewinExpiry. -/
def Obligations.SilentHalves : Prop :=
  ∀ (s : State) (l k : Nat), l < 2 → s.lead = some l → s.brace (1 - l) = 2 →
    ((s.hf l).vecK = k → (∀ x ∈ s.brc.vecs.getD (1 - l) [], x.smp ≠ k) → (s.hf l).vecAt + 10000 ≤ s.now → s.brc.await = none →
      s.brc.lateK ≠ some k → s.brc.lateRun + 1 < (sec09 s).hmiss →
      Completes (.agwaitExpiry k) s fun t => t.brc = { s.brc with lateRun := s.brc.lateRun + 1, lateK := some k } ∧ Only [.brc] [] s t) ∧
    (∀ a, Roomy s → s.brc.arr.get? (1 - l) = some (k, a) → (∀ x ∈ s.brc.vecs.getD l [], x.smp ≠ k) → s.brace l = 2 → a + 20000 ≤ s.now →
      (s.hf (1 - l)).hist = [] → s.brc.req = none → s.rd Reg.BRC_HO_PHASE = 0 → s.sup.attempt = false → s.runs (2 + l) = true →
      Completes (.livewinExpiry k) s fun t => t.rd Reg.BRC_STAT_LEASH = 1 - l + 1 ∧ t.brace l = 0 ∧ t.dom (2 + l) = 1 ∧
        t.brc.lastXfer = s.tai ∧ t.brc.xcause = 1 ∧ t.rd Reg.BRC_EVT_HEELFAIL = 1 ∧ t.rd Reg.BRC_EVT_TRANSFER = 1 ∧
        Logged s t 2 Ev.HALF_FAILED [l, 7, k] ∧ Logged s t 2 Ev.LEASH_TRANSFER [1, l + 256 * (1 - l), (s.hf (1 - l)).vecK])

/-- A half whose domain waits in reset returns to RUN. While the other half leads it takes over its series, buffers, instances, gates and outputs, in
state REJOINING; with no lead it is in IN_STEP and holds LEASH. REJOIN_COMPLETE puts it in IN_STEP from the given SmpCnt, counts the rejoin, and the
first DISN vectors have to agree; in the last phase of a handover the handover ends, with CMP_RESUMED. A STATE packet that the lead has sent gives the
heel its notice sequence and its publications' numbers, with the values unchanged where stNum is; the half that leads ignores one. Rows shown to
complete with their effect (`Completes`): halfRejoinStart, rejoinComplete, statePacketReceived. -/
def Obligations.HalvesRejoin : Prop :=
  ∀ (s : State) (h : Nat), h < 2 → s.fuses.suiteP = true →
    (s.dom (2 + h) = 1 → s.pwr.quiesced = false → s.pwr.thermal = false → s.rd Reg.SUP_DOMSTAT_OCXO_LOST = 0 → s.rd Reg.UPD_STAT_RCV = 0 →
      h + 2 ∉ s.brc.held → (s.s08For h).isSome = true → coreDefault s = false →
      (s.lead = some (1 - h) → Completes (.halfRejoinStart h) s fun t => t.dom (2 + h) = 2 ∧ t.brace h = 1 ∧ t.rd Reg.BRC_STAT_CMPON = 0 ∧
        (t.hf h).insts = (s.hf (1 - h)).insts ∧ (t.hf h).gates = (s.hf (1 - h)).gates ∧ (t.hf h).outs = (s.hf (1 - h)).outs ∧
        (t.hf h).streams = (s.hf (1 - h)).streams ∧ (t.hf h).pubs = (s.hf (1 - h)).pubs ∧ (t.hf h).nseq = (s.hf (1 - h)).nseq ∧
        t.hf (1 - h) = s.hf (1 - h) ∧ Only [.half, .brc] [domFld (2 + h), braceFld h, Reg.BRC_STAT_CMPON] s t) ∧
      (s.lead = none → (∀ e, (s.bk.getD e {}).req = false) → Completes (.halfRejoinStart h) s fun t => t.dom (2 + h) = 2 ∧ t.brace h = 2 ∧ t.rd Reg.BRC_STAT_LEASH = h + 1 ∧
        h ∉ t.brc.failed ∧ Only [.brc] [domFld (2 + h), braceFld h, Reg.BRC_STAT_CMPON, Reg.BRC_STAT_LEASH] s t)) ∧
    (∀ k, s.brace h = 1 → s.runs (2 + h) = true → s.lead = some (1 - h) →
      (s.rd Reg.BRC_HO_PHASE ≠ 4 → Completes (.rejoinComplete h k) s fun t => t.brace h = 2 ∧ (t.hf h).next = some k ∧
        t.rd Reg.BRC_STAT_CMPON = (if s.brace (1 - h) = 2 then 1 else 0) ∧ Counted s t Reg.BRC_CNT1_REJOINS ∧
        t.brc.first = (sec09 s).disn ∧ h ∉ t.brc.failed ∧ Only [.half, .brc] [braceFld h, Reg.BRC_STAT_CMPON, Reg.BRC_CNT1_REJOINS] s t) ∧
      (s.rd Reg.BRC_HO_PHASE = 4 → Roomy s → Completes (.rejoinComplete h k) s fun t => t.brace h = 2 ∧ (t.hf h).next = some k ∧
        t.rd Reg.BRC_HO_PHASE = 0 ∧ t.rd Reg.BRC_STAT_HO = 0 ∧ t.brc.ho = none ∧
        Logged s t 2 Ev.CMP_RESUMED [k, settingsDigest s.cfg.secs] ∧
        Only [.half, .brc, .recs] [braceFld h, Reg.BRC_STAT_CMPON, Reg.BRC_CNT1_REJOINS, Reg.BRC_HO_PHASE, Reg.BRC_STAT_HO] s t)) ∧
    (∀ p : StatePkt, s.runs (2 + h) = true → (s.hf (1 - h)).stOut = some p →
      (s.lead ≠ some h → Completes (.statePacketReceived h) s fun t => (t.hf h).nseq = p.nseq ∧ t.hf (1 - h) = { s.hf (1 - h) with stOut := none } ∧
        (∀ i st sq next intv, p.pubs = [(i, st, sq, next, intv)] → ∃ q, (t.hf h).pubs.get? i = some q ∧ q.st = st ∧ q.sq = sq ∧ q.next = next ∧ q.intv = intv ∧
          ∀ x, (s.hf h).pubs.get? i = some x → x.started = true → x.st = st → q.vals = x.vals) ∧ Only [.kn, .half] [] s t) ∧
      (s.lead = some h → Completes (.statePacketReceived h) s fun t => Only [] [] s t)) ∧
    ((s.hf (1 - h)).stOut = none → Completes (.statePacketReceived h) s fun t => Only [] [] s t)

/-- While a handover or a rejoin runs the three moves are answered 0x83. BRC_TRANSFER without a heel in step is answered 0x80; else it waits, for a pass
that lets LEASH move, 10 s at most, and is then answered 0x82. BRC_RESYNC of the lead waits too; of a half that is DOWN it resets its domain and
answers OK; of any other number BAD_PARAM. PARTNER_YIELD without a partner is answered 0x81, with LSH_OUT low OK. BRC_STATUS gives the words of
BRC_STAT and BRC_PART, the outputs of the last disagreement, the last transfer and the partner. Rows shown to complete with their effect
(`Completes`): brcTransfer, brcResync, transferTimeout, partnerYield, brcStatus. -/
def Obligations.BraceCommands : Prop :=
  ∀ (s : State) (tag : Nat),
    (Takes s 0x0902 →
      (braceBusy s = true → Denied (.brcTransfer tag) s 0x0902 tag 0x83) ∧
      (braceBusy s = false → s.lead = none → Denied (.brcTransfer tag) s 0x0902 tag 0x80) ∧
      (∀ h, braceBusy s = false → s.lead = some h → s.brace (1 - h) = 2 → s.brc.req = none →
        Completes (.brcTransfer tag) s fun t => t.brc = { s.brc with req := some ⟨0, tag, s.now, 0⟩ } ∧
          t.mbx = { s.mbx with prog := s.mbx.prog ++ [(0x0902, tag)] } ∧ Only [.brc, .mbx] [] s t)) ∧
    (Takes s 0x0903 →
      (∀ h, 1 < h → Denied (.brcResync tag h) s 0x0903 tag St.BAD_PARAM) ∧
      (∀ h, h < 2 → braceBusy s = true → Denied (.brcResync tag h) s 0x0903 tag 0x83) ∧
      (∀ h, h < 2 → braceBusy s = false → s.lead = some h → s.brace (1 - h) = 2 → s.brc.req = none →
        Completes (.brcResync tag h) s fun t => t.brc = { s.brc with req := some ⟨1, tag, s.now, h⟩ } ∧ Only [.brc, .mbx] [] s t) ∧
      (∀ h, h < 2 → braceBusy s = false → s.lead ≠ some h → s.brace h = 0 →
        Completes (.brcResync tag h) s fun t => Answers s t 0x0903 tag 0 s.tai [] ∧ t.dom (2 + h) = 1 ∧ h ∉ t.brc.held)) ∧
    (∀ r, s.brc.req = some r → r.kind = 0 → r.at_ + 10000000000 ≤ s.now → (0x0902, r.tag) ∈ s.mbx.prog →
      Completes .transferTimeout s fun t => Answers s t 0x0902 r.tag 0x82 s.tai [] ∧ t.brc = { s.brc with req := none } ∧
        Only [.brc, .mbx] [Reg.MBX_RSPPI] s t) ∧
    (Takes s 0x0904 →
      ((sec09 s).partner = false → Denied (.partnerYield tag) s 0x0904 tag 0x81) ∧
      ((sec09 s).partner = true → braceBusy s = true → Denied (.partnerYield tag) s 0x0904 tag 0x83) ∧
      ((sec09 s).partner = true → braceBusy s = false → partnerReady s = true → s.rd Reg.BRC_STAT_LSHOUT = 0 →
        Denied (.partnerYield tag) s 0x0904 tag 0) ∧
      ((sec09 s).partner = true → braceBusy s = false → partnerReady s = true → s.rd Reg.BRC_STAT_LSHOUT = 1 → s.brc.req = none →
        Completes (.partnerYield tag) s fun t => t.brc = { s.brc with req := some ⟨2, tag, s.now, 0⟩ } ∧ Only [.brc, .mbx] [] s t)) ∧
    (Takes s 0x0901 → Completes (.brcStatus tag) s fun t =>
      Answers s t 0x0901 tag 0 s.tai (le 4 (brcStat s) ++ le 4 (brcPart s) ++ le 4 s.brc.disMask ++ le 8 s.brc.lastXfer ++ le 1 s.brc.xcause ++
        zeros 3 ++ le 16 (sec09 s).puid ++ le 4 s.brc.partner.cfgseq ++ le 4 s.brc.partner.bilver) ∧ Only [.mbx] [Reg.MBX_RSPPI] s t)

/-- LSH_IN low for 20 µs shows in LSHIN. A module with a partner configured that is READY and whose role lets it raises LSH_OUT, with MODLEAD_TAKEN and
the event PARTCHG; so does the end of the start wait of a SECONDARY. A module that is not READY, or has no partner, leaves LSH_OUT. The sample from 5
µs after LSH_OUT rose on: low, the output stays; high at a SECONDARY, LSH_OUT falls again, with MODLEAD_YIELDED and LSH_TIE. Rows shown to complete
with their effect (`Completes`): lshInLowDebounce, leadershipStartWaitExpiry, lshTieSample. -/
def Obligations.ModuleLeadership : Prop :=
  ∀ s : State,
    (moduleReady s = false ∨ partnerCfg s = false → Completes .lshInLowDebounce s fun t => t.rd Reg.BRC_STAT_LSHIN = 0 ∧ t.brc = { s.brc with lshLow := some s.now } ∧
      Only [.brc] [Reg.BRC_STAT_LSHIN] s t) ∧
    (partnerCfg s = true → moduleReady s = true → roleMayTake s = true → s.rd Reg.BRC_STAT_LSHOUT = 0 → Roomy s →
      (Completes .lshInLowDebounce s fun t => t.rd Reg.BRC_STAT_LSHIN = 0 ∧ t.rd Reg.BRC_STAT_LSHOUT = 1 ∧ t.rd Reg.BRC_EVT_PARTCHG = 1 ∧ t.brc.tie = some s.up ∧
        Logged s t 2 Ev.MODLEAD_TAKEN [1, smpNow s] ∧
        Only [.brc, .recs] [Reg.BRC_STAT_LSHIN, Reg.BRC_STAT_LSHOUT, Reg.BRC_EVT_PARTCHG] s t) ∧
      (s.brc.lshLow.isSome = true → s.rd Reg.BRC_STAT_LSHIN = 0 →
        Completes .leadershipStartWaitExpiry s fun t => t.rd Reg.BRC_STAT_LSHOUT = 1 ∧ t.brc.tie = some s.up ∧ Logged s t 2 Ev.MODLEAD_TAKEN [1, smpNow s] ∧
          Only [.brc, .recs] [Reg.BRC_STAT_LSHOUT, Reg.BRC_EVT_PARTCHG] s t)) ∧
    (∀ a, s.brc.tie = some a → s.up < a + 5000 → Completes (.lshTieSample false) s fun t => t.rd Reg.BRC_STAT_LSHIN = 0 ∧ Only [] [Reg.BRC_STAT_LSHIN] s t) ∧
    (∀ a, s.brc.tie = some a → a + 5000 ≤ s.up → partnerCfg s = true →
      (Completes (.lshTieSample false) s fun t => t.rd Reg.BRC_STAT_LSHIN = 0 ∧ t.brc = { s.brc with tie := none } ∧ Only [.brc] [Reg.BRC_STAT_LSHIN] s t) ∧
      (s.rd Reg.BRC_STAT_LSHOUT = 1 → effRole s = 1 → Roomy s →
        Completes (.lshTieSample true) s fun t => t.rd Reg.BRC_STAT_LSHIN = 1 ∧ t.rd Reg.BRC_STAT_LSHOUT = 0 ∧ t.brc.tie = none ∧
          Logged s t 2 Ev.MODLEAD_YIELDED [8, smpNow s] ∧ Logged s t 2 Ev.LSH_TIE [s.fuses.unitId % 2 ^ 32, s.brc.partner.uid % 2 ^ 32] ∧
          Only [.brc, .recs] [Reg.BRC_STAT_LSHIN, Reg.BRC_STAT_LSHOUT, Reg.BRC_EVT_PARTCHG] s t))

/-- With section 0x09 in force, a partner and no key slot: a frame, due 1 ms after the last one or at a change of STATE, carries the next TXSEQ, which
stays below the ceiling that MRAM holds, and leaves by P5 alone. A frame of the partner with a higher TXSEQ is taken over and its time kept; the
sections' and billets' equality show in BRC_PART. A frame of another unit, or with a TXSEQ not above the last, is not: PARTNER_FOREIGN is recorded,
once in 60 s. After 30 ms without a frame the partner is lost, with its record. PARTNER_SEQ_SAVE keeps the last TXSEQ accepted in MRAM, every 10 s.
Rows shown to complete with their effect (`Completes`): partnerFrameSend, partnerFrameReceived, partnerLost, partnerSeqSave. -/
def Obligations.PartnerFrames : Prop :=
  ∀ (s : State) (c : Sec09), s.cfg.secs.s09 = some c → c.partner = true → c.pkslot = 0xFF → s.runs 5 = true →
    (partnerDue s = false → Completes .partnerFrameSend s fun t => Only [] [] s t) ∧
    (partnerDue s = true → s.brc.partner.txSeq + 1 < 2 ^ 64 → s.brc.partner.txSeq ≤ s.brc.partner.ceil →
      Completes .partnerFrameSend s fun t => t.brc.partner.txSeq = s.brc.partner.txSeq + 1 ∧ t.brc.partner.txSeq < t.brc.partner.ceil ∧
        (∃ f, t.brc.partner.sent = some f ∧ f.txseq = s.brc.partner.txSeq + 1 ∧ f.uid = s.fuses.unitId ∧ f.role = c.role ∧
          f.setdig = settingsDigest s.cfg.secs ∧ f.smp = (s.hf (s.lead.getD 0)).vecK ∧ f.vec = (s.hf (s.lead.getD 0)).vecC ∧ f.sentNs = s.now ∧ f.mac = zeros 16) ∧
        ((portCfg s 5).en = true → ∃ e, t.fwd.egress = [e] ∧ e.port = 5 ∧ e.tag = none ∧ e.dst = 0xFFFFFFFFFFFF) ∧ Only [.brc, .fwd, .free] [] s t) ∧
    (∀ f : PartnerFrame, f.uid = c.puid → s.brc.partner.rxSeq < f.txseq → Roomy s →
      Completes (.partnerFrameReceived f) s fun t => t.brc.partner.rxSeq = f.txseq ∧ t.brc.partner.at_ = s.now ∧ t.brc.partner.seen = true ∧
        t.brc.partner.lost = false ∧ t.brc.partner.smp = f.smp ∧ t.brc.partner.vec = f.vec ∧ t.brc.partner.role = f.role ∧ t.brc.partner.st = f.st ∧
        t.rd Reg.BRC_PART_FRAMES = 1 ∧ t.rd Reg.BRC_PART_CFGEQ = (if f.setdig = settingsDigest s.cfg.secs then 1 else 0) ∧
        t.rd Reg.BRC_PART_BILEQ = (if f.bilver = s.rd Reg.UPD_BILVER_VERSION then 1 else 0) ∧
        (s.brc.partner.lost = true → Logged s t 2 Ev.PARTNER_BACK [f.cfgseq, f.bilver, f.setdig]) ∧ Parts [.brc, .recs] s t) ∧
    (∀ f : PartnerFrame, f.uid ≠ c.puid ∨ f.txseq ≤ s.brc.partner.rxSeq → Roomy s →
      (s.brc.partner.foreignAt = none → Completes (.partnerFrameReceived f) s fun t =>
        t.brc.partner = { s.brc.partner with foreignAt := some s.now } ∧ Logged s t 2 Ev.PARTNER_FOREIGN [f.cfgseq, f.bilver, f.setdig] ∧
        Only [.brc, .recs] [] s t) ∧
      (∀ a, s.brc.partner.foreignAt = some a → s.now < a + 60000000000 → Completes (.partnerFrameReceived f) s fun t => Only [] [] s t)) ∧
    (s.brc.partner.seen = true → s.brc.partner.lost = false → s.brc.partner.at_ + 30000000 ≤ s.now → Roomy s →
      Completes .partnerLost s fun t => t.brc.partner = { s.brc.partner with lost := true } ∧ t.rd Reg.BRC_STAT_PARTNER = 1 ∧
        t.rd Reg.BRC_PART_FRAMES = 0 ∧ t.rd Reg.BRC_EVT_PARTCHG = 1 ∧
        Logged s t 2 Ev.PARTNER_LOST [s.brc.partner.cfgseq, s.brc.partner.bilver, s.brc.partner.setdig] ∧
        Only [.brc, .recs] [Reg.BRC_STAT_PARTNER, Reg.BRC_STAT_ROLE, Reg.BRC_PART_FRAMES, Reg.BRC_EVT_PARTCHG] s t) ∧
    (s.brc.partner.savedUp + 10000000000 ≤ s.up → Completes .partnerSeqSave s fun t =>
      t.brc = { s.brc with partner := { s.brc.partner with saved := s.brc.partner.rxSeq, puid := c.puid, savedUp := s.up } } ∧ Only [.brc] [] s t) ∧
    (s.up < s.brc.partner.savedUp + 10000000000 → Completes .partnerSeqSave s fun t => Only [] [] s t)

/-- With the heel in step in phase 1, the loaded settings run from the given SmpCnt: the heel is SUSPENDED, phase 2, CMP_SUSPENDED recorded. HOWARM later
phase 3. HOWAIT later with no pass to move LEASH on, the phase is 0, the heel DOWN with its domain in reset. In a suite L module with both halves
running, identical results may be distributed, results that differ are computed again, and those that differ again are recorded and the lead's is
used; a second such difference within an hour fails the heel. A half that runs alone carries the task. Rows shown to complete with their effect
(`Completes`): handoverLoadDone, handoverWarmExpiry, handoverWaitTimeout, luxResultCompare. -/
def Obligations.HandoverPhases : Prop :=
  ∀ s : State,
    (∀ heel k j n a, heel < 2 → s.brc.ho = some (heel, j, n) → s.cfg.apply = some a → s.rd Reg.BRC_HO_PHASE = 1 → s.brace heel = 2 → Roomy s →
      Completes (.handoverLoadDone k) s fun t => t.brace heel = 3 ∧ t.rd Reg.BRC_HO_PHASE = 2 ∧ t.rd Reg.BRC_STAT_CMPON = 0 ∧
        t.brc.ho = some (heel, k, s.now) ∧ Logged s t 2 Ev.CMP_SUSPENDED [k, settingsDigest a.img.secs] ∧
        Only [.half, .brc, .recs] [braceFld heel, Reg.BRC_STAT_CMPON, Reg.BRC_HO_PHASE] s t) ∧
    (∀ heel k n, s.brc.ho = some (heel, k, n) → s.rd Reg.BRC_HO_PHASE = 2 → n + (sec09 s).howarm * 1000000 ≤ s.now →
      Completes .handoverWarmExpiry s fun t => t.rd Reg.BRC_HO_PHASE = 3 ∧ t.brc = { s.brc with ho := some (heel, k, s.now) } ∧
        Only [.brc] [Reg.BRC_HO_PHASE] s t) ∧
    (∀ heel k n, heel < 2 → s.brc.ho = some (heel, k, n) → s.rd Reg.BRC_HO_PHASE = 3 → n + (sec09 s).howait * 1000000 ≤ s.now → s.cfg.apply = none →
      Completes .handoverWaitTimeout s fun t => t.rd Reg.BRC_HO_PHASE = 0 ∧ t.rd Reg.BRC_STAT_HO = 0 ∧ t.brc.ho = none ∧ t.brace heel = 0 ∧
        t.dom (2 + heel) = 1) ∧
    ∀ (task id : Nat) (a b : List Nat) (h : Nat), s.fuses.suiteP = false → s.runs 1 = true → task < 2 → QuietLink s → luxNode s id = none →
      (∀ again, s.runs 2 = true → s.runs 3 = false → Completes (.luxResultCompare task id again a b) s fun t => LuxTaken s t task id a ∧ Only [.lux] [] s t) ∧
      (∀ again, s.runs 2 = false → s.runs 3 = true → Completes (.luxResultCompare task id again a b) s fun t => LuxTaken s t task id b ∧ Only [.lux] [] s t) ∧
      (s.runs 2 = true → s.runs 3 = true → h < 2 → s.lead = some h →
      (∀ again, a = b → Completes (.luxResultCompare task id again a b) s fun t => LuxTaken s t task id a ∧ Only [.lux] [] s t) ∧
      (a ≠ b → Roomy s → s.brc.luxDiff = none → Completes (.luxResultCompare task id true a b) s fun t => t.brc = { s.brc with luxDiff := some s.sec } ∧
        LuxTaken s t task id (if h = 1 then b else a) ∧ Logged s t 2 Ev.LUX_RESULT_DIFFER [task, id] ∧ Only [.brc, .recs, .lux] [] s t) ∧
      (∀ d, a ≠ b → Roomy s → s.brc.luxDiff = some d → s.sec < d + 3600 → s.brace (1 - h) = 2 → s.brc.req = none → s.rd Reg.BRC_HO_PHASE = 0 → s.sup.attempt = false →
        (s.hf h).hist = [] → Completes (.luxResultCompare task id true a b) s fun t => t.brace (1 - h) = 0 ∧ t.dom (2 + (1 - h)) = 1 ∧
          Logged s t 2 Ev.HALF_FAILED [1 - h, 9, smpNow s]) ∧
      (a ≠ b → Completes (.luxResultCompare task id false a b) s fun t => Only [] [] s t))

/-- A run sets and clears the channel's bit of MTR_RUN; one of 20 ms makes the channel STUCK, with the event and MTR_CHANNEL_STUCK; 20 ms without one end
it. The points with PROTMP post one packet alike to both halves. What a window gives is formed from the modulator bits (`formWin`, `protValue`,
`bandValue`: R781 to R800); where no window ends so, nothing happens. A window whose circuit is valid advances its accumulators by Table MTR-4, those
of no other circuit; an invalid one is counted and advances none; the end of a run of invalid ones and the first valid window after a restore give
METER_GAP, with the estimate of R807. A voltage point's values are taken over, with the frequency of FSRC, and its own frequency goes into the 10 s
mean. At the first window end SAVEPER after the last save the slot not written last holds the accumulators, with the next number; MTR_SAVE_NOW is
answered at the window's end that saves. At a 10 min boundary, and not before, the interval's values are formed, each circuit's deltas reported and
each point's values archived. A band whose upper edge exceeds the limit reads ABSENT. While section 0x0A is absent or on defaults nothing is computed.
An apply that waits for a window takes its section there (Table BOOT-9). Rows shown to complete with their effect (`Completes`): modRunStart,
mtrChannelStuck, stuckClear, meterProtSample, meterWindowEnd, meterSave, meterIntervalEnd, supraWindowEnd. -/
def Obligations.MeteringWindows : Prop :=
  ∀ s : State, s.runs 6 = true →
    (∀ ch, ch < 32 →
      (∀ run, (bit (s.rd Reg.MTR_RUN_RUN) ch = run → Completes (.modRunStart ch run) s fun t => Only [] [] s t) ∧
        (bit (s.rd Reg.MTR_RUN_RUN) ch ≠ run → Completes (.modRunStart ch run) s fun t =>
          (∀ n, n < 32 → bit (t.rd Reg.MTR_RUN_RUN) n = if n = ch then run else bit (s.rd Reg.MTR_RUN_RUN) n) ∧
          t.mtr = { s.mtr with modAt := s.mtr.modAt.set ch s.up } ∧ Only [.mtr] [Reg.MTR_RUN_RUN] s t)) ∧
      (stood20 s ch = false → (Completes (.mtrChannelStuck ch) s fun t => Only [] [] s t) ∧ Completes (.stuckClear ch) s fun t => Only [] [] s t) ∧
      (stood20 s ch = true → bit (s.rd Reg.MTR_RUN_RUN) ch = true → bit (s.rd Reg.MTR_STUCK_STUCK) ch = false → Roomy s → Completes (.mtrChannelStuck ch) s fun t =>
        (∀ n, n < 32 → bit (t.rd Reg.MTR_STUCK_STUCK) n = (decide (n = ch) || bit (s.rd Reg.MTR_STUCK_STUCK) n)) ∧ t.rd Reg.MTR_EVT_STUCK = 1 ∧
        Logged s t 4 Ev.MTR_CHANNEL_STUCK [ch] ∧ Only [.recs] [Reg.MTR_STUCK_STUCK, Reg.MTR_EVT_STUCK] s t) ∧
      (stood20 s ch = true → bit (s.rd Reg.MTR_RUN_RUN) ch = false → Completes (.stuckClear ch) s fun t =>
        (∀ n, n < 32 → bit (t.rd Reg.MTR_STUCK_STUCK) n = (!decide (n = ch) && bit (s.rd Reg.MTR_STUCK_STUCK) n)) ∧ Only [] [Reg.MTR_STUCK_STUCK] s t)) ∧
    (∀ (k g : Nat) (spans : List ModSpan) (vals : List (Nat × Nat × Bool)), g < 2 → spans ≠ [] → vals = spans.map (protValue s) →
      (∀ p ∈ spans, p.ch / 16 = g ∧ p.ch / 4 ∈ (sec0A s).protmp) → s.runs 2 = true → s.runs 3 = true →
      (s.knl (76 + g)).used + 1 + vals.length ≤ kDepth → (s.knl (78 + g)).used + 1 + vals.length ≤ kDepth →
      Completes (.meterProtSample k spans) s fun t => (∃ pkt, pkt.length = 1 + vals.length ∧ pkt.head? = some (kword [(0, 7, 1 + vals.length), (7, 4, 6), (11, 16, k)]) ∧
        (∀ v ∈ vals, kword [(0, 32, v.2.1), (32, 5, v.1), (40, 1, b2n v.2.2)] ∈ pkt) ∧
        (t.knl (76 + g)).pkts = (s.knl (76 + g)).pkts ++ [pkt] ∧ (t.knl (78 + g)).pkts = (s.knl (78 + g)).pkts ++ [pkt]) ∧
        (∀ n, n ≠ 76 + g → n ≠ 78 + g → t.knl n = s.knl n) ∧ Only [.kn] [] s t) ∧
    (s.runs 1 = true → s.rd Reg.MTR_STAT_UNCAL = 1 → ∀ dur freq spans,
      (s.mtr.saveTags = [] → 5 ∉ s.cfg.due → Completes (.meterWindowEnd dur freq spans) s fun t => Only [] [] s t) ∧
      (s.mtr.saveTags = [] → 5 ∈ s.cfg.due → Completes (.meterWindowEnd dur freq spans) s fun t =>
        t.cfg = { s.cfg with due := s.cfg.due.erase 5, secs := { s.cfg.secs with s0a := s.cfg.next.s0a } } ∧ t.mtr.trial = [] ∧ t.mtr.acc = s.mtr.acc ∧
        Parts [.cfg, .mtr] s t) ∧
      (∀ tag, s.mtr.saveTags = [tag] → 5 ∉ s.cfg.due → (0x0A07, tag) ∈ s.mbx.prog → Completes (.meterWindowEnd dur freq spans) s fun t =>
        Answers s t 0x0A07 tag 0 s.tai [] ∧ Counted s t Reg.MTR_CNT_SAVES ∧ t.mtr.saveTags = [] ∧ t.mtr.lastSave = s.now ∧ t.mtr.acc = s.mtr.acc ∧
        Only [.mtr, .mbx] [Reg.MTR_CNT_SAVES, Reg.MBX_RSPPI] s t)) ∧
    (s.rd Reg.MTR_STAT_UNCAL = 1 → (Completes .meterSave s fun t => Only [] [] s t) ∧ (Completes .meterIntervalEnd s fun t => Only [] [] s t) ∧
      ∀ l, Completes (.supraWindowEnd l) s fun t => Only [] [] s t) ∧
    (backEnd s = true → ∀ dur freq spans, formWin s dur freq spans = none → Completes (.meterWindowEnd dur freq spans) s fun t => Only [] [] s t) ∧
    (backEnd s = true → s.mtr.saveTags = [] → s.mtr.meas = none → 5 ∉ s.cfg.due →
      (∀ (c dur freq : Nat) (spans : List ModSpan) (x : Win) (w : CircWin), circuits s = [c] → formWin s dur freq spans = some x → x.circs = [w] →
        (w.ok = true → ∀ P Q : Nat → Int,
          (∀ ph, P ph = scale30 ((sec0A s).kp.getD c (2 ^ 30)) (w.p.getD ph 0)) → (∀ ph, Q ph = scale30 ((sec0A s).kq.getD c (2 ^ 30)) (w.q.getD ph 0)) →
          (c ∉ s.mtr.gapDue ∨ s.mtr.restored = none → s.mtr.inval.get? c = none → Completes (.meterWindowEnd dur freq spans) s fun t =>
            (∀ ph i, ph < 3 → i < 7 → t.mtr.acc.getD (28 * c + 7 * ph + i) 0 % 2 ^ 64 =
              (s.mtr.acc.getD (28 * c + 7 * ph + i) 0 + (accAdd (P ph) (Q ph) (w.s.getD ph 0)).getD i 0) % 2 ^ 64) ∧
            (∀ i, i < 7 → t.mtr.acc.getD (28 * c + 21 + i) 0 % 2 ^ 64 = (s.mtr.acc.getD (28 * c + 21 + i) 0 +
              (accAdd (P 0 + P 1 + P 2) (Q 0 + Q 1 + Q 2) (w.s.getD 0 0 + w.s.getD 1 0 + w.s.getD 2 0)).getD i 0) % 2 ^ 64) ∧
            (∀ k, k / 28 ≠ c → t.mtr.acc.getD k 0 = s.mtr.acc.getD k 0) ∧ t.mtr.power.get? c = some (meanPower (lastSecond ((dur, P 0 + P 1 + P 2) :: s.mtr.recent.getD c []))) ∧
            t.mtr.lastWin = s.now ∧ t.mtr.winUp = some s.up ∧ t.mtr.slots = s.mtr.slots ∧
            t.rd Reg.MTR_STAT_BKRUN = 1 ∧ t.rd Reg.MTR_STAT_FUNLOCK = (if x.locked then 0 else 1) ∧
            Only [.mtr] [Reg.MTR_STAT_FUNLOCK, Reg.MTR_STAT_BKRUN, Reg.MTR_FREQ_FREQ] s t) ∧
          (Reportable s → Roomy s →
            (∀ st ns j sl est, c ∉ s.mtr.gapDue → s.mtr.inval.get? c = some (st, ns) → ns < 2 ^ 50 → newestSlot s.mtr = some (j, sl) →
              est = ofS 32 (clampI (-2 ^ 31) (2 ^ 31 - 1) ((sl.power.getD c 0 * (ns / 1000000 : Nat)).tdiv 3600000)) →
              Completes (.meterWindowEnd dur freq spans) s fun t => Logged s t 4 Ev.METER_GAP [c + 256, ns / 1000000, est] ∧ t.rd Reg.MTR_EVT_GAP = 1 ∧
                Reported s t 0x0A02 0 (pack [(1, c), (3, 0), (8, s.tai), (1, 1), (1, 0), (2, 0), (4, ns / 1000000), (4, est), (4, sl.seq % 2 ^ 32)]) ∧
                t.mtr.inval.get? c = none ∧ t.rd Reg.MTR_STAT_BKRUN = 1 ∧ Parts [.mtr, .mbx, .recs] s t) ∧
            ∀ sl ms lower est, s.mtr.restored = some sl → c ∈ s.mtr.gapDue → s.mtr.inval.get? c = none → lower = (sl.qual == 0 || s.qual == 0) →
              ms = (if lower then (s.opsec - sl.opsec) * 1000 else (s.now - dur - sl.at_) / 1000000) → ms < 2 ^ 32 →
              est = ofS 32 (clampI (-2 ^ 31) (2 ^ 31 - 1) ((sl.power.getD c 0 * ms).tdiv 3600000)) →
              Completes (.meterWindowEnd dur freq spans) s fun t => Logged s t 4 Ev.METER_GAP [c + 65536 * b2n lower, ms, est] ∧ t.rd Reg.MTR_EVT_GAP = 1 ∧
                Reported s t 0x0A02 0 (pack [(1, c), (3, 0), (8, s.tai), (1, 0), (1, b2n lower), (2, 0), (4, ms), (4, est), (4, sl.seq % 2 ^ 32)]) ∧
                c ∉ t.mtr.gapDue ∧ Parts [.mtr, .mbx, .recs] s t)) ∧
        (w.ok = false → ∀ st ns, s.mtr.inval.getD c (s.now - dur, 0) = (st, ns) →
          Completes (.meterWindowEnd dur freq spans) s fun t =>
            t.mtr = { (freqWindow s x).mtr with inval := s.mtr.inval.set c (st, ns + dur), lastWin := s.now, winUp := some s.up, vals := t.mtr.vals, agg := t.mtr.agg } ∧
            Counted s t Reg.MTR_CNT_INVWIN ∧ t.rd Reg.MTR_STAT_BKRUN = 0 ∧
            Only [.mtr] [Reg.MTR_STAT_FUNLOCK, Reg.MTR_STAT_BKRUN, Reg.MTR_FREQ_FREQ, Reg.MTR_CNT_INVWIN] s t)) ∧
      (∀ dur freq spans (x : Win) (w : PointWin), circuits s = [] → formWin s dur freq spans = some x → x.pts = [w] → mpKind s w.mp = 2 → w.mp < 8 →
        Completes (.meterWindowEnd dur freq spans) s fun t =>
        t.rd Reg.MTR_FREQ_FREQ = (if x.locked then min freq 100000 else 0) ∧ t.rd Reg.MTR_STAT_FUNLOCK = (if x.locked then 0 else 1) ∧
        (s.mtr.lastWin / 10000000000 = s.now / 10000000000 → t.mtr.freqs = s.mtr.freqs ++ (if x.locked then [freq] else []) ∧ t.mtr.freq10 = s.mtr.freq10) ∧
        (s.mtr.lastWin / 10000000000 ≠ s.now / 10000000000 → t.mtr.freqs = (if x.locked then [freq] else []) ∧ t.mtr.freq10 = s.mtr.freqs.sum / max 1 s.mtr.freqs.length) ∧
        (∃ v, t.mtr.vals.get? w.mp = some v ∧ v.stamp = s.now ∧ v.freq = (if x.locked then freq else 0) ∧ v.rms = padTo 4 0 w.rms ∧ v.p = [0, 0, 0] ∧
          v.thd = padTo 4 0 w.thd ∧ v.flags % 2 = (if x.locked then 0 else 1)) ∧ t.mtr.acc = s.mtr.acc ∧
        Only [.mtr] [Reg.MTR_STAT_FUNLOCK, Reg.MTR_STAT_BKRUN, Reg.MTR_FREQ_FREQ] s t) ∧
      (s.now < s.mtr.lastSave + (sec0A s).saveper * 1000000000 ∨ s.mtr.winUp ≠ some s.up → Completes .meterSave s fun t => Only [] [] s t) ∧
      (∀ j sl, s.mtr.lastSave + (sec0A s).saveper * 1000000000 ≤ s.now → s.mtr.winUp = some s.up → newestSlot s.mtr = some (j, sl) → Completes .meterSave s fun t =>
        (∃ n, t.mtr.slots.get? (1 - j) = some n ∧ n.acc = s.mtr.acc ∧ n.at_ = s.now ∧ n.qual = s.qual ∧ n.opsec = s.opsec ∧ n.power = s.mtr.power ∧ n.seq = sl.seq + 1) ∧
        (∀ i, i ≠ 1 - j → t.mtr.slots.get? i = s.mtr.slots.get? i) ∧ t.mtr.acc = s.mtr.acc ∧ t.mtr.lastSave = s.now ∧ Counted s t Reg.MTR_CNT_SAVES ∧
        Only [.mtr] [Reg.MTR_CNT_SAVES] s t) ∧
      (tenMin s = s.mtr.intAt → Completes .meterIntervalEnd s fun t => Only [] [] s t) ∧
      (∀ c (twoHour : Bool) a, circuits s = [c] → tenMin s ≠ s.mtr.intAt → twoHour = decide (tenMin s / 12 ≠ s.mtr.intAt / 12) → Reportable s → s.mtr.agg.get? (16 + c) = some a → a.n ≠ 0 → s.mtr.agg.get? (8 + c) = none →
        Completes .meterIntervalEnd s fun t => t.mtr.intAt = tenMin s ∧ t.mtr.vals.get? (16 + c) = some (aggClose s a) ∧ t.mtr.agg.get? (16 + c) = none ∧ t.mtr.base = s.mtr.acc ∧
          t.mtr.acc = s.mtr.acc ∧ t.mtr.slots = s.mtr.slots ∧
          Reported s t 0x0A01 1 (pack ([(1, c), (3, 0), (8, s.tai), (2, (aggClose s a).flags), (2, 0)] ++ (List.range 7).map fun i => (4, totalDelta s.mtr c i))) ∧
          (s.fuses.arch = true → s.cfg.secs.s0c.isSome = true → t.arc.staged = s.arc.staged ++
            (if twoHour then [16, 24] else [16]).flatMap fun i => ((List.range 8).filter fun p => mpKind s p ≠ 0).map fun p =>
              ⟨1, 0, 0, s.now, mtrChans p (t.mtr.vals.getD (i + p) {}), []⟩) ∧
          (s.fuses.arch = false → t.arc = s.arc) ∧ Only [.mtr, .mbx, .arc] [Reg.MBX_RPTPI] s t) ∧
      (s.now / 200000000 ≤ s.mtr.supAt → ∀ l, Completes (.supraWindowEnd l) s fun t => Only [] [] s t) ∧
      ∀ p : ModSpan, s.mtr.supAt < s.now / 200000000 → p.ch < 32 → mpKind s (p.ch / 4) ≠ 0 → Completes (.supraWindowEnd [p]) s fun t =>
        (∃ b, t.mtr.bands.get? p.ch = some (s.now, 0, b) ∧ b.length = 740 ∧
          ∀ n, n < 740 → b.getD n 0 = if bandAbsent s n then 0xFFFF else min 0xFFFE (bandValue s p n)) ∧
        t.mtr.supAt = s.now / 200000000 ∧ Only [.mtr] [] s t)

/-- Each refuses operands outside its ranges with BAD_PARAM and a point of the wrong kind with NO_POINT. MTR_READ gives the window's end and the 28
accumulators of the circuit; MTR_VALUES, MTR_HARM and MTR_SUPRA the values of the interval with the flag UNCAL where it holds; MTR_CAL_TRIAL puts the
constants into the running configuration; MTR_SAVE_NOW and MTR_CAL_MEASURE wait for window ends. A second measurement is answered CAL_BUSY. The last
window wanted answers with the means; a window that fails starts the count again, and after three times as many the answer is UNSTABLE. Rows shown to
complete with their effect (`Completes`): mtrRead, mtrValues, mtrHarm, mtrSupra, mtrCalMeasure, meterWindowEnd, mtrCalTrial, mtrSaveNow. -/
def Obligations.MeteringCommands : Prop :=
  ∀ (s : State) (tag : Nat),
    (Takes s 0x0A01 → ∀ c,
      (8 ≤ c → Denied (.mtrRead tag c) s 0x0A01 tag St.BAD_PARAM) ∧ (c < 8 → mpKind s c ≠ 1 → Denied (.mtrRead tag c) s 0x0A01 tag 0x80) ∧
      (c < 8 → mpKind s c = 1 → Completes (.mtrRead tag c) s fun t =>
        Answers s t 0x0A01 tag 0 s.tai (le 8 s.mtr.lastWin ++ (List.range 28).flatMap fun i => le 8 (s.mtr.acc.getD (28 * c + i) 0)) ∧ Only [.mbx] [Reg.MBX_RSPPI] s t)) ∧
    (∀ mp intv (v : MtrVals) fl, v = s.mtr.vals.getD (8 * intv + mp) {} → fl = v.flags ||| (if s.rd Reg.MTR_STAT_UNCAL = 1 then 32 else 0) →
      (Takes s 0x0A02 →
        (8 ≤ mp ∨ 4 ≤ intv → Denied (.mtrValues tag mp intv) s 0x0A02 tag St.BAD_PARAM) ∧
        (mp < 8 → intv < 4 → mpKind s mp = 0 → Denied (.mtrValues tag mp intv) s 0x0A02 tag 0x80) ∧
        (mp < 8 → intv < 4 → mpKind s mp ≠ 0 → Completes (.mtrValues tag mp intv) s fun t =>
          Answers s t 0x0A02 tag 0 s.tai (le 8 v.stamp ++ le 2 fl ++ le 4 v.freq ++ ((padTo 4 0 v.rms).flatMap fun x => le 4 x) ++
            ((padTo 3 0 v.p).flatMap fun x => le 4 (ofS 32 x)) ++ (padTo 3 0 v.q).flatMap fun x => le 4 (ofS 32 x)) ∧ Only [.mbx] [Reg.MBX_RSPPI] s t)) ∧
      (Takes s 0x0A03 → ∀ ch,
        (8 ≤ mp ∨ 4 ≤ ch ∨ 4 ≤ intv → Denied (.mtrHarm tag mp ch intv) s 0x0A03 tag St.BAD_PARAM) ∧
        (mp < 8 → ch < 4 → intv < 4 → mpKind s mp = 0 → Denied (.mtrHarm tag mp ch intv) s 0x0A03 tag 0x80) ∧
        (mp < 8 → ch < 4 → intv < 4 → mpKind s mp ≠ 0 → Completes (.mtrHarm tag mp ch intv) s fun t =>
          Answers s t 0x0A03 tag 0 s.tai (le 8 v.stamp ++ le 2 fl ++ le 2 (v.thd.getD ch 0) ++ (padTo 64 0 (v.harm.getD ch [])).flatMap fun x => le 2 x) ∧
          Only [.mbx] [Reg.MBX_RSPPI] s t))) ∧
    (Takes s 0x0A04 → ∀ mp ch intv first count,
      (count = 0 ∨ 112 < count ∨ 740 < first + count ∨ 8 ≤ mp ∨ 4 ≤ ch ∨ 4 ≤ intv → Denied (.mtrSupra tag mp ch intv first count) s 0x0A04 tag St.BAD_PARAM) ∧
      (0 < count → count ≤ 112 → first + count ≤ 740 → mp < 8 → ch < 4 → intv < 4 →
        (mpKind s mp = 0 → Denied (.mtrSupra tag mp ch intv first count) s 0x0A04 tag 0x80) ∧
        ∀ at_ fl l, mpKind s mp ≠ 0 → s.mtr.bands.get? (32 * intv + 4 * mp + ch) = some (at_, fl, l) → Completes (.mtrSupra tag mp ch intv first count) s fun t =>
          Answers s t 0x0A04 tag 0 s.tai (le 8 at_ ++ le 2 (fl ||| (if s.rd Reg.MTR_STAT_UNCAL = 1 then 32 else 0)) ++ zeros 2 ++
            (List.range count).flatMap fun i => le 2 (l.getD (first + i) 0)) ∧ Only [.mbx] [Reg.MBX_RSPPI] s t)) ∧
    (Takes s 0x0A05 → ∀ ch mode refch windows,
      (32 ≤ ch ∨ mode = 0 ∨ 3 < mode ∨ 32 ≤ refch ∨ windows < 10 ∨ 250 < windows → Denied (.mtrCalMeasure tag ch mode refch windows) s 0x0A05 tag St.BAD_PARAM) ∧
      (ch < 32 → 1 ≤ mode → mode ≤ 3 → refch < 32 → 10 ≤ windows → windows ≤ 250 →
        (mpKind s (ch / 4) = 0 ∨ (mode = 3 ∧ mpKind s (refch / 4) = 0) → Denied (.mtrCalMeasure tag ch mode refch windows) s 0x0A05 tag 0x80) ∧
        (mpKind s (ch / 4) ≠ 0 → (mode = 3 → mpKind s (refch / 4) ≠ 0) →
          (∀ m, s.mtr.meas = some m → Denied (.mtrCalMeasure tag ch mode refch windows) s 0x0A05 tag 0x81) ∧
          (s.mtr.meas = none → Completes (.mtrCalMeasure tag ch mode refch windows) s fun t =>
            t.mtr = { s.mtr with meas := some { tag := tag, ch := ch, mode := mode, refch := refch, windows := windows } } ∧
            t.mbx = { s.mbx with prog := s.mbx.prog ++ [(0x0A05, tag)] } ∧ Only [.mtr, .mbx] [] s t)))) ∧
    (∀ (m : Meas) dur freq spans (x : Win) (w : MeasWin), s.mtr.meas = some m → (0x0A05, m.tag) ∈ s.mbx.prog → backEnd s = true → circuits s = [] →
      s.mtr.saveTags = [] → 5 ∉ s.cfg.due → formWin s dur freq spans = some x → x.meas = some w →
      (w.ok = true → m.got.length + 1 < m.windows → m.seen + 1 < 3 * m.windows → Completes (.meterWindowEnd dur freq spans) s fun t =>
        t.mtr = { (freqWindow s x).mtr with lastWin := s.now, winUp := some s.up, vals := t.mtr.vals, agg := t.mtr.agg, meas := some { m with seen := m.seen + 1, got := m.got ++ [w] } } ∧ Parts [.mtr] s t) ∧
      (w.ok = true → m.windows = m.got.length + 1 → Completes (.meterWindowEnd dur freq spans) s fun t =>
        Answers s t 0x0A05 m.tag 0 s.tai (le 4 (ofS 32 (meanI ((m.got ++ [w]).map (·.mean)))) ++ le 4 (((m.got ++ [w]).map (·.rms)).sum / m.windows) ++
          le 4 (ofS 32 (meanI ((m.got ++ [w]).map (·.angle)))) ++ le 4 (((m.got ++ [w]).map (·.freq)).sum / m.windows) ++ le 2 m.windows) ∧
        t.mtr.meas = none ∧ Parts [.mtr, .mbx] s t) ∧
      (w.ok = false → 0 < m.windows → m.seen + 1 < 3 * m.windows → Completes (.meterWindowEnd dur freq spans) s fun t =>
        t.mtr = { (freqWindow s x).mtr with lastWin := s.now, winUp := some s.up, vals := t.mtr.vals, agg := t.mtr.agg, meas := some { m with seen := m.seen + 1, got := [] } } ∧ Parts [.mtr] s t) ∧
      (w.ok = false → 0 < m.windows → 3 * m.windows ≤ m.seen + 1 → Completes (.meterWindowEnd dur freq spans) s fun t =>
        Answers s t 0x0A05 m.tag 0x82 s.tai [] ∧ t.mtr.meas = none ∧ Parts [.mtr, .mbx] s t)) ∧
    (Takes s 0x0A06 → ∀ ch gain (ofs delay : Int),
      (32 ≤ ch ∨ ofs < -2 ^ 23 ∨ 2 ^ 23 ≤ ofs ∨ gain < 0x20000000 ∨ 0x60000000 < gain ∨ delay < -50000 ∨ 50000 < delay →
        Denied (.mtrCalTrial tag ch ofs gain delay) s 0x0A06 tag St.BAD_PARAM) ∧
      (ch < 32 → -2 ^ 23 ≤ ofs → ofs < 2 ^ 23 → 0x20000000 ≤ gain → gain ≤ 0x60000000 → -50000 ≤ delay → delay ≤ 50000 →
        (mpKind s (ch / 4) = 0 → Denied (.mtrCalTrial tag ch ofs gain delay) s 0x0A06 tag 0x80) ∧
        (mpKind s (ch / 4) ≠ 0 → Completes (.mtrCalTrial tag ch ofs gain delay) s fun t => Answers s t 0x0A06 tag 0 s.tai [] ∧
          (∃ x, t.mtr.trial.get? ch = some x ∧ x.ofs = ofs ∧ x.gain = gain ∧ x.delay = delay) ∧ (∀ n, n ≠ ch → t.mtr.trial.get? n = s.mtr.trial.get? n) ∧
          t.mtr.acc = s.mtr.acc ∧ t.cfg = { s.cfg with edited := s.cfg.edited ++ [10] } ∧ Only [.mtr, .mbx, .cfg] [Reg.MBX_RSPPI] s t))) ∧
    (Takes s 0x0A07 → Completes (.mtrSaveNow tag) s fun t => t.mtr = { s.mtr with saveTags := s.mtr.saveTags ++ [tag] } ∧
      t.mbx = { s.mbx with prog := s.mbx.prog ++ [(0x0A07, tag)] } ∧ Only [.mtr, .mbx] [] s t)

/-- A record posted while its log is defined and the ingress buffer holds fewer than 1,008 goes to its end with the time of the event; a full buffer
counts it; a half without LEASH is not heard in L1. A lane event takes a slot, and with all 64 taken joins the slot of its code and source. A commit
takes the lane's oldest record, then the ingress buffer's, gives it the log's next number and place, and copies it; the LOG_APPEND that posted it is
answered. A log that coalesces opens an entry at the first record of a key, counts the further ones, and commits their summary at the window's end. A
count of lost records becomes a LOST record of its log. An area that fails is replaced by a spare; without one the ring gives up an area. Rows shown
to complete with their effect (`Completes`): recordPost, laneEvent, recordCommit, coalesceWindowEnd, logAreaSubst. -/
def Obligations.RecorderWorks : Prop :=
  ∀ s : State,
    (∀ dom log code inst par, dom < 7 → s.runs dom = true → code ∉ laneCodes → (s.log log).defd = true →
      (log = 1 → ∀ h, dom = 2 + h → h < 2 → s.lead ≠ some h → Completes (.recordPost dom log code inst par) s fun t => Counted s t Reg.EVR_CNT_NOTLEAD ∧
        Only [] [Reg.EVR_CNT_NOTLEAD] s t) ∧
      (log ≠ 1 ∨ (dom ≠ 2 ∧ dom ≠ 3) ∨ s.lead = some (dom - 2) →
        (s.recs.ingress.length < 1008 → Completes (.recordPost dom log code inst par) s fun t => (∃ p, t.recs = { s.recs with ingress := s.recs.ingress ++ [p] } ∧ p.log = log ∧
          p.rcd.code = code % 65536 ∧ p.rcd.source = dom * 8192 + inst % 4096 ∧ p.rcd.par0 = par.getD 0 0 % 2 ^ 32 ∧ p.rcd.par1 = par.getD 1 0 % 2 ^ 32 ∧
          p.rcd.par2 = par.getD 2 0 % 2 ^ 32 ∧ p.rcd.rep = 1 ∧ p.rcd.hw = false ∧
          ((s.log log).cal = true → s.qual ≠ 0 → p.rcd.stamp = .cal s.now s.qual) ∧
          ((s.log log).cal = false ∨ s.qual = 0 → p.rcd.stamp = .op s.opsec (s.rd Reg.RTC_PCYC_PCYC) s.qual)) ∧ Only [.recs] [] s t) ∧
        (1008 ≤ s.recs.ingress.length → Completes (.recordPost dom log code inst par) s fun t => Counted s t (Reg.EVR_LOG_LOST_LOST log) ∧
          (∃ q d, t.recs = { s.recs with lostLog := s.recs.lostLog.set log (((s.recs.lostLog.get? log).map (·.1)).getD 0 + 1, q, d) }) ∧
          Only [.recs] [Reg.EVR_LOG_LOST_LOST log] s t))) ∧
    (∀ code source par,
      (code ∉ laneCodes → Completes (.laneEvent code source par) s fun t => Only [] [] s t) ∧
      (code ∈ laneCodes → source < 65536 →
        (s.recs.lane.length < 64 → Completes (.laneEvent code source par) s fun t => (∃ p, t.recs = { s.recs with lane := s.recs.lane ++ [p] } ∧ p.log = 0 ∧ p.rcd.code = code ∧
          p.rcd.source = source ∧ p.rcd.hw = true ∧ p.rcd.rep = 1 ∧ p.rcd.par0 = par.getD 0 0 % 2 ^ 32) ∧ Only [.recs] [] s t) ∧
        (s.recs.lane.length = 64 →
          (∀ a p b, s.recs.lane = a ++ p :: b → (∀ q ∈ a, ¬(q.rcd.code = code ∧ q.rcd.source = source)) → p.rcd.code = code → p.rcd.source = source →
            Completes (.laneEvent code source par) s fun t =>
              t.recs = { s.recs with lane := a ++ { p with rcd := { p.rcd with rep := min 0xFFFF (p.rcd.rep + 1), coal := true } } :: b } ∧
              t.rd Reg.EVR_EVT_LANEFULL = 1 ∧ Only [.recs] [Reg.EVR_EVT_LANEFULL] s t) ∧
          ((∀ q ∈ s.recs.lane, ¬(q.rcd.code = code ∧ q.rcd.source = source)) → Completes (.laneEvent code source par) s fun t =>
            t.recs.laneLost.1 = s.recs.laneLost.1 + 1 ∧ t.recs.lane = s.recs.lane ∧ Counted s t (Reg.EVR_LOG_LOST_LOST 0) ∧
            t.rd Reg.EVR_EVT_LANEFULL = 1 ∧ Only [.recs] [Reg.EVR_EVT_LANEFULL, Reg.EVR_LOG_LOST_LOST 0] s t)))) ∧
    (NoneLost s →
      (∀ p l, s.recs.lane = p :: l → (s.log p.log).defd = true → Completes .recordCommit s fun t => Committed s t p.log p.rcd ∧ Copied s t p.log p.rcd ∧
        t.recs.lane = l ∧ t.recs.ingress = s.recs.ingress ∧ t.recs.coal = s.recs.coal ∧ Parts [.recs, .mbx, .arc] s t) ∧
      (∀ p l, s.recs.lane = [] → s.recs.ingress = p :: l → (s.log p.log).defd = true →
        ((s.log p.log).coalw = 0 → p.tag = none → Completes .recordCommit s fun t => Committed s t p.log p.rcd ∧ Copied s t p.log p.rcd ∧ t.recs.ingress = l ∧
          t.recs.coal = s.recs.coal ∧ Parts [.recs, .mbx, .arc] s t) ∧
        (∀ tag, (s.log p.log).coalw = 0 → p.tag = some tag → (0x0B04, tag) ∈ s.mbx.prog → Completes .recordCommit s fun t => Committed s t p.log p.rcd ∧
          Answers s t 0x0B04 tag 0 s.tai (le 4 (nextSeq (s.log p.log).seq)) ∧ t.recs.ingress = l ∧ Parts [.recs, .mbx, .arc] s t) ∧
        ((s.log p.log).coalw ≠ 0 → p.rcd.code ≠ Ev.LOST → p.tag = none →
          (coalFind s p.log p.rcd.code p.rcd.source p.rcd.par0 = none → s.recs.coal.length < 256 → Completes .recordCommit s fun t => Committed s t p.log p.rcd ∧
            (∃ e, coalFind t p.log p.rcd.code p.rcd.source p.rcd.par0 = some e ∧ e.count = 0 ∧ e.stop = p.time + (s.log p.log).coalw * 1000000000) ∧
            t.recs.ingress = l ∧ Parts [.recs, .mbx, .arc] s t) ∧
          (coalFind s p.log p.rcd.code p.rcd.source p.rcd.par0 = none → 256 ≤ s.recs.coal.length → Completes .recordCommit s fun t => Committed s t p.log p.rcd ∧
            t.recs.coal = s.recs.coal ∧ Counted s t Reg.EVR_CNT_COALFULL ∧ Parts [.recs, .mbx, .arc] s t) ∧
          (∀ e, coalFind s p.log p.rcd.code p.rcd.source p.rcd.par0 = some e → p.time < e.stop → e.count + 1 < 0xFFFF → Completes .recordCommit s fun t =>
            (∃ e', coalFind t p.log p.rcd.code p.rcd.source p.rcd.par0 = some e' ∧ e'.count = e.count + 1 ∧ e'.stop = e.stop ∧ e'.last = p.rcd) ∧
            (∀ n, t.log n = s.log n) ∧ t.recs.ingress = l ∧ Only [.recs] [] s t)))) ∧
    (∀ n cnt q dom, s.recs.lostLog = [(n, (cnt, q, dom))] → s.recs.lostDom = [] → s.recs.laneLost = (0, 0) → s.recs.lane = [] → s.recs.ingress = [] →
      (s.log n).defd = true → dom < 7 → Completes .recordCommit s fun t => (∃ r : Rec, Committed s t n r ∧ r.code = Ev.LOST ∧ r.source = dom * 8192 ∧
        r.par0 = cnt % 2 ^ 32 ∧ r.par1 = n % 2 ^ 32 ∧ r.par2 = q % 2 ^ 32) ∧ t.rd Reg.EVR_EVT_LOST = 1 ∧ NoneLost t ∧ Parts [.recs, .mbx, .arc] s t) ∧
    (∀ log code source par0 (e : Coal), coalFind s log code source par0 = some e → (s.log log).defd = true →
      (s.now < e.stop → Completes (.coalesceWindowEnd log code source par0) s fun t => Only [] [] s t) ∧
      (e.stop ≤ s.now → e.count = 0 → Completes (.coalesceWindowEnd log code source par0) s fun t => coalFind t log code source par0 = none ∧ (∀ n, t.log n = s.log n) ∧
        Only [.recs] [] s t) ∧
      (e.stop ≤ s.now → 0 < e.count → e.last.code ≠ Ev.LOST → Completes (.coalesceWindowEnd log code source par0) s fun t =>
        Committed s t log { e.last with rep := min 0xFFFF e.count, coal := true, restored := false } ∧
        (∃ e', coalFind t log code source par0 = some e' ∧ e'.count = 0 ∧ e'.stop = e.stop + (s.log log).coalw * 1000000000) ∧ Parts [.recs, .mbx, .arc] s t)) ∧
    ∀ log firsts area, (s.log log).defd = true →
      (s.margin 8 = 0 → 2048 < (s.log log).ringCap → Completes (.logAreaSubst log firsts area []) s fun t =>
        (t.log log).ringCap = (s.log log).ringCap - 2048 ∧ (t.log log).areas = (s.log log).areas - 1 ∧ (t.log log).firsts = (s.log log).firsts ∧
        (t.log log).ring.length ≤ (s.log log).ringCap - 2048 ∧ Only [.recs] [] s t) ∧
      (0 < s.margin 8 → s.margin 8 ≤ 4 → s.sup.tally.length < 8192 → s.recs.lane.length < 64 → (s.log 0).defd = true → Completes (.logAreaSubst log firsts area []) s fun t =>
        t.margin 8 = s.margin 8 - 1 ∧ t.rd Reg.EVR_EVT_AREASUB = 1 ∧ Logged s t 0 Ev.LOG_AREA_SUBST [log, area] ∧
        (∃ r, t.sup.tally = s.sup.tally ++ [r] ∧ r.kind = 1 ∧ r.cls = 8 ∧ r.failed = area ∧ r.margin = s.margin 8 - 1) ∧
        (t.log log).firsts = (s.log log).firsts ∧ (t.log log).ring = (s.log log).ring ∧ Parts [.recs, .sup] s t)

/-- A log number outside the command's range is answered BAD_PARAM, an undefined log NO_LOG. LOG_INFO gives the log's ends and counts. LOG_READ gives the
records at or above FROM, COUNT at most, and the next number; one whose CRC fails comes with its stored CRC, and is recorded once. LOG_CLEAR with UPTO
after the newest number is answered BAD_PARAM; an open log, and an authorised one with a good signature and its clear counter plus 1, loses the
records up to UPTO; else AUTH_FAIL or BAD_COUNTER, with LOG_CLEAR_DENIED. LOG_APPEND posts a host's record, and is answered BUSY while the buffer is
full. Rows shown to complete with their effect (`Completes`): logInfo, logRead, logClear, logAppend. -/
def Obligations.LogCommands : Prop :=
  ∀ (s : State) (tag log : Nat),
    (Takes s 0x0B01 →
      (15 < log → Denied (.logInfo tag log) s 0x0B01 tag St.BAD_PARAM) ∧ (log ≤ 15 → (s.log log).defd = false → Denied (.logInfo tag log) s 0x0B01 tag 0x82) ∧
      (log ≤ 15 → (s.log log).defd = true → Completes (.logInfo tag log) s fun t =>
        Answers s t 0x0B01 tag 0 s.tai (le 4 (((s.log log).firsts.head?.map (·.seq)).getD 0) ++ le 4 (((s.log log).firsts.getLast?.map (·.seq)).getD 0) ++
          le 4 (((s.log log).ring.head?.map (·.seq)).getD 0) ++ le 4 (((s.log log).ring.getLast?.map (·.seq)).getD 0) ++ le 4 (s.rd (Reg.EVR_LOG_LOST_LOST log)) ++
          le 4 (s.log log).ccnt ++ le 2 (s.log log).areas ++ le 2 (s.log log).coalw) ∧ Only [.mbx] [Reg.MBX_RSPPI] s t)) ∧
    (Takes s 0x0B02 → ∀ frm count,
      (count = 0 ∨ 7 < count ∨ 15 < log → Denied (.logRead tag log frm count) s 0x0B02 tag St.BAD_PARAM) ∧
      (0 < count → count ≤ 7 → log ≤ 15 → (s.log log).defd = false → Denied (.logRead tag log frm count) s 0x0B02 tag 0x82) ∧
      (0 < count → count ≤ 7 → log ≤ 15 → (s.log log).defd = true →
        (∀ l, (s.log log).bad = [] → ((s.log log).firsts ++ (s.log log).ring).Pairwise (fun a b => seqGe b.seq a.seq = true) →
          l = (((s.log log).firsts ++ (s.log log).ring).filter fun r => seqGe r.seq frm).take count → Completes (.logRead tag log frm count) s fun t =>
            Answers s t 0x0B02 tag 0 s.tai (le 4 ((l.getLast?.map fun r => nextSeq r.seq).getD frm) ++ le 1 l.length ++ zeros 3 ++ l.flatMap recBytes) ∧
            Only [.mbx] [Reg.MBX_RSPPI] s t) ∧
        (∀ r, (s.log log).firsts = [] → (s.log log).ring = [r] → (s.log log).bad = [r.seq] → (s.log log).crcSeen = [] → seqGe r.seq frm = true → Roomy s →
          Completes (.logRead tag log frm count) s fun t => (∃ x : Byte, x ≠ BitVec.ofNat 8 (crc8 (recBody r)) ∧
            Answers s t 0x0B02 tag 0 s.tai (le 4 (nextSeq r.seq) ++ le 1 1 ++ zeros 3 ++ recBody r ++ [x])) ∧ t.rd Reg.EVR_EVT_CRCERR = 1 ∧
            Logged s t 0 Ev.LOG_CRC_ERROR [log, r.seq] ∧ Only [.recs, .mbx, .free] [Reg.EVR_EVT_CRCERR, Reg.MBX_RSPPI] s t))) ∧
    (Takes s 0x0B03 → ∀ upto ccnt sig,
      (15 < log → Denied (.logClear tag log upto ccnt sig) s 0x0B03 tag St.BAD_PARAM) ∧
      (log ≤ 15 → (s.log log).defd = false → Denied (.logClear tag log upto ccnt sig) s 0x0B03 tag 0x82) ∧
      (log ≤ 15 → (s.log log).defd = true →
        (seqGe (s.log log).seq upto = false → Denied (.logClear tag log upto ccnt sig) s 0x0B03 tag St.BAD_PARAM) ∧
        (seqGe (s.log log).seq upto = true → Roomy s →
          ((s.log log).auth = false ∨ (sig = true ∧ s.key.owner ≠ [] ∧ ccnt = ((s.log log).ccnt + 1) % 2 ^ 32) → log ≠ 3 → Completes (.logClear tag log upto ccnt sig) s fun t =>
            Answers s t 0x0B03 tag 0 s.tai [] ∧ (t.log log).firsts = ((s.log log).firsts.filter fun r => !seqGe upto r.seq) ∧
            (t.log log).ring = ((s.log log).ring.filter fun r => !seqGe upto r.seq) ∧ (t.log log).ccnt = ((s.log log).ccnt + 1) % 2 ^ 32 ∧ (t.log log).seq = (s.log log).seq ∧
            (∀ n, n ≠ log → t.log n = s.log n) ∧ t.rd Reg.EVR_EVT_CLEARED = 1 ∧ Logged s t 3 Ev.LOG_CLEARED [log, upto, ccnt] ∧
            Only [.recs, .mbx] [Reg.EVR_EVT_CLEARED, Reg.MBX_RSPPI] s t) ∧
          (log = 3 → (s.log 3).auth = true → sig = true → s.key.owner ≠ [] → ccnt = ((s.log 3).ccnt + 1) % 2 ^ 32 → 0 < (s.log 3).firstsCap →
            (∀ r ∈ (s.log 3).firsts ++ (s.log 3).ring, seqGe upto r.seq = true) → Completes (.logClear tag log upto ccnt sig) s fun t =>
              Answers s t 0x0B03 tag 0 s.tai [] ∧ (∃ r, (t.log 3).firsts = [r] ∧ r.code = Ev.LOG_CLEARED ∧ r.seq = nextSeq (s.log 3).seq ∧ r.par0 = 3 ∧
                r.par1 = upto % 2 ^ 32 ∧ r.par2 = ccnt % 2 ^ 32) ∧ (t.log 3).ring = [] ∧ t.rd Reg.EVR_EVT_CLEARED = 1 ∧ Parts [.recs, .mbx, .arc] s t) ∧
          ((s.log log).auth = true → (sig = false ∨ s.key.owner = [] → Completes (.logClear tag log upto ccnt sig) s fun t => Answers s t 0x0B03 tag 0x80 s.tai [] ∧
              Logged s t 3 Ev.LOG_CLEAR_DENIED [log, ccnt] ∧ (∀ n, t.log n = s.log n) ∧ Only [.recs, .mbx] [Reg.MBX_RSPPI] s t) ∧
            (sig = true → s.key.owner ≠ [] → ccnt ≠ ((s.log log).ccnt + 1) % 2 ^ 32 → Completes (.logClear tag log upto ccnt sig) s fun t =>
              Answers s t 0x0B03 tag 0x81 s.tai [] ∧ Logged s t 3 Ev.LOG_CLEAR_DENIED [log, ccnt] ∧ (∀ n, t.log n = s.log n) ∧
              Only [.recs, .mbx] [Reg.MBX_RSPPI] s t))))) ∧
    (Takes s 0x0B04 → ∀ code par,
      (code < 0xF000 ∨ 0xFFFF < code ∨ log < 9 ∨ 15 < log → Denied (.logAppend tag log code par) s 0x0B04 tag St.BAD_PARAM) ∧
      (0xF000 ≤ code → code ≤ 0xFFFF → 9 ≤ log → log ≤ 15 →
        ((s.log log).defd = false → Denied (.logAppend tag log code par) s 0x0B04 tag 0x82) ∧
        ((s.log log).defd = true → 1008 ≤ s.recs.ingress.length → Denied (.logAppend tag log code par) s 0x0B04 tag St.BUSY) ∧
        ((s.log log).defd = true → s.recs.ingress.length < 1008 → Completes (.logAppend tag log code par) s fun t =>
          (∃ p, t.recs = { s.recs with ingress := s.recs.ingress ++ [p] } ∧ p.log = log ∧ p.tag = some tag ∧ p.rcd.code = code ∧
            p.rcd.par0 = par.getD 0 0 % 2 ^ 32 ∧ p.rcd.par1 = par.getD 1 0 % 2 ^ 32 ∧ p.rcd.par2 = par.getD 2 0 % 2 ^ 32) ∧
          t.mbx = { s.mbx with prog := s.mbx.prog ++ [(0x0B04, tag)] } ∧ Only [.recs, .mbx] [] s t)))

/-- In an archive X module with section 0x0C: a checked real sample of the lead, one for each sample time of a subscription in SVMASK, is staged as it
came, before later ones; at 90 % of staging it opens a gap instead, and the first one accepted after that ends it; the first sample after a start
tells the gap since the last one kept. A chunk goes to the open extent of its stream, or to a new one behind its header, coded and sealed under
ARKSLOT, within ARCBW over any second; without the key nothing is written and ARC_KEY_LOST is recorded. A sealed extent takes no more and carries its
index; an apply that waits for an extent's end takes section 0x0C there; below RESERVE the oldest tier 1 extent goes, and with nothing to free the
archive is FULL. The archive comes online with its open extents sealed. A failed namespace is DEGRADED. A trigger opens a window or extends the open
one; at its end it is closed, its samples copied to class 4, and recorded. An old tier 0 extent is replaced by a tier 1 one at DECRATE, unless a DIST
extent made from it is still open. The commands refuse what Table REC-10 rules out, answer from the extents, and write results only into the window's
region. Rows shown to complete with their effect (`Completes`): archiveSamplePost, archiveChunkWrite, extentSeal, arcOnline, arcNsFail, distTrigger,
distWindow, tierDownsample, arcStatus, arcFetch, arcMark, arcDistList, arcComtrade. -/
def Obligations.ArchiveWorks : Prop :=
  ∀ (s : State) (c : Sec0C), s.fuses.arch = true → s.cfg.secs.s0c = some c → s.runs 1 = true →
    (∀ h sub k, h < 2 → sub < 128 → s.rd Reg.ARC_STAT_STATE ≠ 0 →
      (((s.hf h).stream sub).buf.get? k = none → Completes (.archiveSamplePost h sub k) s fun u => Only [] [] s u) ∧
      ∀ (c8 : Sec08) (b : BufSmp) (i : ArcItem), s.s08For h = some c8 → ((s.hf h).stream sub).buf.get? k = some b →
        i = ⟨0, sub, sub, (if ((s.hf h).stream sub).sync then b.stamp else sampleTime c8 k b.stamp), b.raw, []⟩ →
        (s.lead ≠ some h ∨ b.chk ≠ 1 ∨ b.syn = 0xFFFF ∨ bit c.svMask sub = false ∨ (∃ r ∈ s.arc.recent, r.stream = sub ∧ r.t = i.t) →
          Completes (.archiveSamplePost h sub k) s fun u => Only [] [] s u) ∧
        (s.runs (2 + h) = true → s.lead = some h → b.chk = 1 → b.syn ≠ 0xFFFF → bit c.svMask sub = true → (∀ r ∈ s.arc.recent, r.stream = sub → r.t ≠ i.t) →
          (10 * (stagedBytes s + itemSize i) < 9 * 2 ^ 32 → s.arc.shed = false →
            (sub ∉ s.arc.gapSubs → s.arc.resume.get? sub = none → Completes (.archiveSamplePost h sub k) s fun u =>
              u.arc.staged = stageSample i s.arc.staged ∧ ((∀ x ∈ s.arc.staged, x.cls = 0 → x.stream = sub → x.t ≤ i.t) → u.arc.staged = s.arc.staged ++ [i]) ∧
              u.arc.lastT.get? sub = some (max (s.arc.lastT.getD sub 0) i.t) ∧ u.arc.shed = false ∧ u.arc.gaps = s.arc.gaps ∧ Only [.arc] [Reg.ARC_RATE_IN] s u) ∧
            (sub ∈ s.arc.gapSubs → s.arc.resume.get? sub = none → Roomy s → Completes (.archiveSamplePost h sub k) s fun u =>
              u.arc.staged = stageSample i s.arc.staged ∧ sub ∉ u.arc.gapSubs ∧ Logged s u 0 Ev.ARC_GAP [sub, i.t, i.t / 2 ^ 32] ∧ u.rd Reg.ARC_EVT_GAP = 1 ∧
              u.arc.gaps = s.arc.gaps + 1 ∧ Only [.arc, .recs] [Reg.ARC_RATE_IN, Reg.ARC_EVT_GAP] s u) ∧
            (∀ t0, sub ∉ s.arc.gapSubs → s.arc.resume.get? sub = some t0 → Roomy s → Completes (.archiveSamplePost h sub k) s fun u =>
              u.arc.staged = stageSample i s.arc.staged ∧ u.arc.resume.get? sub = none ∧ Logged s u 0 Ev.ARC_GAP [sub, t0 / 1000000000, i.t / 1000000000] ∧
              u.rd Reg.ARC_EVT_GAP = 1 ∧ u.arc.gaps = s.arc.gaps + 1 ∧ Only [.arc, .recs] [Reg.ARC_RATE_IN, Reg.ARC_EVT_GAP] s u)) ∧
          (9 * 2 ^ 32 ≤ 10 * (stagedBytes s + itemSize i) → sub ∉ s.arc.gapSubs → Roomy s → Completes (.archiveSamplePost h sub k) s fun u =>
            u.arc.staged = s.arc.staged ∧ u.arc.shed = true ∧ sub ∈ u.arc.gapSubs ∧ u.arc.gaps = s.arc.gaps + 1 ∧ Logged s u 0 Ev.ARC_GAP [sub, i.t, i.t / 2 ^ 32] ∧
            u.rd Reg.ARC_EVT_GAP = 1 ∧ Only [.arc, .recs] [Reg.ARC_EVT_GAP] s u))) ∧
    (∀ x : ArcItem, s.arc.staged = [x] → itemCost x ≤ 2 ^ 20 - 16 → s.rd Reg.ARC_STAT_STATE = 2 → s.arc.nsFailed = [] → c.nsids ≠ [] → s.rd Reg.PWR_STAT_QUIESCE = 0 →
      2 ^ 20 ≤ s.arc.free →
      (c.arcBw * 1000000 / 2 ^ 20 ≤ (s.arc.writes.filter fun t => decide (s.up < t + 1000000000)).length → Completes .archiveChunkWrite s fun t => Only [] [] s t) ∧
      ((s.arc.writes.filter fun t => decide (s.up < t + 1000000000)).length < c.arcBw * 1000000 / 2 ^ 20 →
        (∀ k, arcKeyOk s = true → s.key.slots.get? c.arkSlot = some k → k.uses = 0xFFFFFFFF → s.arc.shed = false → s.arc.total * c.reserve ≤ (s.arc.free - 2 ^ 21) * 100 →
          (s.arc.extents = [] → Completes .archiveChunkWrite s fun t => ∃ e : Extent, (e.nch, e.rate, e.confrev) = streamMeta s x.cls x.stream [x] ∧ e.ns ∈ c.nsids ∧
            e.keyver = k.ver ∧ e = ⟨s.arc.extno + 1, x.cls, 0, x.stream, e.ns, x.t, x.t, 1, false, false, e.nch, e.rate, e.confrev, e.keyver, []⟩ ∧
            t.arc.extents = [{ e with chunks := 2, data := [[x]] }] ∧ t.arc.extno = e.no ∧
            t.arc.shelf.get? (64 * e.no) = some (chunkZero k.key e) ∧ t.arc.shelf.get? (64 * e.no + 1) = some (sealBytes k.key e 1 (chunkPlain e [x])) ∧
            t.arc.staged = [] ∧ t.arc.free = s.arc.free - 2 ^ 21 ∧ t.rd Reg.ARC_STAT_KEYOK = 1 ∧ Only [.arc] [Reg.ARC_STAT_KEYOK] s t) ∧
          ∀ e, s.arc.extents = [e] → e.isSealed = false → e.failedNs = false → e.cls = x.cls → e.stream = x.stream → e.tier = 0 → e.chunks < 64 →
            Completes .archiveChunkWrite s fun t => t.arc.extents = [{ e with tlast := max e.tlast x.t, chunks := e.chunks + 1, data := e.data ++ [[x]] }] ∧
              t.arc.shelf.get? (64 * e.no + e.chunks) = some (sealBytes k.key e e.chunks (chunkPlain e [x])) ∧ t.arc.staged = [] ∧ t.arc.free = s.arc.free - 2 ^ 20 ∧
              t.rd Reg.ARC_STAT_KEYOK = 1 ∧ Only [.arc] [Reg.ARC_STAT_KEYOK] s t) ∧
        (s.key.slots.get? c.arkSlot = none → s.rd Reg.ARC_STAT_KEYOK = 1 → Roomy s → Completes .archiveChunkWrite s fun t => t.arc = s.arc ∧
          t.rd Reg.ARC_STAT_KEYOK = 0 ∧ t.rd Reg.ARC_EVT_KEYLOST = 1 ∧ Logged s t 0 Ev.ARC_KEY_LOST [] ∧
          Only [.recs] [Reg.ARC_STAT_KEYOK, Reg.ARC_EVT_KEYLOST] s t))) ∧
    (∀ no e, s.rd Reg.ARC_STAT_STATE = 2 → s.arc.stopped = false → (s.arc.extents.find? fun e => e.no = no) = some e → e.isSealed = false → e.failedNs = false →
      (s.arc.total * c.reserve ≤ s.arc.free * 100 →
        (11 ∉ s.cfg.due → Completes (.extentSeal no) s fun t =>
          t.arc = { s.arc with extents := s.arc.extents.map fun e => if e.no = no then { e with isSealed := true } else e
                               shelf := s.arc.shelf.set (64 * no) (chunkZero (((s.key.slots.get? c.arkSlot).map (·.key)).getD 0) { e with isSealed := true }) } ∧
          Only [.arc] [] s t) ∧
        (11 ∈ s.cfg.due → Completes (.extentSeal no) s fun t =>
          t.cfg = { s.cfg with due := s.cfg.due.erase 11, secs := { s.cfg.secs with s0c := s.cfg.next.s0c } } ∧
          t.arc.extents = (s.arc.extents.map fun e => if e.no = no then { e with isSealed := true } else e) ∧ Parts [.arc, .cfg, .recs] s t)) ∧
      (∀ e1 l, 11 ∉ s.cfg.due → s.arc.free * 100 < s.arc.total * c.reserve → s.arc.extents = e1 :: l → e1.isSealed = true → e1.tier = 1 → (∀ e ∈ l, e.no ≠ e1.no) →
        s.arc.total * c.reserve ≤ min s.arc.total (s.arc.free + e1.chunks * 2 ^ 20) * 100 → Completes (.extentSeal no) s fun t =>
          t.arc.extents = (l.map fun e => if e.no = no then { e with isSealed := true } else e) ∧ t.arc.free = min s.arc.total (s.arc.free + e1.chunks * 2 ^ 20) ∧ Only [.arc] [] s t) ∧
      (11 ∉ s.cfg.due → s.arc.free * 100 < s.arc.total * c.reserve → (∀ e ∈ s.arc.extents, e.tier ≠ 1 ∧ e.cls ≠ 1 ∧ e.cls ≠ 2) → Roomy s → Completes (.extentSeal no) s fun t =>
        t.rd Reg.ARC_EVT_FULL = 1 ∧ Logged s t 0 Ev.ARC_FULL [] ∧ t.arc.shed = true ∧ t.arc.free = s.arc.free ∧ Only [.arc, .recs] [Reg.ARC_EVT_FULL] s t)) ∧
    (∀ ms free, s.rd Reg.ARC_STAT_STATE = 1 → s.rd Reg.PWR_STAT_THROTTLE = 0 → c.nsids.length ≤ 64 → Roomy s →
      (free + (s.arc.extents.map (·.chunks)).sum * 2 ^ 20) * c.reserve ≤ free * 100 → Completes (.arcOnline ms free) s fun t =>
        t.rd Reg.ARC_STAT_STATE = 2 ∧ t.rd Reg.ARC_STAT_NSOK = c.nsids.length ∧ t.rd (Reg.SUP_MILE_MS 9) = ms % 2 ^ (Reg.SUP_MILE_MS 9).w ∧
        Logged s t 0 Ev.ARC_ONLINE [] ∧ t.arc.free = free ∧ t.arc.nsFailed = [] ∧
        t.arc.extents = (s.arc.extents.map fun e => { e with isSealed := true, failedNs := false }) ∧ t.arc.resume = s.arc.resume ∧
        Only [.arc, .recs, .sup] [Reg.ARC_STAT_STATE, Reg.ARC_STAT_NSOK, Reg.SUP_MILE_MS 9] s t) ∧
    (∀ nsid, s.rd Reg.ARC_STAT_STATE = 2 → nsid ∈ c.nsids → s.arc.nsFailed = [] → s.rd Reg.PWR_STAT_THROTTLE = 0 → c.nsids.length ≤ 64 → Roomy s →
      Completes (.arcNsFail nsid) s fun t => t.rd Reg.ARC_STAT_STATE = 4 ∧ t.rd Reg.ARC_STAT_NSOK = c.nsids.length - 1 ∧ t.rd Reg.ARC_EVT_NSFAIL = 1 ∧ t.arc.nsFailed = [nsid] ∧
        (∀ e ∈ t.arc.extents, e.ns = nsid → e.failedNs = true) ∧ Logged s t 0 Ev.ARC_NS_FAIL [nsid] ∧
        Only [.arc, .recs] [Reg.ARC_STAT_STATE, Reg.ARC_STAT_NSOK, Reg.ARC_EVT_NSFAIL] s t) ∧
    (∀ t cause, s.rd Reg.ARC_STAT_STATE ≠ 0 → distCause c cause = true → c.pre * 100000000 ≤ t →
      ((∀ w ∈ s.arc.dist, w.closed = true ∨ t < w.start ∨ w.stop < t) → Completes (.distTrigger t cause) s fun u => u.arc = { s.arc with did := s.arc.did + 1, dist := s.arc.dist ++
        [⟨s.arc.did + 1, t, t - c.pre * 100000000, t + c.post * 100000000, cause, false⟩] } ∧ Only [.arc] [] s u) ∧
      (∀ w, s.arc.dist = [w] → w.closed = false → w.start ≤ t → t ≤ w.stop → Completes (.distTrigger t cause) s fun u =>
        u.arc = { s.arc with dist := [{ w with stop := max w.stop (min (t + c.post * 100000000) (w.start + 120000000000)) }] } ∧ Only [.arc] [] s u)) ∧
    (∀ w, s.arc.dist = [w] → w.closed = false →
      (s.now < w.stop → Completes (.distWindow w.did) s fun t => Only [] [] s t) ∧
      (w.stop ≤ s.now → Roomy s → Completes (.distWindow w.did) s fun t => t.arc.dist = [{ w with closed := true }] ∧
        t.arc.staged = s.arc.staged ++ (s.arc.recent.filter fun r => decide (w.start ≤ r.t) && decide (r.t ≤ w.stop)).map (fun r => { r with cls := 4, stream := w.did }) ∧
        Logged s t 0 Ev.DIST_WINDOW [w.did, w.cause] ∧ Only [.arc, .recs] [] s t)) ∧
    (∀ e, (s.arc.extents.find? fun x => x.no = e.no) = some e → s.now ≤ e.tlast + c.fullYrs * 15778800 * 1000000000 ∨ distOpen s e = true →
      Completes (.tierDownsample e.no) s fun t => Only [] [] s t) ∧
    (∀ e l, s.arc.extents = [e] → s.rd Reg.ARC_STAT_STATE = 2 → e.cls = 0 → e.tier = 0 → e.isSealed = true → e.failedNs = false → e.no ≤ s.arc.extno →
      e.tlast + c.fullYrs * 15778800 * 1000000000 < s.now → s.rd Reg.ARC_STAT_KEYOK = 1 → s.rd Reg.PWR_STAT_QUIESCE = 0 → l = packChunks (resampled c.decRate e) →
      s.arc.total * c.reserve ≤ min s.arc.total (s.arc.free - 2 ^ 20 - l.length * 2 ^ 20 + e.chunks * 2 ^ 20) * 100 → Completes (.tierDownsample e.no) s fun t =>
        (∃ x, t.arc.extents = [x] ∧ x.no = s.arc.extno + 1 ∧ x.cls = 0 ∧ x.tier = 1 ∧ x.stream = e.stream ∧ x.ns = e.ns ∧ x.isSealed = true ∧ x.failedNs = false ∧
          x.data = l ∧ x.chunks = 1 + l.length ∧ (c.decRate ≠ 0 → x.rate = c.decRate)) ∧ t.arc.extno = s.arc.extno + 1 ∧
        t.arc.free = min s.arc.total (s.arc.free - 2 ^ 20 - l.length * 2 ^ 20 + e.chunks * 2 ^ 20) ∧ Only [.arc] [] s t) ∧
    ∀ tag,
      (Takes s 0x0C01 → Completes (.arcStatus tag) s fun t => Answers s t 0x0C01 tag 0 s.tai (le 1 (s.rd Reg.ARC_STAT_STATE) ++ le 1 (s.rd Reg.ARC_STAT_NSOK) ++ zeros 2 ++
        le 8 s.arc.free ++ le 8 ((s.arc.extents.map (·.chunks)).sum * 2 ^ 20) ++ le 8 (((s.arc.extents.find? fun e => e.tier = 0 && e.cls = 0).map (·.tfirst)).getD 0) ++
        le 4 s.arc.gaps) ∧ Only [.mbx] [Reg.MBX_RSPPI] s t) ∧
      (Takes s 0x0C02 → ∀ (req : FetchReq) work,
        (5 ≤ req.cls ∨ (req.tier ≠ 0 ∧ req.tier ≠ 1 ∧ req.tier ≠ 0xFF) ∨ 7 ≤ req.win ∨ winOpen s req.win = false ∨ winSize s req.win < req.wofs →
          Denied (.arcFetch tag req work) s 0x0C02 tag St.BAD_PARAM) ∧
        (req.cls < 5 → req.tier = 0 ∨ req.tier = 1 ∨ req.tier = 0xFF → req.win < 7 → winOpen s req.win = true → req.wofs ≤ winSize s req.win →
          (arcKeyOk s = false → Denied (.arcFetch tag req work) s 0x0C02 tag St.KEY_BLOCKED) ∧
          (arcKeyOk s = true → (∀ e ∈ s.arc.extents, e.cls ≠ req.cls ∨ e.failedNs = true ∨ e.tlast < req.tfrom ∨ req.tto < e.tfirst) →
            Denied (.arcFetch tag req work) s 0x0C02 tag 0x80) ∧
          (∀ k e i out, arcKeyOk s = true → s.rd Reg.ARC_STAT_KEYOK = 1 → s.key.slots.get? c.arkSlot = some k → k.uses = 0xFFFFFFFF → s.hbr.sides = [] →
            s.arc.extents = [e] → e.cls = req.cls → (e.stream = req.stream ∨ (1 ≤ e.cls ∧ e.cls ≤ 3)) → e.tier = 0 → req.tier ≠ 1 → e.failedNs = false →
            e.data = [[i]] → req.tfrom ≤ e.tlast → e.tfirst ≤ req.tto → req.tfrom ≤ i.t → i.t ≤ req.tto →
            out = (if i.body = [] then
                le 8 i.t ++ (((i.chans.zipIdx.filter fun c => bit req.chmask c.2).map (·.1)).flatMap fun c => le 4 c.1) ++
                  (((i.chans.zipIdx.filter fun c => bit req.chmask c.2).map (·.1)).flatMap fun c => le 4 c.2)
              else i.body) →
            (0 < work → out.length ≤ req.maxb → req.wofs + out.length ≤ winSize s req.win → Completes (.arcFetch tag req work) s fun t =>
              Answers s t 0x0C02 tag 0 s.tai (le 4 out.length ++ le 4 1 ++ le 8 0 ++ zeros 4) ∧
              t.hbr = { s.hbr with ddr := Mem.writeList 0 s.hbr.ddr (winBase s req.win + req.wofs) out } ∧ Only [.hbr, .mbx] [Reg.MBX_RSPPI] s t) ∧
            (work = 0 ∨ req.maxb < out.length ∨ winSize s req.win < req.wofs + out.length → Completes (.arcFetch tag req work) s fun t =>
              Answers s t 0x0C02 tag 0 s.tai (le 4 0 ++ le 4 0 ++ le 8 i.t ++ zeros 4) ∧ Only [.mbx] [Reg.MBX_RSPPI] s t)))) ∧
      (Takes s 0x0C03 → ∀ cause,
        (c.trigMark = false ∨ s.rd Reg.ARC_STAT_STATE = 0 → Denied (.arcMark tag cause) s 0x0C03 tag 0x81) ∧
        (c.trigMark = true → s.rd Reg.ARC_STAT_STATE ≠ 0 → (∀ w ∈ s.arc.dist, w.closed = true) → Completes (.arcMark tag cause) s fun t =>
          Answers s t 0x0C03 tag 0 s.tai (le 4 (s.arc.did + 1)) ∧ t.arc.did = s.arc.did + 1 ∧ (∃ w, t.arc.dist = s.arc.dist ++ [w] ∧ w.trig = s.now ∧ w.cause = cause % 256) ∧
          Only [.arc, .mbx] [Reg.MBX_RSPPI] s t)) ∧
      (Takes s 0x0C04 → ∀ frm count,
        (count = 0 ∨ 10 < count → Denied (.arcDistList tag frm count) s 0x0C04 tag St.BAD_PARAM) ∧
        (0 < count → count ≤ 10 → ∀ l, l = (s.arc.dist.filter fun w => w.closed && decide (frm ≤ w.did)).take count → Completes (.arcDistList tag frm count) s fun t =>
          Answers s t 0x0C04 tag 0 s.tai (le 1 l.length ++ zeros 3 ++ l.flatMap fun w => le 4 w.did ++ le 8 w.trig ++ le 4 ((w.stop - w.start) / 1000000) ++ le 1 w.cause ++ zeros 3) ∧
          Only [.mbx] [Reg.MBX_RSPPI] s t)) ∧
      (Takes s 0x0C05 → ∀ did stream win wofs maxb,
        (7 ≤ win ∨ winOpen s win = false ∨ winSize s win < wofs → Denied (.arcComtrade tag did stream win wofs maxb) s 0x0C05 tag St.BAD_PARAM) ∧
        (win < 7 → winOpen s win = true → wofs ≤ winSize s win →
          (arcKeyOk s = false → Denied (.arcComtrade tag did stream win wofs maxb) s 0x0C05 tag St.KEY_BLOCKED) ∧
          (arcKeyOk s = true → (∀ w ∈ s.arc.dist, w.did ≠ did) → Denied (.arcComtrade tag did stream win wofs maxb) s 0x0C05 tag 0x81) ∧
          (∀ w l rate cfg dat, arcKeyOk s = true → s.arc.dist = [w] → w.did = did → w.closed = true → l = comItems s did stream →
            rate = (((sec07 s).sv.get? stream).map (·.rate)).getD 0 → cfg = comCfg s rate w.trig l → dat = comDat l →
            (128 ≤ stream ∨ l = [] → Denied (.arcComtrade tag did stream win wofs maxb) s 0x0C05 tag 0x80) ∧
            (stream < 128 → l ≠ [] →
              (min maxb (winSize s win - wofs) < (cfg.length + 3) / 4 * 4 + dat.length → Denied (.arcComtrade tag did stream win wofs maxb) s 0x0C05 tag 0x82) ∧
              ∀ k, s.rd Reg.ARC_STAT_STATE ≠ 0 → s.rd Reg.ARC_STAT_KEYOK = 1 → s.key.slots.get? c.arkSlot = some k → k.uses = 0xFFFFFFFF → s.hbr.sides = [] →
                (cfg.length + 3) / 4 * 4 + dat.length ≤ maxb → wofs + ((cfg.length + 3) / 4 * 4 + dat.length) ≤ winSize s win →
                Completes (.arcComtrade tag did stream win wofs maxb) s fun t => Answers s t 0x0C05 tag 0 s.tai (le 4 cfg.length ++ le 4 dat.length) ∧
                  t.hbr = { s.hbr with ddr := Mem.writeList 0 (Mem.writeList 0 s.hbr.ddr (winBase s win + wofs) cfg) (winBase s win + wofs + (cfg.length + 3) / 4 * 4) dat } ∧
                  Only [.hbr, .mbx] [Reg.MBX_RSPPI] s t))))

/-- The chuck serves a request that VALID, USAGE, ALG, DMASK, USES and the latch allow, a counted slot losing one use, with KEY_EXHAUSTED at 0; any other
is refused and takes nothing. A key update message is what the window's bytes say (Tables KEY-4 and KEY-5, its values unwrapped under the KEK). One
that fails a check is rejected with the status of Table KEY-6, counted and recorded, and changes no key; one that passes writes its slot and the
update counter, opens a fabric epoch, and is recorded; while items of an older fabric epoch remain it waits; a zeroise in the cycle of its commit
takes precedence (the status is then free, log entry 88); a claim fills the owner record; CLEARLATCH needs both pins high. A pin that goes low, and
KEY_ZEROISE with CONFIRM, zeroise. KEY_STATUS gives attributes alone, KEY_INFO the counters. A message goes to the engine with the fewest pending
pieces of its class; at a piece boundary an RT message takes a bulk one's place, a short one runs on, a finished one ends, and one of the older epoch
past its limit ends KEY_EPOCH. Rows shown to complete with their effect (`Completes`): keyRequest, keyUpdate, tamperInput, keyZeroise, keyStatus,
keyInfo, cryptoJobSubmit, cryptoPieceEnd. -/
def Obligations.KeysAndEngines : Prop :=
  ∀ s : State,
    (∀ dom engine slot alg use,
      (∀ e, s.key.slots.get? slot = some e → bit e.usage use.bit = true → (alg = 0 ∨ e.alg = alg) → bit e.dmask dom = true → s.key.latch = false →
        (e.uses = 0xFFFFFFFF → Completes (.keyRequest dom engine slot alg use) s fun t => t.key = { s.key with refused := [] } ∧ Parts [.key, .recs] s t) ∧
        (0 < e.uses → e.uses < 0xFFFFFFFF → Roomy s → Completes (.keyRequest dom engine slot alg use) s fun t => t.key.refused = [] ∧
          t.key.slots.get? slot = some { e with uses := e.uses - 1 } ∧ (∀ k, k ≠ slot → t.key.slots.get? k = s.key.slots.get? k) ∧
          (∀ x, s.key.store.get? slot = some x → t.key.store.get? slot = some (s.key.gen, { e with uses := e.uses - 1 })) ∧
          (e.uses = 1 → t.rd Reg.KEY_EVT_EXHAUST = 1 ∧ Logged s t 3 Ev.KEY_EXHAUSTED [slot, e.ver]) ∧
          Only [.key, .recs] [Reg.KEY_EVT_EXHAUST, Reg.ARC_STAT_KEYOK, Reg.ARC_EVT_KEYLOST] s t)) ∧
      (s.key.latch = true ∨ s.key.slots.get? slot = none ∨
        (∃ e, s.key.slots.get? slot = some e ∧ (bit e.usage use.bit = false ∨ (alg ≠ 0 ∧ e.alg ≠ alg) ∨ bit e.dmask dom = false ∨ e.uses = 0)) →
        Completes (.keyRequest dom engine slot alg use) s fun t => t.key = { s.key with refused := [(dom, slot)] } ∧
          Only [.key, .recs] [Reg.ARC_STAT_KEYOK, Reg.ARC_EVT_KEYLOST] s t)) ∧
    (∀ tag win wofs len (signers : List Nat) (zer : Option Nat) (m : KeyMsg), Takes s 0x0D02 → m = keyMsgOf s (winRead s win wofs len) signers →
      (len < 152 ∨ 992 < len ∨ len ≠ 96 + 56 * ((winRead s win wofs len).getD 5 0).toNat ∨ winCommand s win wofs len = false → Denied (.keyUpdate tag win wofs len signers zer) s 0x0D02 tag St.BAD_PARAM) ∧
      (152 ≤ len → len ≤ 992 → len = 96 + 56 * ((winRead s win wofs len).getD 5 0).toNat → winCommand s win wofs len = true → Roomy s →
        (∀ st, (m.formOk = false ∧ st = 0x80) ∨ (m.formOk = true ∧ m.unit ≠ s.fuses.unitId ∧ st = 0x81) ∨
            (m.formOk = true ∧ m.unit = s.fuses.unitId ∧ m.ucnt ≤ s.key.ucnt ∧ st = 0x82) ∨
            (m.formOk = true ∧ m.unit = s.fuses.unitId ∧ s.key.ucnt < m.ucnt ∧ m.claim = false ∧ (∀ h ∈ m.signers, h ∉ ownerVals s) ∧ st = 0x83) ∨
            (m.formOk = true ∧ m.unit = s.fuses.unitId ∧ s.key.ucnt < m.ucnt ∧ m.claim = true ∧ s.key.owner ≠ [] ∧ st = 0x85) →
          Completes (.keyUpdate tag win wofs len signers zer) s fun t => Answers s t 0x0D02 tag st s.tai [] ∧ t.key = s.key ∧ t.rd Reg.KEY_EVT_REJECT = 1 ∧
            Counted s t Reg.KEY_CNT_REJECT ∧ Logged s t 3 Ev.KEY_UPDATE_REJECTED [st, m.ucnt] ∧
            Only [.recs, .mbx] [Reg.MBX_RSPPI, Reg.KEY_EVT_REJECT, Reg.KEY_CNT_REJECT] s t) ∧
        (∀ e, m.formOk = true → m.unit = s.fuses.unitId → s.key.ucnt < m.ucnt → m.ents = [e] → e.resvOk = true → e.usage < 64 → 1 ≤ e.alg → e.alg ≤ 4 → e.dmask < 32 → s.key.burl = true →
          (∀ h, m.claim = false → h ∈ m.signers → h ∈ ownerVals s → 2 ≤ e.slot → e.slot < 256 → e.op = .write →
            (e.wrapOk = false → Completes (.keyUpdate tag win wofs len signers zer) s fun t => Answers s t 0x0D02 tag 0x84 s.tai [] ∧ t.key = s.key ∧
              Logged s t 3 Ev.KEY_UPDATE_REJECTED [0x84, m.ucnt]) ∧
            (e.wrapOk = true → m.clearLatch = true → s.key.tampLow = true ∨ s.key.zerLow = true → Completes (.keyUpdate tag win wofs len signers zer) s fun t =>
              Answers s t 0x0D02 tag 0x86 s.tai [] ∧ t.key = s.key ∧ Logged s t 3 Ev.KEY_UPDATE_REJECTED [0x86, m.ucnt]) ∧
            (e.wrapOk = true → s.key.tampLow = false → s.key.zerLow = false → fabWaits s = false → zer = none → Completes (.keyUpdate tag win wofs len signers zer) s fun t =>
              Answers s t 0x0D02 tag 0 s.tai (le 8 m.ucnt ++ le 1 1) ∧ t.key.slots.get? e.slot = some ⟨e.usage, e.alg, e.dmask, e.uses, e.exprst, e.ver, e.key⟩ ∧
              (∀ k, k ≠ e.slot → t.key.slots.get? k = s.key.slots.get? k) ∧ t.key.ucnt = m.ucnt ∧ t.key.owner = s.key.owner ∧
              t.key.store.get? e.slot = (if e.exprst then none else some (s.key.gen, ⟨e.usage, e.alg, e.dmask, e.uses, e.exprst, e.ver, e.key⟩)) ∧
              t.key.latch = (s.key.latch && !m.clearLatch) ∧ (s.key.latch = true → m.clearLatch = true → Logged s t 3 Ev.TAMPER_LATCH_CLEARED [m.ucnt]) ∧
              Logged s t 3 Ev.KEY_UPDATED [m.ucnt, m.ucnt / 2 ^ 32, 1] ∧ t.rd Reg.SUP_FEPOCH_FEPOCH = (s.rd Reg.SUP_FEPOCH_FEPOCH + 1) % 2 ^ 16 ∧
              Only [.key, .recs, .mbx] [Reg.MBX_RSPPI, Reg.SUP_FEPOCH_FEPOCH, Reg.ARC_STAT_KEYOK, Reg.ARC_EVT_KEYLOST] s t) ∧
            (∀ c, e.wrapOk = true → s.key.tampLow = false → s.key.zerLow = false → fabWaits s = false → zer = some c → Completes (.keyUpdate tag win wofs len signers zer) s fun t =>
              Zeroised s t c ∧ (∃ st, st < 256 ∧ Answers s t 0x0D02 tag st s.tai []) ∧
              Only [.key, .recs, .lnt, .mbx, .free] [Reg.MBX_RSPPI, Reg.KEY_EVT_TAMPER, Reg.ARC_STAT_KEYOK, Reg.ARC_EVT_KEYLOST] s t) ∧
            (e.wrapOk = true → s.key.tampLow = false → s.key.zerLow = false → fabWaits s = true → Completes (.keyUpdate tag win wofs len signers zer) s fun t =>
              t.hbr = { s.hbr with waiting := s.hbr.waiting ++ [.keys m (some tag)] } ∧ t.rd Reg.SUP_FEPOCH_PEND = 1 ∧
              t.mbx = { s.mbx with prog := s.mbx.prog ++ [(0x0D02, tag)] } ∧ Only [.hbr, .mbx] [Reg.SUP_FEPOCH_PEND] s t)) ∧
          (m.claim = true → m.clearLatch = false → s.key.owner = [] → e.slot = 0 → e.op = .write → e.alg = 4 → e.usage = 8 → e.dmask = 0 → e.wrapOk = true → e.key ∈ m.signers →
            fabWaits s = false → zer = none → Completes (.keyUpdate tag win wofs len signers zer) s fun t => Answers s t 0x0D02 tag 0 s.tai (le 8 m.ucnt ++ le 1 1) ∧ t.key.owner.get? 0 = some e.key ∧
              t.key.ucnt = m.ucnt ∧ Logged s t 3 Ev.OWNER_CLAIMED [m.ucnt, 1] ∧ Parts [.key, .recs, .mbx] s t)))) ∧
    (∀ zer : Bool,
      (Completes (.tamperInput zer false) s fun t => t.key = (if zer then { s.key with zerLow := false } else { s.key with tampLow := false }) ∧ Only [.key] [] s t) ∧
      ((if zer then s.key.zerLow else s.key.tampLow) = false → Roomy s → Completes (.tamperInput zer true) s fun t => Zeroised s t (if zer then 1 else 0) ∧
        (if zer then t.key.zerLow else t.key.tampLow) = true ∧
        Only [.key, .recs, .lnt] [Reg.KEY_EVT_TAMPER, Reg.ARC_STAT_KEYOK, Reg.ARC_EVT_KEYLOST] s t)) ∧
    (∀ tag,
      (Takes s 0x0D04 → (∀ x, x ≠ 0x5A5A → Denied (.keyZeroise tag x) s 0x0D04 tag St.BAD_PARAM) ∧
        (Roomy s → Completes (.keyZeroise tag 0x5A5A) s fun t => Answers s t 0x0D04 tag 0 s.tai [] ∧ Zeroised s t 2 ∧
          Only [.key, .recs, .lnt, .mbx] [Reg.MBX_RSPPI, Reg.KEY_EVT_TAMPER, Reg.ARC_STAT_KEYOK, Reg.ARC_EVT_KEYLOST] s t)) ∧
      (Takes s 0x0D01 → ∀ k, (256 ≤ k → Denied (.keyStatus tag k) s 0x0D01 tag St.BAD_PARAM) ∧
        (k < 256 → s.key.slots.get? k = none → Completes (.keyStatus tag k) s fun t => Answers s t 0x0D01 tag 0 s.tai (zeros 12) ∧ Only [.mbx] [Reg.MBX_RSPPI] s t) ∧
        (∀ e, k < 256 → s.key.slots.get? k = some e → Completes (.keyStatus tag k) s fun t => Answers s t 0x0D01 tag 0 s.tai
          (le 1 1 ++ le 1 e.usage ++ le 1 e.alg ++ le 1 e.dmask ++ le 1 (if e.exprst then 1 else 0) ++ le 1 0 ++ le 2 e.ver ++ le 4 e.uses) ∧
          Only [.mbx] [Reg.MBX_RSPPI] s t)) ∧
      (Takes s 0x0D03 → s.key.burl = true → Completes (.keyInfo tag) s fun t => Answers s t 0x0D03 tag 0 s.tai
        (le 16 s.fuses.unitId ++ le 8 s.key.ucnt ++ le 4 (keyStat s) ++ le 4 s.key.gen) ∧ Only [.mbx] [Reg.MBX_RSPPI] s t)) ∧
    (s.runs 1 = true →
      (∀ rt pieces slot, 0 < pieces → (s.key.latch = true ∨ s.key.slots.has slot = false) → Completes (.cryptoJobSubmit rt pieces (some slot)) s fun t =>
        t.key = { s.key with nextJob := s.key.nextJob + 1, ended := (⟨s.key.nextJob + 1, 1⟩ :: s.key.ended).take 64 } ∧ Only [.key] [] s t) ∧
      (∀ rt pieces slot k, 0 < pieces → (∀ x, slot = some x → s.key.latch = false ∧ s.key.slots.has x = true) → k < 4 → (∀ e, e < 4 → (s.eng k).pend rt ≤ (s.eng e).pend rt) →
        (∀ e, e < k → (s.eng k).pend rt < (s.eng e).pend rt) → Completes (.cryptoJobSubmit rt pieces slot) s fun t => (∀ e, e ≠ k → t.eng e = s.eng e) ∧
          t.key.nextJob = s.key.nextJob + 1 ∧ ((s.eng k).cur ≠ none → (t.eng k).pend rt = (s.eng k).pend rt + pieces) ∧
          ((s.eng k).cur = none → (s.eng k).rt = [] → (s.eng k).bulk = [] → (t.eng k).cur =
            some ⟨s.key.nextJob + 1, rt, pieces, pieces, true, slot, s.rd Reg.SUP_FEPOCH_FEPOCH, 0⟩) ∧
          (∀ j, (s.eng k).cur = some j → (t.eng k).cur = some j) ∧ Only [.key] [] s t) ∧
      ∀ e, e < 4 → s.hbr.waiting = [] → s.key.old = [] →
        ((s.eng e).cur = none → Completes (.cryptoPieceEnd e) s fun t => Only [] [] s t) ∧
        (∀ j : CryJob, (s.eng e).cur = some j → j.mark = 0 →
          (j.pieces = 1 → (s.eng e).rt = [] → (s.eng e).bulk = [] → Completes (.cryptoPieceEnd e) s fun t => t.eng e = {} ∧ t.key.ended = (⟨j.id, 0⟩ :: s.key.ended).take 64 ∧
            (∀ k, k ≠ e → t.eng k = s.eng k) ∧ Only [.key] [Reg.KEY_CNT_EPAB] s t) ∧
          (1 < j.pieces → j.total ≤ 16 → j.rt = false → j.started = true → (s.eng e).rt = [] → (s.eng e).bulk = [] → Completes (.cryptoPieceEnd e) s fun t =>
            t.eng e = { cur := some { j with pieces := j.pieces - 1 } } ∧ t.key.ended = s.key.ended.take 64 ∧ Only [.key] [Reg.KEY_CNT_EPAB] s t) ∧
          (∀ r : CryJob, 1 < j.pieces → j.rt = false → j.started = true → (s.eng e).rt = [r] → r.rt = true → r.mark = 0 → (s.eng e).bulk = [] → Completes (.cryptoPieceEnd e) s fun t =>
            t.eng e = { cur := some { r with started := true }, bulk := [{ j with pieces := j.pieces - 1 }] } ∧ Counted s t Reg.KEY_CNT_PREEMPT ∧
            Only [.key] [Reg.KEY_CNT_EPAB, Reg.KEY_CNT_PREEMPT] s t)) ∧
        (∀ j : CryJob, (s.eng e).cur = some j → j.mark = 2 → (s.eng e).rt = [] → (s.eng e).bulk = [] → Completes (.cryptoPieceEnd e) s fun t => t.eng e = {} ∧
          t.key.ended = (⟨j.id, 2⟩ :: s.key.ended).take 64 ∧ Counted s t Reg.KEY_CNT_EPAB ∧ Only [.key] [Reg.KEY_CNT_EPAB] s t))

/-- BIL_STAGE_OPEN while no configuration is staged maps the page and is STAGING; BIL_STAGE_CHECK outside STAGING is out of order, else the checks of
Table UPD-3, in its order, decide between CHECKED and IDLE. UPD_COMMIT needs a checked billet; a failed check or write leaves the running generation,
with BILLET_REJECTED; a good one is on the other device with the next SEQ and BSTATE NEW, and the restart APPLYRST is due. A trial is confirmed, or,
when its time is over or on command, ends with the device withdrawn, BILLET_ROLLBACK and a restart due. UPD_STATUS gives versions, floor and rest of
the trial. The loader reads, erases and programs bytes of the device DEV alone, and of the other nothing; VERIFY confirms a good device and withdraws
a bad one; EXIT restarts. A write that does not read back leaves the written device withdrawn. Rows shown to complete with their effect (`Completes`):
bilStageOpen, bilStageCheck, updCommit, updConfirm, trialExpiry, updRollback, updStatus, recoveryRead, recoveryErase, recoveryProgram, recoveryVerify,
recoveryExit. -/
def Obligations.BilletsAndRecovery : Prop :=
  ∀ (s : State) (tag : Nat), s.cfg.dev < 2 →
    (Takes s 0x0210 → ∀ page,
      (s.rd Reg.SUP_CFGSTAT_STATE ≠ 0 → Denied (.bilStageOpen tag page) s 0x0210 tag St.BUSY) ∧
      (s.rd Reg.SUP_CFGSTAT_STATE = 0 → 1 < page → Denied (.bilStageOpen tag page) s 0x0210 tag St.BAD_PARAM) ∧
      (s.rd Reg.SUP_CFGSTAT_STATE = 0 → page ≤ 1 → s.cfg.win7 ≠ 2 + page → fabWaits s = false → Completes (.bilStageOpen tag page) s fun t =>
        Answers s t 0x0210 tag 0 s.tai [] ∧ t.rd Reg.UPD_STAT_STATE = 1 ∧ t.upd = { s.upd with staged := none } ∧ t.cfg = { s.cfg with win7 := 2 + page } ∧
        winOpen t 7 = true ∧ winSize t 7 = 32 * 2 ^ 20 ∧ t.rd (Reg.HBR_WIN_POL_WR 7) = 1 ∧ t.rd (Reg.HBR_WIN_POL_RD 7) = 0 ∧ Parts [.upd, .cfg, .mbx] s t) ∧
      (s.rd Reg.SUP_CFGSTAT_STATE = 0 → page ≤ 1 → s.cfg.win7 ≠ 2 + page → fabWaits s = true → Completes (.bilStageOpen tag page) s fun t =>
        Answers s t 0x0210 tag 0 s.tai [] ∧ t.rd Reg.UPD_STAT_STATE = 1 ∧ t.hbr = { s.hbr with waiting := s.hbr.waiting ++ [.win7 (2 + page)] } ∧
        t.cfg = { s.cfg with win7 := 2 + page } ∧ t.rd Reg.SUP_FEPOCH_PEND = 1 ∧ Only [.upd, .cfg, .hbr, .mbx] [Reg.UPD_STAT_STATE, Reg.SUP_FEPOCH_PEND, Reg.MBX_RSPPI] s t)) ∧
    (Takes s 0x0211 → ∀ len bil,
      (s.rd Reg.UPD_STAT_STATE ≠ 1 → Denied (.bilStageCheck tag len bil) s 0x0211 tag 0x81) ∧
      (s.rd Reg.UPD_STAT_STATE = 1 → len < 64 ∨ 67108864 < len → Denied (.bilStageCheck tag len bil) s 0x0211 tag St.BAD_PARAM) ∧
      (s.rd Reg.UPD_STAT_STATE = 1 → 64 ≤ len → len ≤ 67108864 → ∀ form bound signed comps : Prop,
        (form ↔ bil.magic = 0x4D425456 ∧ bil.bver = 1 ∧ bil.ncomp = 6 ∧ bil.resv = 0 ∧ bil.total ≤ len) →
        (bound ↔ bil.typ = s.fuses.typ ∧ bil.hwmin ≤ s.fuses.hwrev ∧ s.fuses.hwrev ≤ bil.hwmax ∧ (bil.unit = 0 ∨ bil.unit = s.fuses.unitId)) →
        (signed ↔ (∃ h, s.fuses.vendor[bil.keyidx]? = some h ∧ h ∈ bil.signers) ∧ bit s.fuses.revoked bil.keyidx = false) →
        (comps ↔ (∀ id, 1 ≤ id → id ≤ 6 → (bil.dir.filter fun c => c.id = id).length = 1) ∧ ∀ c ∈ bil.dir, c.off + c.body.length ≤ bil.total ∧ sha256 c.body = c.sha) →
        (∀ st, ¬form ∧ st = St.FORMAT_BAD ∨ form ∧ ¬bound ∧ st = St.BIND_FAIL ∨ form ∧ bound ∧ ¬signed ∧ st = St.SIG_FAIL ∨
            form ∧ bound ∧ signed ∧ bil.svn < s.rd Reg.UPD_FLOOR_FLOOR ∧ st = 0x80 ∨ form ∧ bound ∧ signed ∧ s.rd Reg.UPD_FLOOR_FLOOR ≤ bil.svn ∧ ¬comps ∧ st = St.CRC_FAIL ∨
            form ∧ bound ∧ signed ∧ s.rd Reg.UPD_FLOOR_FLOOR ≤ bil.svn ∧ comps ∧ bil.flashOk = false ∧ st = St.FLASH_FAIL →
          Completes (.bilStageCheck tag len bil) s fun t => Answers s t 0x0211 tag st s.tai [] ∧ t.rd Reg.UPD_STAT_STATE = 0 ∧ t.upd = { s.upd with staged := none, lastStat := st } ∧
            t.rd Reg.UPD_EVT_REJECT = 1 ∧ t.cfg = { s.cfg with win7 := 0 }) ∧
        (form → bound → signed → s.rd Reg.UPD_FLOOR_FLOOR ≤ bil.svn → comps → bil.flashOk = true →
          Completes (.bilStageCheck tag len bil) s fun t => Answers s t 0x0211 tag 0 s.tai (le 4 bil.ver ++ le 4 bil.svn ++ le 1 6 ++ zeros 3) ∧ t.rd Reg.UPD_STAT_STATE = 2 ∧
            t.upd = { s.upd with staged := some bil } ∧ t.cfg = { s.cfg with win7 := 0 } ∧ Parts [.upd, .cfg, .mbx, .hbr, .key] s t))) ∧
    (Takes s 0x0212 → ∀ cfg trial img e,
      (s.upd.staged = none ∨ s.rd Reg.UPD_STAT_STATE ≠ 2 → Denied (.updCommit tag cfg trial img e) s 0x0212 tag 0x81) ∧
      (∀ b, s.upd.staged = some b → s.rd Reg.UPD_STAT_STATE = 2 →
        (1 < cfg ∨ trialOk trial = false → Denied (.updCommit tag cfg trial img e) s 0x0212 tag St.BAD_PARAM) ∧
        (cfg ≤ 1 → trialOk trial = true → s.rd Reg.SUP_CFGSTAT_STATE ≠ cfg → Denied (.updCommit tag cfg trial img e) s 0x0212 tag 0x81) ∧
        (∀ i, trialOk trial = true → s.rd Reg.SUP_CFGSTAT_STATE = 0 → s.cfg.image = some i → Roomy s →
          (∀ st, imageCheck s b.fmttab true true 0x2000000 i = some st → st ≠ 0 → Completes (.updCommit tag 0 trial img e) s fun t => Answers s t 0x0212 tag st s.tai [] ∧
            t.rd Reg.UPD_STAT_STATE = 0 ∧ t.upd = { s.upd with staged := none, lastStat := st } ∧ t.rd Reg.UPD_EVT_REJECT = 1 ∧ Logged s t 8 Ev.BILLET_REJECTED [st, b.ver, b.svn] ∧
            t.cfg = s.cfg ∧ Only [.upd, .recs, .mbx] [Reg.UPD_STAT_STATE, Reg.UPD_EVT_REJECT, Reg.MBX_RSPPI] s t) ∧
          (imageCheck s b.fmttab true true 0x2000000 i = none →
            (e ≠ .ok → Completes (.updCommit tag 0 trial img e) s fun t => Answers s t 0x0212 tag St.FLASH_FAIL s.tai [] ∧ t.rd Reg.UPD_STAT_STATE = 0 ∧
              Logged s t 8 Ev.BILLET_REJECTED [St.FLASH_FAIL, b.ver, b.svn] ∧ t.dev s.cfg.dev = s.dev s.cfg.dev ∧ t.sup.due = s.sup.due ∧
              ∀ p, t.plate (1 - s.cfg.dev) = some p → p.cst = 0) ∧
            (s.sup.due = none → b.total ≤ 0x4000000 → MemsOk s → Completes (.updCommit tag 0 trial img .ok) s fun t => Answers s t 0x0212 tag 0 s.tai [] ∧ t.rd Reg.UPD_STAT_STATE = 3 ∧ t.upd.trial = trial ∧
              t.sup.due = some 8 ∧ t.dev s.cfg.dev = s.dev s.cfg.dev ∧ (t.dev (1 - s.cfg.dev)).billet = some b ∧ (t.dev (1 - s.cfg.dev)).image = some i ∧
              t.rd (failFld (1 - s.cfg.dev)) = 0 ∧ (∀ a, a < b.total → (t.dev (1 - s.cfg.dev)).byte (0x1000000 + a) = stageByte s 1 a) ∧
              (∀ a, a < i.total → (t.dev (1 - s.cfg.dev)).byte (0x5000000 + a) = (s.dev s.cfg.dev).byte (0x5000000 + a)) ∧
              ∃ p, t.plate (1 - s.cfg.dev) = some p ∧ p.seq = (s.rd Reg.SUP_CFGACT_SEQ + 1) % 2 ^ 32 ∧ p.cst = 0x0F ∧ p.bst = 0xFF))))) ∧
    (Takes s 0x0213 →
      (s.rd Reg.UPD_STAT_STATE ≠ 4 → Denied (.updConfirm tag) s 0x0213 tag 0x81) ∧
      (∀ b, s.rd Reg.UPD_STAT_STATE = 4 → s.upd.run = some b → s.rd Reg.UPD_FLOOR_FLOOR < b.svn → b.svn < 2 ^ 32 → Roomy s → Completes (.updConfirm tag) s fun t =>
        Answers s t 0x0213 tag 0 s.tai [] ∧ t.rd Reg.UPD_STAT_STATE = 0 ∧ t.dev s.cfg.dev = (s.dev s.cfg.dev).program 0xFF 0x0F ∧ t.rd Reg.UPD_FLOOR_FLOOR = b.svn ∧
        t.rd Reg.UPD_EVT_CONFIRMED = 1 ∧ Logged s t 8 Ev.SVN_RAISED [s.rd Reg.UPD_FLOOR_FLOOR, b.svn] ∧ Logged s t 8 Ev.BILLET_CONFIRMED [b.ver, b.svn, devSeq t s.cfg.dev] ∧
        Only [.upd, .cfg, .recs, .mbx] [Reg.UPD_STAT_STATE, Reg.UPD_FLOOR_FLOOR, Reg.UPD_EVT_CONFIRMED, Reg.MBX_RSPPI] s t)) ∧
    (Takes s 0x0214 → s.rd Reg.UPD_STAT_STATE ≠ 4 → Denied (.updRollback tag) s 0x0214 tag 0x81) ∧
    (s.rd Reg.UPD_STAT_STATE ≠ 4 ∨ trialRem s ≠ 0 → Completes .trialExpiry s fun t => Only [] [] s t) ∧
    (s.rd Reg.UPD_STAT_STATE = 4 → s.sup.due = none → Roomy s →
      (Takes s 0x0214 → Completes (.updRollback tag) s fun t => Answers s t 0x0214 tag 0 s.tai [] ∧ t.sup.due = some 6 ∧ t.rd Reg.UPD_STAT_STATE = 0 ∧ t.rd Reg.UPD_EVT_ROLLBACK = 1 ∧
        t.dev s.cfg.dev = (s.dev s.cfg.dev).program 0 0 ∧ Logged s t 8 Ev.BILLET_ROLLBACK [devVer s s.cfg.dev, devCode s.cfg.dev, 2] ∧ t.upd = { s.upd with trialEnd := none } ∧
        Only [.upd, .cfg, .recs, .mbx, .sup] [Reg.UPD_STAT_STATE, Reg.UPD_EVT_ROLLBACK, Reg.MBX_RSPPI] s t) ∧
      (trialRem s = 0 → Completes .trialExpiry s fun t => t.sup.due = some 6 ∧ t.rd Reg.UPD_STAT_STATE = 0 ∧ t.rd Reg.UPD_EVT_ROLLBACK = 1 ∧ t.dev s.cfg.dev = (s.dev s.cfg.dev).program 0 0 ∧
        Logged s t 8 Ev.BILLET_ROLLBACK [devVer s s.cfg.dev, devCode s.cfg.dev, 1] ∧ t.upd = { s.upd with trialEnd := none } ∧
        Only [.upd, .cfg, .recs, .sup] [Reg.UPD_STAT_STATE, Reg.UPD_EVT_ROLLBACK] s t)) ∧
    (Takes s 0x0215 → Completes (.updStatus tag) s fun t => Answers s t 0x0215 tag 0 s.tai (le 1 (s.rd Reg.UPD_STAT_STATE) ++ zeros 3 ++ le 4 (s.rd Reg.UPD_BILVER_VERSION) ++
      le 4 (s.rd Reg.UPD_SVN_SVN) ++ le 4 (s.rd Reg.UPD_FLOOR_FLOOR) ++ le 4 ((s.upd.staged.map Billet.ver).getD 0) ++ le 4 (trialRem s) ++ le 1 s.upd.lastStat ++ zeros 3) ∧
      Only [.mbx] [Reg.MBX_RSPPI] s t) ∧
    ∀ a n d, s.rd Reg.UPD_STAT_RCV = 1 → s.rd Reg.UPD_RSTAT_BUSY = 1 → a = s.rd Reg.UPD_RADDR_ADDR → n = s.rd Reg.UPD_RLEN_LEN → d = s.rd Reg.UPD_RCMD_DEV → d < 2 → MemsOk s →
      (s.rd Reg.UPD_RCMD_OP = 1 →
        (n < 4 ∨ 16384 < n ∨ n % 4 ≠ 0 ∨ 0x8000000 < a + n → Completes .recoveryRead s fun t => t.rd Reg.UPD_RSTAT_RESULT = St.BAD_PARAM ∧ t.rd Reg.UPD_RSTAT_BUSY = 0 ∧
          Only [] [Reg.UPD_RSTAT_BUSY, Reg.UPD_RSTAT_RESULT, Reg.UPD_RCMD_GO] s t) ∧
        (4 ≤ n → n ≤ 16384 → n % 4 = 0 → a + n ≤ 0x8000000 → Completes .recoveryRead s fun t => t.rd Reg.UPD_RSTAT_RESULT = 0 ∧ t.rd Reg.UPD_RSTAT_BUSY = 0 ∧
          (∀ i, i < n → Mem.read 0 t.upd.rbuf i = (s.dev d).byte (a + i)) ∧ (∀ i, n ≤ i → Mem.read 0 t.upd.rbuf i = Mem.read 0 s.upd.rbuf i) ∧
          t.upd = { s.upd with rbuf := t.upd.rbuf } ∧ Only [.upd] [Reg.UPD_RSTAT_BUSY, Reg.UPD_RSTAT_RESULT, Reg.UPD_RCMD_GO] s t)) ∧
      (s.rd Reg.UPD_RCMD_OP = 2 →
        (a < 0x1000000 ∨ 0x7000000 ≤ a → Completes .recoveryErase s fun t => t.rd Reg.UPD_RSTAT_RESULT = St.BAD_PARAM ∧
          Only [] [Reg.UPD_RSTAT_BUSY, Reg.UPD_RSTAT_RESULT, Reg.UPD_RCMD_GO] s t) ∧
        (0x1000000 ≤ a → a < 0x7000000 → Completes .recoveryErase s fun t => t.rd Reg.UPD_RSTAT_RESULT = 0 ∧ (t.dev d).erased = true ∧ t.dev (1 - d) = s.dev (1 - d) ∧
          (∀ x, x / 65536 = a / 65536 → (t.dev d).byte x = 0xFF) ∧ (∀ x, x / 65536 ≠ a / 65536 → Mem.read 0xFF (t.dev d).flash x = Mem.read 0xFF (s.dev d).flash x) ∧
          (t.dev d).p0 = ((s.dev d).program 0 0xFF).p0 ∧ (t.dev d).p1 = ((s.dev d).program 0 0xFF).p1 ∧
          Only [.cfg] [Reg.UPD_RSTAT_BUSY, Reg.UPD_RSTAT_RESULT, Reg.UPD_RCMD_GO] s t)) ∧
      (s.rd Reg.UPD_RCMD_OP = 3 →
        (n < 256 ∨ 16384 < n ∨ n % 256 ≠ 0 ∨ a < 0x1000000 ∨ 0x7000000 < a + n → Completes .recoveryProgram s fun t => t.rd Reg.UPD_RSTAT_RESULT = St.BAD_PARAM ∧
          Only [] [Reg.UPD_RSTAT_BUSY, Reg.UPD_RSTAT_RESULT, Reg.UPD_RCMD_GO] s t) ∧
        (256 ≤ n → n ≤ 16384 → n % 256 = 0 → 0x1000000 ≤ a → a + n ≤ 0x7000000 → Completes .recoveryProgram s fun t => t.dev (1 - d) = s.dev (1 - d) ∧
          (∀ i, i < n → Mem.read 0xFF (t.dev d).flash (a + i) = Mem.read 0 s.upd.rbuf i &&& (s.dev d).byte (a + i)) ∧
          (∀ x, x < a ∨ a + n ≤ x → Mem.read 0xFF (t.dev d).flash x = Mem.read 0xFF (s.dev d).flash x) ∧
          ((∀ i, i < n → (s.dev d).byte (a + i) = 0xFF) → t.rd Reg.UPD_RSTAT_RESULT = 0) ∧
          ((∃ i, i < n ∧ Mem.read 0 s.upd.rbuf i &&& (s.dev d).byte (a + i) ≠ Mem.read 0 s.upd.rbuf i) → t.rd Reg.UPD_RSTAT_RESULT = St.FLASH_FAIL) ∧
          Only [.cfg] [Reg.UPD_RSTAT_BUSY, Reg.UPD_RSTAT_RESULT, Reg.UPD_RCMD_GO] s t)) ∧
      (s.rd Reg.UPD_RCMD_OP = 4 → ∀ bil img e,
        (∀ st, billetCheck s 0x4000000 bil = some st → st < 256 → Completes (.recoveryVerify bil img e) s fun t => t.rd Reg.UPD_RSTAT_RESULT = st ∧
          t.dev d = (s.dev d).program 0 0xFF ∧ t.dev (1 - d) = s.dev (1 - d) ∧ Only [.cfg] [Reg.UPD_RSTAT_BUSY, Reg.UPD_RSTAT_RESULT, Reg.UPD_RCMD_GO] s t) ∧
        (billetCheck s 0x4000000 bil = none → imageCheck s bil.fmttab false false 0x2000000 img = none → s.key.burl = false → bil.unit ≠ 0 → Completes (.recoveryVerify bil img e) s fun t =>
          t.rd Reg.UPD_RSTAT_RESULT = St.BIND_FAIL ∧ t.dev d = (s.dev d).program 0 0xFF ∧ t.dev (1 - d) = s.dev (1 - d) ∧
          Only [.cfg] [Reg.UPD_RSTAT_BUSY, Reg.UPD_RSTAT_RESULT, Reg.UPD_RCMD_GO] s t) ∧
        (billetCheck s 0x4000000 bil = none → imageCheck s bil.fmttab false false 0x2000000 img = none → s.key.burl = true → e ≠ .ok → Completes (.recoveryVerify bil img e) s fun t =>
          t.rd Reg.UPD_RSTAT_RESULT = St.FLASH_FAIL ∧ (∀ p, t.plate d = some p → p.cst = 0) ∧ t.dev (1 - d) = s.dev (1 - d) ∧
          Only [.cfg, .key] [Reg.UPD_RSTAT_BUSY, Reg.UPD_RSTAT_RESULT, Reg.UPD_RCMD_GO] s t) ∧
        (billetCheck s 0x4000000 bil = none → imageCheck s bil.fmttab false false 0x2000000 img = none → s.key.burl = true → Completes (.recoveryVerify bil img .ok) s fun t =>
          t.rd Reg.UPD_RSTAT_RESULT = 0 ∧ (t.dev d).billet = some bil ∧ (t.dev d).image = some img ∧ t.dev (1 - d) = s.dev (1 - d) ∧ t.rd (failFld d) = 0 ∧
          (∃ p, t.plate d = some p ∧ p.seq = s.rd Reg.UPD_RSEQ_SEQ % 2 ^ 32 ∧ p.cst = 0x0F ∧ p.bst = 0x0F) ∧
          Only [.cfg, .key] [Reg.UPD_RSTAT_BUSY, Reg.UPD_RSTAT_RESULT, Reg.UPD_RCMD_GO, failFld d] s t)) ∧
      (s.rd Reg.UPD_RCMD_OP = 5 → NoDevice s → s.rd Reg.SUP_DOMSTAT_OCXO_LOST = 0 → ∀ ms, Completes (.recoveryExit ms) s fun t => RestartedToRecovery 7 s t)

/-- NB_LOAD keeps the billet whose bytes the window holds, where form and hash hold. NB_START without a billet, while a campaign runs, with parameters
outside Table UPD-10, or in HOWL mode with a member whose TSC is not 0, is refused; else the campaign has the next number and is in PASS with its
howls in order (HOWL), or in QUERY (UNICAST), and NB_PROGRESS and NB_CAMPAIGN_PHASE say so. A slot CHGAP after the last sends one howl, unless another
origin's waits; the end of PASS is the first query. NACKWIN + 60 s after a query it ends, and then, where every member has answered complete, the
campaign is READY. NB_ACTIVATE in READY and early enough howls it three times; the last query, 960 s after ACT, ends the campaign. NB_ABORT howls once
and ends it; after ACT it sends nothing. Rows shown to complete with their effect (`Completes`): nbLoad, nbStart, nbAddnodes, nbActivate, nbAbort,
nbStatus, campaignSlot, campaignQueryEnd, campaignActQuery. -/
def Obligations.Campaigns : Prop :=
  ∀ (s : State) (tag : Nat), QuietLink s →
    (Takes s 0x0220 → ∀ win wofs len (b : List Byte) (num : Nat → Nat → Nat) (ok : Prop), b = winRead s win wofs len → (∀ a n, num a n = fromLe ((b.drop a).take n)) →
      (ok ↔ num 0 4 = 0x4E425456 ∧ num 4 2 = 1 ∧ num 6 2 = 0 ∧ num 16 4 = len ∧ num 21 3 = 0 ∧ num 120 8 = 0 ∧ sha256 (b.drop 128) = (b.drop 24).take 32) →
      (len < 128 ∨ 1572864 < len ∨ winCommand s win wofs len = false → Denied (.nbLoad tag win wofs len) s 0x0220 tag St.BAD_PARAM) ∧
      (128 ≤ len → len ≤ 1572864 → winCommand s win wofs len = true →
        (¬ok → Denied (.nbLoad tag win wofs len) s 0x0220 tag 0x84) ∧
        (ok → Completes (.nbLoad tag win wofs len) s fun t =>
          Answers s t 0x0220 tag 0 s.tai (le 4 (num 8 4) ++ le 4 (num 12 4) ++ le 2 ((len + 191) / 192)) ∧
          t.upd = { s.upd with nb := some ⟨num 8 4, num 12 4, len, sha256 b, b⟩ } ∧ Only [.upd, .mbx] [Reg.MBX_RSPPI] s t))) ∧
    (Takes s 0x0221 → ∀ mode group ttl chgap rehowl rounds nackwin,
      (s.upd.nb = none → Denied (.nbStart tag mode group ttl chgap rehowl rounds nackwin) s 0x0221 tag 0x81) ∧
      (∀ b, s.upd.nb = some b →
        (s.upd.running = true → Denied (.nbStart tag mode group ttl chgap rehowl rounds nackwin) s 0x0221 tag 0x82) ∧
        (s.upd.running = false → nbStartOk mode group ttl chgap rehowl rounds nackwin = false →
          Denied (.nbStart tag mode group ttl chgap rehowl rounds nackwin) s 0x0221 tag St.BAD_PARAM) ∧
        (s.upd.running = false → nbStartOk mode group ttl chgap rehowl rounds nackwin = true →
          (∀ ln d, mode = 0 → ln ∈ howlMembers s 0 group → s.node ln = some d → d.tsc ≠ 0 →
            Denied (.nbStart tag mode group ttl chgap rehowl rounds nackwin) s 0x0221 tag St.BAD_PARAM) ∧
          (∀ no, no = (s.upd.campNo + 1) % 65536 → Reportable s → Roomy s →
            (mode = 0 → (∀ ln d, s.node ln = some d → d.tsc = 0) → Completes (.nbStart tag mode group ttl chgap rehowl rounds nackwin) s fun t =>
              Answers s t 0x0221 tag 0 s.tai (le 2 no) ∧ t.upd.running = true ∧ t.camp.no = no ∧ t.camp.phase = 1 ∧ t.camp.round = 0 ∧ t.camp.group = group ∧ t.camp.ttl = ttl ∧
              t.camp.chgap = chgap ∧ t.camp.members = howlMembers s 0 group ∧ t.camp.nb = some b ∧ t.camp.todo = passHowls ((b.size + 191) / 192) ∧ t.rd Reg.UPD_NBSTAT_PHASE = 1 ∧
              t.rd Reg.UPD_EVT_NBPHASE = 1 ∧ Logged s t 8 Ev.NB_CAMPAIGN_PHASE [no, 1, 0] ∧
              Reported s t 0x0201 0 (nodeBody 0xFFFFFF s.now (le 2 no ++ le 1 1 ++ le 1 0 ++ le 4 (howlMembers s 0 group).length ++ zeros 16)) ∧
              Only [.upd, .mbx, .recs] [Reg.MBX_RSPPI, Reg.MBX_RPTPI, Reg.UPD_EVT_NBPHASE, Reg.UPD_NBSTAT_PHASE, Reg.UPD_NBSTAT_ROUND, Reg.UPD_NBSTAT_CAMP, Reg.UPD_NBDONE_COMPLETE] s t) ∧
            (mode = 1 → s.upd.list = [] → Completes (.nbStart tag mode group ttl chgap rehowl rounds nackwin) s fun t => Answers s t 0x0221 tag 0 s.tai (le 2 no) ∧
              t.upd.running = true ∧ t.camp.no = no ∧ t.camp.mode = 1 ∧ t.camp.phase = 2 ∧ t.camp.round = 1 ∧ t.camp.members = [] ∧
              Logged s t 8 Ev.NB_CAMPAIGN_PHASE [no, 2, 0] ∧ Parts [.upd, .mbx, .recs] s t)))) ) ∧
    (Takes s 0x0222 → ∀ lns,
      (s.upd.running = true → Denied (.nbAddnodes tag lns) s 0x0222 tag 0x82) ∧
      (s.upd.running = false → lns = [] ∨ 80 < lns.length ∨ (∃ ln ∈ lns, s.node ln = none) → Denied (.nbAddnodes tag lns) s 0x0222 tag St.BAD_PARAM) ∧
      (s.upd.running = false → lns ≠ [] → lns.length ≤ 80 → (∀ ln ∈ lns, s.node ln ≠ none) → lns.Nodup → (∀ ln ∈ lns, ln ∉ s.upd.list) → s.upd.list.length + lns.length ≤ 4096 →
        Completes (.nbAddnodes tag lns) s fun t => Answers s t 0x0222 tag 0 s.tai (le 2 (s.upd.list.length + lns.length)) ∧ t.upd = { s.upd with list := s.upd.list ++ lns } ∧
          Only [.upd, .mbx] [Reg.MBX_RSPPI] s t)) ∧
    (Takes s 0x0223 → ∀ act,
      (s.upd.running = false ∨ s.camp.phase ≠ 4 → Denied (.nbActivate tag act) s 0x0223 tag 0x81) ∧
      (s.upd.running = true → s.camp.phase = 4 →
        (act < s.now + 3 * s.camp.chgap * (sec04 s).hper * 1000000 + 60000000000 → Denied (.nbActivate tag act) s 0x0223 tag St.BAD_PARAM) ∧
        (s.now + 3 * s.camp.chgap * (sec04 s).hper * 1000000 + 60000000000 ≤ act → s.camp.mode = 0 → s.camp.uni = [] → Reportable s → Roomy s → Completes (.nbActivate tag act) s fun t =>
          Answers s t 0x0223 tag 0 s.tai [] ∧ t.camp = { s.camp with act := act, todo := [(0x43, 0), (0x43, 0), (0x43, 0)], phase := 5 } ∧
          Logged s t 8 Ev.NB_CAMPAIGN_PHASE [s.camp.no, 5, s.camp.complete] ∧ t.rd Reg.UPD_NBSTAT_PHASE = 5 ∧ t.upd.running = true ∧ Parts [.upd, .mbx, .recs] s t))) ∧
    (Takes s 0x0224 →
      (s.upd.running = false → Denied (.nbAbort tag) s 0x0224 tag 0x83) ∧
      (s.upd.running = true → Reportable s → Roomy s →
        (s.camp.phase = 5 → s.camp.act ≤ s.now → Completes (.nbAbort tag) s fun t => Answers s t 0x0224 tag 0 s.tai [] ∧ t.upd.running = false ∧ t.camp.phase = 6 ∧ t.camp.todo = [] ∧
          Reported s t 0x0201 0 (nodeBody 0xFFFFFF s.now (campStatus t.camp)) ∧ Parts [.upd, .mbx, .recs] s t) ∧
        (s.camp.phase ≠ 5 → s.camp.mode = 0 → (∀ p ∈ s.lnt.nodes, p.2.tsc = 0) → s.lnt.used = [] → Completes (.nbAbort tag) s fun t => Answers s t 0x0224 tag 0 s.tai [] ∧
          t.upd.running = false ∧ t.camp.phase = 6 ∧ (∃ h, t.lnt.howls = s.lnt.howls ++ [h] ∧ h.op = 0x44 ∧ h.origin = 2 ∧ h.scope = 0 ∧ h.group = s.camp.group ∧
            h.ttl = s.camp.ttl ∧ h.body = le 2 s.camp.no) ∧ Logged s t 8 Ev.NB_CAMPAIGN_PHASE [s.camp.no, 6, s.camp.complete] ∧ Parts [.upd, .mbx, .recs, .lnt] s t))) ∧
    (Takes s 0x0225 → Completes (.nbStatus tag) s fun t => Answers s t 0x0225 tag 0 s.tai (le 2 s.camp.no ++ le 1 s.camp.phase ++ le 1 s.camp.round ++ le 4 s.camp.members.length ++
      le 4 s.camp.complete ++ le 4 s.camp.failed.length ++ le 4 (s.camp.count (· = 4)) ++ le 4 (s.camp.count (· = 5))) ∧ Only [.mbx] [Reg.MBX_RSPPI] s t) ∧
    (s.runs 1 = true → s.upd.running = true →
      (∀ w v, s.camp.slot = some v → w ≤ v ∨ (w - v) % max 1 s.camp.chgap ≠ 0 → Completes (.campaignSlot w) s fun t => Only [] [] s t) ∧
      (∀ w, s.camp.slot = none →
        (∀ h, s.lnt.howls = [h] → h.origin ≠ 2 → h.todo ≠ [] → Completes (.campaignSlot w) s fun t => t.upd = { s.upd with camp := { s.camp with slot := some w } } ∧ Only [.upd] [] s t) ∧
        (s.lnt.howls = [] → s.lnt.used = [] → (∀ p ∈ s.lnt.nodes, p.2.tsc = 0) →
          (∀ op i l, s.camp.todo = (op, i) :: l → Completes (.campaignSlot w) s fun t => t.upd = { s.upd with camp := { s.camp with slot := some w, todo := l, queryAt := if op = 0x42 then s.up else s.camp.queryAt } } ∧
            (∃ h, t.lnt.howls = [h] ∧ h.op = op ∧ h.origin = 2 ∧ h.group = s.camp.group ∧ h.ttl = s.camp.ttl ∧ h.body = nbBody s.camp op i s.camp.nackwin) ∧ Parts [.upd, .lnt] s t) ∧
          (s.camp.todo = [] → s.camp.phase = 1 → s.camp.mode = 0 → Reportable s → Roomy s → Completes (.campaignSlot w) s fun t => t.camp.phase = 2 ∧ t.camp.round = s.camp.round + 1 ∧
            t.camp.answered = [] ∧ t.camp.todo = [] ∧ (∃ h, t.lnt.howls = [h] ∧ h.op = 0x42 ∧ h.body = le 2 s.camp.no ++ le 4 s.camp.nackwin) ∧
            Logged s t 8 Ev.NB_CAMPAIGN_PHASE [s.camp.no, 2, s.camp.complete] ∧ Parts [.upd, .lnt, .mbx, .recs] s t))) ∧
      (s.up < s.camp.queryAt + (s.camp.nackwin + 60) * 1000000000 → Completes .campaignQueryEnd s fun t => Only [] [] s t) ∧
      (s.camp.todo = [] → s.camp.queryAt + (s.camp.nackwin + 60) * 1000000000 ≤ s.up → Reportable s → Roomy s →
        (s.camp.phase = 5 → s.camp.acted = true → Completes .campaignQueryEnd s fun t => t.upd.running = false ∧ t.camp = { s.camp with phase := 6 } ∧
          Reported s t 0x0201 0 (nodeBody 0xFFFFFF s.now (campStatus t.camp)) ∧ t.rd Reg.UPD_NBSTAT_PHASE = 6 ∧ Parts [.upd, .mbx, .recs] s t) ∧
        (s.camp.phase = 2 → (∀ ln ∈ s.camp.members, s.camp.stOf ln = some 1 ∧ ln ∈ s.camp.answered) → Completes .campaignQueryEnd s fun t => t.camp = { s.camp with phase := 4, failed := [], queryAt := s.up } ∧
          Reported s t 0x0201 0 (nodeBody 0xFFFFFF s.now (campStatus t.camp)) ∧ Logged s t 8 Ev.NB_CAMPAIGN_PHASE [s.camp.no, 4, s.camp.members.length] ∧ Parts [.upd, .mbx, .recs] s t)) ∧
      (s.now < s.camp.act + 960000000000 → Completes .campaignActQuery s fun t => Only [] [] s t) ∧
      (s.camp.phase = 5 → s.camp.acted = false → s.camp.mode = 0 → s.camp.act + 960000000000 ≤ s.now → Completes .campaignActQuery s fun t =>
        t.upd = { s.upd with camp := { s.camp with acted := true, answered := [], todo := [(0x42, 0)] } } ∧ Only [.upd] [] s t))
end

