-- ==== Sys2Proof/Laws/Data.lean ====
section
/-! SUPPORT. Laws of the plain data: tables by key, the register file, and the byte memories with their canonical form. -/
namespace Sys2Proof

/-! ### Tables by key -/

/-- What a table answers after an entry is put in it, whatever its order. -/
theorem KMap.get?_set {α : Type} (m : KMap α) (k k' : Nat) (a : α) :
    (m.set k a).get? k' = if k' = k then some a else m.get? k' := by
  induction m with
  | nil =>
    simp only [KMap.set, KMap.get?]
    repeat' split
    all_goals first | rfl | omega
  | cons p m ih =>
    obtain ⟨j, b⟩ := p
    simp only [KMap.set]
    by_cases h1 : j < k
    · simp only [h1, if_true, KMap.get?, ih]
      repeat' split
      all_goals first | rfl | omega
    · by_cases h2 : j = k
      · simp only [h2, if_false, if_true, KMap.get?, Nat.lt_irrefl]
        repeat' split
        all_goals first | rfl | omega
      · simp only [h1, h2, if_false, KMap.get?]
        repeat' split
        all_goals first | rfl | omega

@[simp] theorem KMap.get?_set_self {α : Type} (m : KMap α) (k : Nat) (a : α) : (m.set k a).get? k = some a := by
  simp [KMap.get?_set]

theorem KMap.get?_set_of_ne {α : Type} (m : KMap α) {k k' : Nat} (a : α) (h : k' ≠ k) :
    (m.set k a).get? k' = m.get? k' := by
  simp [KMap.get?_set, h]

/-- An entry of a table after one is put in is that one or was there. -/
theorem KMap.mem_set {α : Type} {m : KMap α} {k : Nat} {a : α} {q : Nat × α} (h : q ∈ m.set k a) : q = (k, a) ∨ q ∈ m := by
  induction m with
  | nil => exact .inl (List.mem_singleton.mp h)
  | cons p m ih =>
    simp only [KMap.set] at h
    split at h
    · rcases List.mem_cons.mp h with h | h
      · exact .inr (h ▸ List.mem_cons_self)
      · exact (ih h).imp id (List.mem_cons_of_mem _)
    · split at h
      · rcases List.mem_cons.mp h with h | h
        · exact .inl h
        · exact .inr (List.mem_cons_of_mem _ h)
      · rcases List.mem_cons.mp h with h | h
        · exact .inl h
        · exact .inr h

/-- What a table answers is one of its entries. -/
theorem KMap.mem_of_get? {α : Type} {m : KMap α} {k : Nat} {a : α} (h : m.get? k = some a) : (k, a) ∈ m := by
  induction m with
  | nil => cases h
  | cons p m ih =>
    simp only [KMap.get?] at h
    split at h
    · rename_i e
      cases h
      exact e ▸ List.mem_cons_self
    · exact List.mem_cons_of_mem _ (ih h)

/-- A filter that keeps every entry under `k` keeps what the table answers there. -/
theorem KMap.get?_filter {α : Type} (m : KMap α) (p : Nat × α → Bool) (k : Nat) (h : ∀ a, p (k, a) = true) :
    KMap.get? (m.filter p) k = m.get? k := by
  induction m with
  | nil => rfl
  | cons q m ih =>
    obtain ⟨j, b⟩ := q
    by_cases hj : j = k
    · subst hj; simp [h, KMap.get?]
    · by_cases hp : p (j, b) = true <;> simp [hp, hj, KMap.get?, ih]

/-- What a table answers after an entry is dropped. -/
theorem KMap.get?_erase {α : Type} (m : KMap α) (k k' : Nat) :
    (m.erase k).get? k' = if k' = k then none else m.get? k' := by
  induction m with
  | nil => simp [KMap.erase, KMap.get?]
  | cons q m ih =>
    obtain ⟨j, b⟩ := q
    simp only [KMap.erase] at ih ⊢
    by_cases hj : j = k
    · subst hj; simp only [bne_self_eq_false, Bool.false_eq_true, not_false_eq_true, List.filter_cons_of_neg, ih, KMap.get?]
      by_cases hk : k' = j
      · simp [hk]
      · simp [hk, Ne.symm hk]
    · have : (j != k) = true := by simpa using hj
      simp only [this, List.filter_cons_of_pos, KMap.get?, ih]
      by_cases hk : j = k'
      · subst hk; simp [hj]
      · simp [hk]

theorem KMap.getD_set {α : Type} (m : KMap α) (k k' : Nat) (a d : α) :
    (m.set k a).getD k' d = if k' = k then a else m.getD k' d := by
  simp only [KMap.getD, KMap.get?_set]
  split <;> rfl

@[simp] theorem KMap.getD_set_self {α : Type} (m : KMap α) (k : Nat) (a d : α) : (m.set k a).getD k d = a := by
  simp [KMap.getD_set]

/-! ### Byte memories -/

/-- Reading after writing one byte. -/
theorem Mem.read_write (fill : Byte) (m : Mem) (a a' : Nat) (b : Byte) (lo : Nat) (h : Mem.wfFrom fill lo m = true) :
    Mem.read fill (Mem.write fill m a b) a' = if a' = a then b else Mem.read fill m a' := by
  induction m generalizing lo with
  | nil =>
    simp only [Mem.write]
    split <;> simp only [Mem.read] <;> repeat' split
    all_goals first | rfl | omega | simp_all
  | cons p m ih =>
    obtain ⟨j, c⟩ := p
    simp only [Mem.wfFrom, Bool.and_eq_true, decide_eq_true_eq] at h
    have hm := ih _ h.2
    simp only [Mem.write]
    by_cases h1 : j < a
    · simp only [h1, if_true, Mem.read, hm]
      repeat' split
      all_goals first | rfl | omega
    · simp only [h1, if_false]
      by_cases h2 : j = a
      · subst h2
        simp only [if_true]
        by_cases hb : b = fill
        · simp only [hb, if_true, Mem.read]
          have key : ∀ (l : Mem) (x : Nat), Mem.wfFrom fill x l = true → ∀ y, y < x → Mem.read fill l y = fill := by
            intro l
            cases l with
            | nil => intros; rfl
            | cons q l =>
              intro x hx y hy
              simp only [Mem.wfFrom, Bool.and_eq_true, decide_eq_true_eq] at hx
              simp only [Mem.read]
              repeat' split
              all_goals first | rfl | omega
          by_cases e : a' = j
          · subst e; simp [key m _ h.2 a' (Nat.lt_succ_self a')]
          · simp only [e, if_false]
            by_cases l : j < a'
            · simp [l]
            · have : a' < j + 1 := by omega
              simp [l, key m _ h.2 a' this]; intro; omega
        · simp only [hb, if_false, Mem.read]
          repeat' split
          all_goals first | rfl | omega
      · simp only [h2, if_false]
        by_cases hb : b = fill
        · simp only [hb, if_true, Mem.read]
          repeat' split
          all_goals first | rfl | omega | simp_all
        · simp only [hb, if_false, Mem.read]
          repeat' split
          all_goals first | rfl | omega

/-- A lower bound of the addresses may be lowered. -/
theorem Mem.wfFrom_mono (fill : Byte) (m : Mem) {lo lo' : Nat} (h : lo' ≤ lo) (hm : Mem.wfFrom fill lo m = true) :
    Mem.wfFrom fill lo' m = true := by
  cases m with
  | nil => rfl
  | cons p m =>
    simp only [Mem.wfFrom, Bool.and_eq_true, decide_eq_true_eq] at hm ⊢
    exact ⟨⟨Nat.le_trans h hm.1.1, hm.1.2⟩, hm.2⟩

/-- A write keeps the canonical form. -/
theorem Mem.wfFrom_write (fill : Byte) (m : Mem) (lo a : Nat) (b : Byte) (ha : lo ≤ a)
    (h : Mem.wfFrom fill lo m = true) : Mem.wfFrom fill lo (Mem.write fill m a b) = true := by
  induction m generalizing lo with
  | nil =>
    simp only [Mem.write]
    split <;> simp_all [Mem.wfFrom]
  | cons p m ih =>
    obtain ⟨j, c⟩ := p
    have h' := h
    simp only [Mem.wfFrom, Bool.and_eq_true, decide_eq_true_eq] at h
    simp only [Mem.write]
    split
    · simp only [Mem.wfFrom, Bool.and_eq_true, decide_eq_true_eq]
      exact ⟨h.1, ih _ (by omega) h.2⟩
    · split
      · split
        · exact Mem.wfFrom_mono fill m (by omega) h.2
        · subst_vars
          simp only [Mem.wfFrom, Bool.and_eq_true, decide_eq_true_eq]
          exact ⟨⟨ha, by assumption⟩, h.2⟩
      · split
        · exact h'
        · simp only [Mem.wfFrom, Bool.and_eq_true, decide_eq_true_eq]
          exact ⟨⟨ha, by assumption⟩, ⟨by omega, h.1.2⟩, h.2⟩

/-- Every memory operation keeps the canonical form: one byte written. -/
theorem Mem.wf_write (fill : Byte) (m : Mem) (a : Nat) (b : Byte) (h : Mem.wf fill m = true) :
    Mem.wf fill (Mem.write fill m a b) = true := Mem.wfFrom_write fill m 0 a b (Nat.zero_le a) h

/-- Every memory operation keeps the canonical form: a list of bytes written. -/
theorem Mem.wf_writeList (fill : Byte) (bs : List Byte) (m : Mem) (a : Nat) (h : Mem.wf fill m = true) :
    Mem.wf fill (Mem.writeList fill m a bs) = true := by
  induction bs generalizing m a with
  | nil => exact h
  | cons b bs ih => exact ih _ _ (Mem.wf_write fill m a b h)

/-- Every memory operation keeps the canonical form: an erase. -/
theorem Mem.wfFrom_filter (fill : Byte) (p : Nat × BitVec 8 → Bool) (m : Mem) (lo : Nat) (h : Mem.wfFrom fill lo m = true) :
    Mem.wfFrom fill lo (m.filter p) = true := by
  induction m generalizing lo with
  | nil => rfl
  | cons q m ih =>
    simp only [Mem.wfFrom, Bool.and_eq_true, decide_eq_true_eq] at h
    simp only [List.filter]
    split
    · simp only [Mem.wfFrom, Bool.and_eq_true, decide_eq_true_eq]
      exact ⟨h.1, ih _ h.2⟩
    · exact Mem.wfFrom_mono fill _ (by omega) (ih _ h.2)

@[inherit_doc Mem.wfFrom_filter]
theorem Mem.wf_clear (fill : Byte) (m : Mem) (a n : Nat) (h : Mem.wf fill m = true) :
    Mem.wf fill (Mem.clear a n m) = true := Mem.wfFrom_filter fill _ m 0 h

/-- Reading after writing, in a canonical memory. -/
theorem Mem.read_write_wf (fill : Byte) (m : Mem) (a a' : Nat) (b : Byte) (h : Mem.wf fill m = true) :
    Mem.read fill (Mem.write fill m a b) a' = if a' = a then b else Mem.read fill m a' := Mem.read_write fill m a a' b 0 h

namespace Machine

/-! ### The register file -/

theorem Regs.rd_wr (r : Regs) (f g : Fld) (v : Nat) :
    (r.wr f v).rd g = if g.key = f.key then v % 2 ^ f.w else r.rd g := KMap.getD_set r f.key g.key _ 0

/-- A field holds what was stored in it, cut to its width. -/
@[simp] theorem State.rd_wr_self (s : State) (f : Fld) (v : Nat) : (s.wr f v).rd f = v % 2 ^ f.w := by
  simp [State.rd, State.wr, Regs.rd_wr]

/-- Storing in a field leaves every other field alone. -/
theorem State.rd_wr_of_ne (s : State) {f g : Fld} (v : Nat) (h : g.key ≠ f.key) : (s.wr f v).rd g = s.rd g := by
  simp [State.rd, State.wr, Regs.rd_wr, h]

/-- What a field reads after another or the same has been stored. -/
theorem State.rd_wr (s : State) (f g : Fld) (v : Nat) :
    (s.wr f v).rd g = if g.key = f.key then v % 2 ^ f.w else s.rd g := Regs.rd_wr s.regs f g v

end Machine
end Sys2Proof
end

