-- ==== Sys2Proof/Laws/State.lean ====
section
/-! SUPPORT. What each update of one part of the state leaves in every other part, one lemma a field, true by definition. -/
namespace Sys2Proof.Machine

variable (s : State)

@[simp] theorem wr_pending (f : Fld) (v : Nat) : (s.wr f v).pending = s.pending := rfl
@[simp] theorem wr_fuses (f : Fld) (v : Nat) : (s.wr f v).fuses = s.fuses := rfl
@[simp] theorem wr_regs (f : Fld) (v : Nat) : (s.wr f v).regs = s.regs.wr f v := rfl
@[simp] theorem wr_pwr (f : Fld) (v : Nat) : (s.wr f v).pwr = s.pwr := rfl
@[simp] theorem wr_sup (f : Fld) (v : Nat) : (s.wr f v).sup = s.sup := rfl
@[simp] theorem wr_kn (f : Fld) (v : Nat) : (s.wr f v).kn = s.kn := rfl
@[simp] theorem wr_arb (f : Fld) (v : Nat) : (s.wr f v).arb = s.arb := rfl
@[simp] theorem wr_pins (f : Fld) (v : Nat) : (s.wr f v).pins = s.pins := rfl
@[simp] theorem wr_mbx (f : Fld) (v : Nat) : (s.wr f v).mbx = s.mbx := rfl
@[simp] theorem wr_hbr (f : Fld) (v : Nat) : (s.wr f v).hbr = s.hbr := rfl
@[simp] theorem wr_tb (f : Fld) (v : Nat) : (s.wr f v).tb = s.tb := rfl
@[simp] theorem wr_rad (f : Fld) (v : Nat) : (s.wr f v).rad = s.rad := rfl
@[simp] theorem wr_recs (f : Fld) (v : Nat) : (s.wr f v).recs = s.recs := rfl
@[simp] theorem wr_arc (f : Fld) (v : Nat) : (s.wr f v).arc = s.arc := rfl
@[simp] theorem wr_lnt (f : Fld) (v : Nat) : (s.wr f v).lnt = s.lnt := rfl
@[simp] theorem wr_lux (f : Fld) (v : Nat) : (s.wr f v).lux = s.lux := rfl
@[simp] theorem wr_fwd (f : Fld) (v : Nat) : (s.wr f v).fwd = s.fwd := rfl
@[simp] theorem wr_half (f : Fld) (v : Nat) : (s.wr f v).half = s.half := rfl
@[simp] theorem wr_bk (f : Fld) (v : Nat) : (s.wr f v).bk = s.bk := rfl
@[simp] theorem wr_wear (f : Fld) (v : Nat) : (s.wr f v).wear = s.wear := rfl
@[simp] theorem wr_brc (f : Fld) (v : Nat) : (s.wr f v).brc = s.brc := rfl
@[simp] theorem wr_mtr (f : Fld) (v : Nat) : (s.wr f v).mtr = s.mtr := rfl
@[simp] theorem wr_key (f : Fld) (v : Nat) : (s.wr f v).key = s.key := rfl
@[simp] theorem wr_cfg (f : Fld) (v : Nat) : (s.wr f v).cfg = s.cfg := rfl
@[simp] theorem wr_upd (f : Fld) (v : Nat) : (s.wr f v).upd = s.upd := rfl
@[simp] theorem wr_free (f : Fld) (v : Nat) : (s.wr f v).free = s.free := rfl

@[simp] theorem setKn_pending (n : Nat) (k : Kennel) : (s.setKn n k).pending = s.pending := rfl
@[simp] theorem setKn_fuses (n : Nat) (k : Kennel) : (s.setKn n k).fuses = s.fuses := rfl
@[simp] theorem setKn_regs (n : Nat) (k : Kennel) : (s.setKn n k).regs = s.regs := rfl
@[simp] theorem setKn_pwr (n : Nat) (k : Kennel) : (s.setKn n k).pwr = s.pwr := rfl
@[simp] theorem setKn_sup (n : Nat) (k : Kennel) : (s.setKn n k).sup = s.sup := rfl
@[simp] theorem setKn_kn (n : Nat) (k : Kennel) : (s.setKn n k).kn = s.kn.set n k := rfl
@[simp] theorem setKn_arb (n : Nat) (k : Kennel) : (s.setKn n k).arb = s.arb := rfl
@[simp] theorem setKn_pins (n : Nat) (k : Kennel) : (s.setKn n k).pins = s.pins := rfl
@[simp] theorem setKn_mbx (n : Nat) (k : Kennel) : (s.setKn n k).mbx = s.mbx := rfl
@[simp] theorem setKn_hbr (n : Nat) (k : Kennel) : (s.setKn n k).hbr = s.hbr := rfl
@[simp] theorem setKn_tb (n : Nat) (k : Kennel) : (s.setKn n k).tb = s.tb := rfl
@[simp] theorem setKn_rad (n : Nat) (k : Kennel) : (s.setKn n k).rad = s.rad := rfl
@[simp] theorem setKn_recs (n : Nat) (k : Kennel) : (s.setKn n k).recs = s.recs := rfl
@[simp] theorem setKn_arc (n : Nat) (k : Kennel) : (s.setKn n k).arc = s.arc := rfl
@[simp] theorem setKn_lnt (n : Nat) (k : Kennel) : (s.setKn n k).lnt = s.lnt := rfl
@[simp] theorem setKn_lux (n : Nat) (k : Kennel) : (s.setKn n k).lux = s.lux := rfl
@[simp] theorem setKn_fwd (n : Nat) (k : Kennel) : (s.setKn n k).fwd = s.fwd := rfl
@[simp] theorem setKn_half (n : Nat) (k : Kennel) : (s.setKn n k).half = s.half := rfl
@[simp] theorem setKn_bk (n : Nat) (k : Kennel) : (s.setKn n k).bk = s.bk := rfl
@[simp] theorem setKn_wear (n : Nat) (k : Kennel) : (s.setKn n k).wear = s.wear := rfl
@[simp] theorem setKn_brc (n : Nat) (k : Kennel) : (s.setKn n k).brc = s.brc := rfl
@[simp] theorem setKn_mtr (n : Nat) (k : Kennel) : (s.setKn n k).mtr = s.mtr := rfl
@[simp] theorem setKn_key (n : Nat) (k : Kennel) : (s.setKn n k).key = s.key := rfl
@[simp] theorem setKn_cfg (n : Nat) (k : Kennel) : (s.setKn n k).cfg = s.cfg := rfl
@[simp] theorem setKn_upd (n : Nat) (k : Kennel) : (s.setKn n k).upd = s.upd := rfl
@[simp] theorem setKn_free (n : Nat) (k : Kennel) : (s.setKn n k).free = s.free := rfl

@[simp] theorem setHf_pending (h : Nat) (x : Half) : (s.setHf h x).pending = s.pending := rfl
@[simp] theorem setHf_fuses (h : Nat) (x : Half) : (s.setHf h x).fuses = s.fuses := rfl
@[simp] theorem setHf_regs (h : Nat) (x : Half) : (s.setHf h x).regs = s.regs := rfl
@[simp] theorem setHf_pwr (h : Nat) (x : Half) : (s.setHf h x).pwr = s.pwr := rfl
@[simp] theorem setHf_sup (h : Nat) (x : Half) : (s.setHf h x).sup = s.sup := rfl
@[simp] theorem setHf_kn (h : Nat) (x : Half) : (s.setHf h x).kn = s.kn := rfl
@[simp] theorem setHf_arb (h : Nat) (x : Half) : (s.setHf h x).arb = s.arb := rfl
@[simp] theorem setHf_pins (h : Nat) (x : Half) : (s.setHf h x).pins = s.pins := rfl
@[simp] theorem setHf_mbx (h : Nat) (x : Half) : (s.setHf h x).mbx = s.mbx := rfl
@[simp] theorem setHf_hbr (h : Nat) (x : Half) : (s.setHf h x).hbr = s.hbr := rfl
@[simp] theorem setHf_tb (h : Nat) (x : Half) : (s.setHf h x).tb = s.tb := rfl
@[simp] theorem setHf_rad (h : Nat) (x : Half) : (s.setHf h x).rad = s.rad := rfl
@[simp] theorem setHf_recs (h : Nat) (x : Half) : (s.setHf h x).recs = s.recs := rfl
@[simp] theorem setHf_arc (h : Nat) (x : Half) : (s.setHf h x).arc = s.arc := rfl
@[simp] theorem setHf_lnt (h : Nat) (x : Half) : (s.setHf h x).lnt = s.lnt := rfl
@[simp] theorem setHf_lux (h : Nat) (x : Half) : (s.setHf h x).lux = s.lux := rfl
@[simp] theorem setHf_fwd (h : Nat) (x : Half) : (s.setHf h x).fwd = s.fwd := rfl
@[simp] theorem setHf_half (h : Nat) (x : Half) : (s.setHf h x).half = s.half.set h x := rfl
@[simp] theorem setHf_bk (h : Nat) (x : Half) : (s.setHf h x).bk = s.bk := rfl
@[simp] theorem setHf_wear (h : Nat) (x : Half) : (s.setHf h x).wear = s.wear := rfl
@[simp] theorem setHf_brc (h : Nat) (x : Half) : (s.setHf h x).brc = s.brc := rfl
@[simp] theorem setHf_mtr (h : Nat) (x : Half) : (s.setHf h x).mtr = s.mtr := rfl
@[simp] theorem setHf_key (h : Nat) (x : Half) : (s.setHf h x).key = s.key := rfl
@[simp] theorem setHf_cfg (h : Nat) (x : Half) : (s.setHf h x).cfg = s.cfg := rfl
@[simp] theorem setHf_upd (h : Nat) (x : Half) : (s.setHf h x).upd = s.upd := rfl
@[simp] theorem setHf_free (h : Nat) (x : Half) : (s.setHf h x).free = s.free := rfl

@[simp] theorem setLog_pending (n : Nat) (l : Log) : (s.setLog n l).pending = s.pending := rfl
@[simp] theorem setLog_fuses (n : Nat) (l : Log) : (s.setLog n l).fuses = s.fuses := rfl
@[simp] theorem setLog_regs (n : Nat) (l : Log) : (s.setLog n l).regs = s.regs := rfl
@[simp] theorem setLog_pwr (n : Nat) (l : Log) : (s.setLog n l).pwr = s.pwr := rfl
@[simp] theorem setLog_sup (n : Nat) (l : Log) : (s.setLog n l).sup = s.sup := rfl
@[simp] theorem setLog_kn (n : Nat) (l : Log) : (s.setLog n l).kn = s.kn := rfl
@[simp] theorem setLog_arb (n : Nat) (l : Log) : (s.setLog n l).arb = s.arb := rfl
@[simp] theorem setLog_pins (n : Nat) (l : Log) : (s.setLog n l).pins = s.pins := rfl
@[simp] theorem setLog_mbx (n : Nat) (l : Log) : (s.setLog n l).mbx = s.mbx := rfl
@[simp] theorem setLog_hbr (n : Nat) (l : Log) : (s.setLog n l).hbr = s.hbr := rfl
@[simp] theorem setLog_tb (n : Nat) (l : Log) : (s.setLog n l).tb = s.tb := rfl
@[simp] theorem setLog_rad (n : Nat) (l : Log) : (s.setLog n l).rad = s.rad := rfl
@[simp] theorem setLog_recs (n : Nat) (l : Log) : (s.setLog n l).recs = { s.recs with logs := s.recs.logs.set n l } := rfl
@[simp] theorem setLog_arc (n : Nat) (l : Log) : (s.setLog n l).arc = s.arc := rfl
@[simp] theorem setLog_lnt (n : Nat) (l : Log) : (s.setLog n l).lnt = s.lnt := rfl
@[simp] theorem setLog_lux (n : Nat) (l : Log) : (s.setLog n l).lux = s.lux := rfl
@[simp] theorem setLog_fwd (n : Nat) (l : Log) : (s.setLog n l).fwd = s.fwd := rfl
@[simp] theorem setLog_half (n : Nat) (l : Log) : (s.setLog n l).half = s.half := rfl
@[simp] theorem setLog_bk (n : Nat) (l : Log) : (s.setLog n l).bk = s.bk := rfl
@[simp] theorem setLog_wear (n : Nat) (l : Log) : (s.setLog n l).wear = s.wear := rfl
@[simp] theorem setLog_brc (n : Nat) (l : Log) : (s.setLog n l).brc = s.brc := rfl
@[simp] theorem setLog_mtr (n : Nat) (l : Log) : (s.setLog n l).mtr = s.mtr := rfl
@[simp] theorem setLog_key (n : Nat) (l : Log) : (s.setLog n l).key = s.key := rfl
@[simp] theorem setLog_cfg (n : Nat) (l : Log) : (s.setLog n l).cfg = s.cfg := rfl
@[simp] theorem setLog_upd (n : Nat) (l : Log) : (s.setLog n l).upd = s.upd := rfl
@[simp] theorem setLog_free (n : Nat) (l : Log) : (s.setLog n l).free = s.free := rfl

@[simp] theorem setTb_pending (x : Tb) : (s.setTb x).pending = s.pending := rfl
@[simp] theorem setTb_fuses (x : Tb) : (s.setTb x).fuses = s.fuses := rfl
@[simp] theorem setTb_regs (x : Tb) : (s.setTb x).regs = s.regs := rfl
@[simp] theorem setTb_pwr (x : Tb) : (s.setTb x).pwr = s.pwr := rfl
@[simp] theorem setTb_sup (x : Tb) : (s.setTb x).sup = s.sup := rfl
@[simp] theorem setTb_kn (x : Tb) : (s.setTb x).kn = s.kn := rfl
@[simp] theorem setTb_arb (x : Tb) : (s.setTb x).arb = s.arb := rfl
@[simp] theorem setTb_pins (x : Tb) : (s.setTb x).pins = s.pins := rfl
@[simp] theorem setTb_mbx (x : Tb) : (s.setTb x).mbx = s.mbx := rfl
@[simp] theorem setTb_hbr (x : Tb) : (s.setTb x).hbr = s.hbr := rfl
@[simp] theorem setTb_tb (x : Tb) : (s.setTb x).tb = x := rfl
@[simp] theorem setTb_rad (x : Tb) : (s.setTb x).rad = s.rad := rfl
@[simp] theorem setTb_recs (x : Tb) : (s.setTb x).recs = s.recs := rfl
@[simp] theorem setTb_arc (x : Tb) : (s.setTb x).arc = s.arc := rfl
@[simp] theorem setTb_lnt (x : Tb) : (s.setTb x).lnt = s.lnt := rfl
@[simp] theorem setTb_lux (x : Tb) : (s.setTb x).lux = s.lux := rfl
@[simp] theorem setTb_fwd (x : Tb) : (s.setTb x).fwd = s.fwd := rfl
@[simp] theorem setTb_half (x : Tb) : (s.setTb x).half = s.half := rfl
@[simp] theorem setTb_bk (x : Tb) : (s.setTb x).bk = s.bk := rfl
@[simp] theorem setTb_wear (x : Tb) : (s.setTb x).wear = s.wear := rfl
@[simp] theorem setTb_brc (x : Tb) : (s.setTb x).brc = s.brc := rfl
@[simp] theorem setTb_mtr (x : Tb) : (s.setTb x).mtr = s.mtr := rfl
@[simp] theorem setTb_key (x : Tb) : (s.setTb x).key = s.key := rfl
@[simp] theorem setTb_cfg (x : Tb) : (s.setTb x).cfg = s.cfg := rfl
@[simp] theorem setTb_upd (x : Tb) : (s.setTb x).upd = s.upd := rfl
@[simp] theorem setTb_free (x : Tb) : (s.setTb x).free = s.free := rfl

@[simp] theorem setHbr_pending (x : Hbr) : (s.setHbr x).pending = s.pending := rfl
@[simp] theorem setHbr_fuses (x : Hbr) : (s.setHbr x).fuses = s.fuses := rfl
@[simp] theorem setHbr_regs (x : Hbr) : (s.setHbr x).regs = s.regs := rfl
@[simp] theorem setHbr_pwr (x : Hbr) : (s.setHbr x).pwr = s.pwr := rfl
@[simp] theorem setHbr_sup (x : Hbr) : (s.setHbr x).sup = s.sup := rfl
@[simp] theorem setHbr_kn (x : Hbr) : (s.setHbr x).kn = s.kn := rfl
@[simp] theorem setHbr_arb (x : Hbr) : (s.setHbr x).arb = s.arb := rfl
@[simp] theorem setHbr_pins (x : Hbr) : (s.setHbr x).pins = s.pins := rfl
@[simp] theorem setHbr_mbx (x : Hbr) : (s.setHbr x).mbx = s.mbx := rfl
@[simp] theorem setHbr_hbr (x : Hbr) : (s.setHbr x).hbr = x := rfl
@[simp] theorem setHbr_tb (x : Hbr) : (s.setHbr x).tb = s.tb := rfl
@[simp] theorem setHbr_rad (x : Hbr) : (s.setHbr x).rad = s.rad := rfl
@[simp] theorem setHbr_recs (x : Hbr) : (s.setHbr x).recs = s.recs := rfl
@[simp] theorem setHbr_arc (x : Hbr) : (s.setHbr x).arc = s.arc := rfl
@[simp] theorem setHbr_lnt (x : Hbr) : (s.setHbr x).lnt = s.lnt := rfl
@[simp] theorem setHbr_lux (x : Hbr) : (s.setHbr x).lux = s.lux := rfl
@[simp] theorem setHbr_fwd (x : Hbr) : (s.setHbr x).fwd = s.fwd := rfl
@[simp] theorem setHbr_half (x : Hbr) : (s.setHbr x).half = s.half := rfl
@[simp] theorem setHbr_bk (x : Hbr) : (s.setHbr x).bk = s.bk := rfl
@[simp] theorem setHbr_wear (x : Hbr) : (s.setHbr x).wear = s.wear := rfl
@[simp] theorem setHbr_brc (x : Hbr) : (s.setHbr x).brc = s.brc := rfl
@[simp] theorem setHbr_mtr (x : Hbr) : (s.setHbr x).mtr = s.mtr := rfl
@[simp] theorem setHbr_key (x : Hbr) : (s.setHbr x).key = s.key := rfl
@[simp] theorem setHbr_cfg (x : Hbr) : (s.setHbr x).cfg = s.cfg := rfl
@[simp] theorem setHbr_upd (x : Hbr) : (s.setHbr x).upd = s.upd := rfl
@[simp] theorem setHbr_free (x : Hbr) : (s.setHbr x).free = s.free := rfl

@[simp] theorem setUpd_pending (x : Upd) : (s.setUpd x).pending = s.pending := rfl
@[simp] theorem setUpd_fuses (x : Upd) : (s.setUpd x).fuses = s.fuses := rfl
@[simp] theorem setUpd_regs (x : Upd) : (s.setUpd x).regs = s.regs := rfl
@[simp] theorem setUpd_pwr (x : Upd) : (s.setUpd x).pwr = s.pwr := rfl
@[simp] theorem setUpd_sup (x : Upd) : (s.setUpd x).sup = s.sup := rfl
@[simp] theorem setUpd_kn (x : Upd) : (s.setUpd x).kn = s.kn := rfl
@[simp] theorem setUpd_arb (x : Upd) : (s.setUpd x).arb = s.arb := rfl
@[simp] theorem setUpd_pins (x : Upd) : (s.setUpd x).pins = s.pins := rfl
@[simp] theorem setUpd_mbx (x : Upd) : (s.setUpd x).mbx = s.mbx := rfl
@[simp] theorem setUpd_hbr (x : Upd) : (s.setUpd x).hbr = s.hbr := rfl
@[simp] theorem setUpd_tb (x : Upd) : (s.setUpd x).tb = s.tb := rfl
@[simp] theorem setUpd_rad (x : Upd) : (s.setUpd x).rad = s.rad := rfl
@[simp] theorem setUpd_recs (x : Upd) : (s.setUpd x).recs = s.recs := rfl
@[simp] theorem setUpd_arc (x : Upd) : (s.setUpd x).arc = s.arc := rfl
@[simp] theorem setUpd_lnt (x : Upd) : (s.setUpd x).lnt = s.lnt := rfl
@[simp] theorem setUpd_lux (x : Upd) : (s.setUpd x).lux = s.lux := rfl
@[simp] theorem setUpd_fwd (x : Upd) : (s.setUpd x).fwd = s.fwd := rfl
@[simp] theorem setUpd_half (x : Upd) : (s.setUpd x).half = s.half := rfl
@[simp] theorem setUpd_bk (x : Upd) : (s.setUpd x).bk = s.bk := rfl
@[simp] theorem setUpd_wear (x : Upd) : (s.setUpd x).wear = s.wear := rfl
@[simp] theorem setUpd_brc (x : Upd) : (s.setUpd x).brc = s.brc := rfl
@[simp] theorem setUpd_mtr (x : Upd) : (s.setUpd x).mtr = s.mtr := rfl
@[simp] theorem setUpd_key (x : Upd) : (s.setUpd x).key = s.key := rfl
@[simp] theorem setUpd_cfg (x : Upd) : (s.setUpd x).cfg = s.cfg := rfl
@[simp] theorem setUpd_upd (x : Upd) : (s.setUpd x).upd = x := rfl
@[simp] theorem setUpd_free (x : Upd) : (s.setUpd x).free = s.free := rfl

@[simp] theorem setRad_pending (x : Radio) : (s.setRad x).pending = s.pending := rfl
@[simp] theorem setRad_fuses (x : Radio) : (s.setRad x).fuses = s.fuses := rfl
@[simp] theorem setRad_regs (x : Radio) : (s.setRad x).regs = s.regs := rfl
@[simp] theorem setRad_pwr (x : Radio) : (s.setRad x).pwr = s.pwr := rfl
@[simp] theorem setRad_sup (x : Radio) : (s.setRad x).sup = s.sup := rfl
@[simp] theorem setRad_kn (x : Radio) : (s.setRad x).kn = s.kn := rfl
@[simp] theorem setRad_arb (x : Radio) : (s.setRad x).arb = s.arb := rfl
@[simp] theorem setRad_pins (x : Radio) : (s.setRad x).pins = s.pins := rfl
@[simp] theorem setRad_mbx (x : Radio) : (s.setRad x).mbx = s.mbx := rfl
@[simp] theorem setRad_hbr (x : Radio) : (s.setRad x).hbr = s.hbr := rfl
@[simp] theorem setRad_tb (x : Radio) : (s.setRad x).tb = s.tb := rfl
@[simp] theorem setRad_rad (x : Radio) : (s.setRad x).rad = x := rfl
@[simp] theorem setRad_recs (x : Radio) : (s.setRad x).recs = s.recs := rfl
@[simp] theorem setRad_arc (x : Radio) : (s.setRad x).arc = s.arc := rfl
@[simp] theorem setRad_lnt (x : Radio) : (s.setRad x).lnt = s.lnt := rfl
@[simp] theorem setRad_lux (x : Radio) : (s.setRad x).lux = s.lux := rfl
@[simp] theorem setRad_fwd (x : Radio) : (s.setRad x).fwd = s.fwd := rfl
@[simp] theorem setRad_half (x : Radio) : (s.setRad x).half = s.half := rfl
@[simp] theorem setRad_bk (x : Radio) : (s.setRad x).bk = s.bk := rfl
@[simp] theorem setRad_wear (x : Radio) : (s.setRad x).wear = s.wear := rfl
@[simp] theorem setRad_brc (x : Radio) : (s.setRad x).brc = s.brc := rfl
@[simp] theorem setRad_mtr (x : Radio) : (s.setRad x).mtr = s.mtr := rfl
@[simp] theorem setRad_key (x : Radio) : (s.setRad x).key = s.key := rfl
@[simp] theorem setRad_cfg (x : Radio) : (s.setRad x).cfg = s.cfg := rfl
@[simp] theorem setRad_upd (x : Radio) : (s.setRad x).upd = s.upd := rfl
@[simp] theorem setRad_free (x : Radio) : (s.setRad x).free = s.free := rfl

@[simp] theorem setArc_pending (x : Arc) : (s.setArc x).pending = s.pending := rfl
@[simp] theorem setArc_fuses (x : Arc) : (s.setArc x).fuses = s.fuses := rfl
@[simp] theorem setArc_regs (x : Arc) : (s.setArc x).regs = s.regs := rfl
@[simp] theorem setArc_pwr (x : Arc) : (s.setArc x).pwr = s.pwr := rfl
@[simp] theorem setArc_sup (x : Arc) : (s.setArc x).sup = s.sup := rfl
@[simp] theorem setArc_kn (x : Arc) : (s.setArc x).kn = s.kn := rfl
@[simp] theorem setArc_arb (x : Arc) : (s.setArc x).arb = s.arb := rfl
@[simp] theorem setArc_pins (x : Arc) : (s.setArc x).pins = s.pins := rfl
@[simp] theorem setArc_mbx (x : Arc) : (s.setArc x).mbx = s.mbx := rfl
@[simp] theorem setArc_hbr (x : Arc) : (s.setArc x).hbr = s.hbr := rfl
@[simp] theorem setArc_tb (x : Arc) : (s.setArc x).tb = s.tb := rfl
@[simp] theorem setArc_rad (x : Arc) : (s.setArc x).rad = s.rad := rfl
@[simp] theorem setArc_recs (x : Arc) : (s.setArc x).recs = s.recs := rfl
@[simp] theorem setArc_arc (x : Arc) : (s.setArc x).arc = x := rfl
@[simp] theorem setArc_lnt (x : Arc) : (s.setArc x).lnt = s.lnt := rfl
@[simp] theorem setArc_lux (x : Arc) : (s.setArc x).lux = s.lux := rfl
@[simp] theorem setArc_fwd (x : Arc) : (s.setArc x).fwd = s.fwd := rfl
@[simp] theorem setArc_half (x : Arc) : (s.setArc x).half = s.half := rfl
@[simp] theorem setArc_bk (x : Arc) : (s.setArc x).bk = s.bk := rfl
@[simp] theorem setArc_wear (x : Arc) : (s.setArc x).wear = s.wear := rfl
@[simp] theorem setArc_brc (x : Arc) : (s.setArc x).brc = s.brc := rfl
@[simp] theorem setArc_mtr (x : Arc) : (s.setArc x).mtr = s.mtr := rfl
@[simp] theorem setArc_key (x : Arc) : (s.setArc x).key = s.key := rfl
@[simp] theorem setArc_cfg (x : Arc) : (s.setArc x).cfg = s.cfg := rfl
@[simp] theorem setArc_upd (x : Arc) : (s.setArc x).upd = s.upd := rfl
@[simp] theorem setArc_free (x : Arc) : (s.setArc x).free = s.free := rfl

@[simp] theorem setFwd_pending (x : Fwd) : (s.setFwd x).pending = s.pending := rfl
@[simp] theorem setFwd_fuses (x : Fwd) : (s.setFwd x).fuses = s.fuses := rfl
@[simp] theorem setFwd_regs (x : Fwd) : (s.setFwd x).regs = s.regs := rfl
@[simp] theorem setFwd_pwr (x : Fwd) : (s.setFwd x).pwr = s.pwr := rfl
@[simp] theorem setFwd_sup (x : Fwd) : (s.setFwd x).sup = s.sup := rfl
@[simp] theorem setFwd_kn (x : Fwd) : (s.setFwd x).kn = s.kn := rfl
@[simp] theorem setFwd_arb (x : Fwd) : (s.setFwd x).arb = s.arb := rfl
@[simp] theorem setFwd_pins (x : Fwd) : (s.setFwd x).pins = s.pins := rfl
@[simp] theorem setFwd_mbx (x : Fwd) : (s.setFwd x).mbx = s.mbx := rfl
@[simp] theorem setFwd_hbr (x : Fwd) : (s.setFwd x).hbr = s.hbr := rfl
@[simp] theorem setFwd_tb (x : Fwd) : (s.setFwd x).tb = s.tb := rfl
@[simp] theorem setFwd_rad (x : Fwd) : (s.setFwd x).rad = s.rad := rfl
@[simp] theorem setFwd_recs (x : Fwd) : (s.setFwd x).recs = s.recs := rfl
@[simp] theorem setFwd_arc (x : Fwd) : (s.setFwd x).arc = s.arc := rfl
@[simp] theorem setFwd_lnt (x : Fwd) : (s.setFwd x).lnt = s.lnt := rfl
@[simp] theorem setFwd_lux (x : Fwd) : (s.setFwd x).lux = s.lux := rfl
@[simp] theorem setFwd_fwd (x : Fwd) : (s.setFwd x).fwd = x := rfl
@[simp] theorem setFwd_half (x : Fwd) : (s.setFwd x).half = s.half := rfl
@[simp] theorem setFwd_bk (x : Fwd) : (s.setFwd x).bk = s.bk := rfl
@[simp] theorem setFwd_wear (x : Fwd) : (s.setFwd x).wear = s.wear := rfl
@[simp] theorem setFwd_brc (x : Fwd) : (s.setFwd x).brc = s.brc := rfl
@[simp] theorem setFwd_mtr (x : Fwd) : (s.setFwd x).mtr = s.mtr := rfl
@[simp] theorem setFwd_key (x : Fwd) : (s.setFwd x).key = s.key := rfl
@[simp] theorem setFwd_cfg (x : Fwd) : (s.setFwd x).cfg = s.cfg := rfl
@[simp] theorem setFwd_upd (x : Fwd) : (s.setFwd x).upd = s.upd := rfl
@[simp] theorem setFwd_free (x : Fwd) : (s.setFwd x).free = s.free := rfl

@[simp] theorem setKey_pending (x : Keys) : (s.setKey x).pending = s.pending := rfl
@[simp] theorem setKey_fuses (x : Keys) : (s.setKey x).fuses = s.fuses := rfl
@[simp] theorem setKey_regs (x : Keys) : (s.setKey x).regs = s.regs := rfl
@[simp] theorem setKey_pwr (x : Keys) : (s.setKey x).pwr = s.pwr := rfl
@[simp] theorem setKey_sup (x : Keys) : (s.setKey x).sup = s.sup := rfl
@[simp] theorem setKey_kn (x : Keys) : (s.setKey x).kn = s.kn := rfl
@[simp] theorem setKey_arb (x : Keys) : (s.setKey x).arb = s.arb := rfl
@[simp] theorem setKey_pins (x : Keys) : (s.setKey x).pins = s.pins := rfl
@[simp] theorem setKey_mbx (x : Keys) : (s.setKey x).mbx = s.mbx := rfl
@[simp] theorem setKey_hbr (x : Keys) : (s.setKey x).hbr = s.hbr := rfl
@[simp] theorem setKey_tb (x : Keys) : (s.setKey x).tb = s.tb := rfl
@[simp] theorem setKey_rad (x : Keys) : (s.setKey x).rad = s.rad := rfl
@[simp] theorem setKey_recs (x : Keys) : (s.setKey x).recs = s.recs := rfl
@[simp] theorem setKey_arc (x : Keys) : (s.setKey x).arc = s.arc := rfl
@[simp] theorem setKey_lnt (x : Keys) : (s.setKey x).lnt = s.lnt := rfl
@[simp] theorem setKey_lux (x : Keys) : (s.setKey x).lux = s.lux := rfl
@[simp] theorem setKey_fwd (x : Keys) : (s.setKey x).fwd = s.fwd := rfl
@[simp] theorem setKey_half (x : Keys) : (s.setKey x).half = s.half := rfl
@[simp] theorem setKey_bk (x : Keys) : (s.setKey x).bk = s.bk := rfl
@[simp] theorem setKey_wear (x : Keys) : (s.setKey x).wear = s.wear := rfl
@[simp] theorem setKey_brc (x : Keys) : (s.setKey x).brc = s.brc := rfl
@[simp] theorem setKey_mtr (x : Keys) : (s.setKey x).mtr = s.mtr := rfl
@[simp] theorem setKey_key (x : Keys) : (s.setKey x).key = x := rfl
@[simp] theorem setKey_cfg (x : Keys) : (s.setKey x).cfg = s.cfg := rfl
@[simp] theorem setKey_upd (x : Keys) : (s.setKey x).upd = s.upd := rfl
@[simp] theorem setKey_free (x : Keys) : (s.setKey x).free = s.free := rfl

@[simp] theorem setLux_pending (x : Lux) : (s.setLux x).pending = s.pending := rfl
@[simp] theorem setLux_fuses (x : Lux) : (s.setLux x).fuses = s.fuses := rfl
@[simp] theorem setLux_regs (x : Lux) : (s.setLux x).regs = s.regs := rfl
@[simp] theorem setLux_pwr (x : Lux) : (s.setLux x).pwr = s.pwr := rfl
@[simp] theorem setLux_sup (x : Lux) : (s.setLux x).sup = s.sup := rfl
@[simp] theorem setLux_kn (x : Lux) : (s.setLux x).kn = s.kn := rfl
@[simp] theorem setLux_arb (x : Lux) : (s.setLux x).arb = s.arb := rfl
@[simp] theorem setLux_pins (x : Lux) : (s.setLux x).pins = s.pins := rfl
@[simp] theorem setLux_mbx (x : Lux) : (s.setLux x).mbx = s.mbx := rfl
@[simp] theorem setLux_hbr (x : Lux) : (s.setLux x).hbr = s.hbr := rfl
@[simp] theorem setLux_tb (x : Lux) : (s.setLux x).tb = s.tb := rfl
@[simp] theorem setLux_rad (x : Lux) : (s.setLux x).rad = s.rad := rfl
@[simp] theorem setLux_recs (x : Lux) : (s.setLux x).recs = s.recs := rfl
@[simp] theorem setLux_arc (x : Lux) : (s.setLux x).arc = s.arc := rfl
@[simp] theorem setLux_lnt (x : Lux) : (s.setLux x).lnt = s.lnt := rfl
@[simp] theorem setLux_lux (x : Lux) : (s.setLux x).lux = x := rfl
@[simp] theorem setLux_fwd (x : Lux) : (s.setLux x).fwd = s.fwd := rfl
@[simp] theorem setLux_half (x : Lux) : (s.setLux x).half = s.half := rfl
@[simp] theorem setLux_bk (x : Lux) : (s.setLux x).bk = s.bk := rfl
@[simp] theorem setLux_wear (x : Lux) : (s.setLux x).wear = s.wear := rfl
@[simp] theorem setLux_brc (x : Lux) : (s.setLux x).brc = s.brc := rfl
@[simp] theorem setLux_mtr (x : Lux) : (s.setLux x).mtr = s.mtr := rfl
@[simp] theorem setLux_key (x : Lux) : (s.setLux x).key = s.key := rfl
@[simp] theorem setLux_cfg (x : Lux) : (s.setLux x).cfg = s.cfg := rfl
@[simp] theorem setLux_upd (x : Lux) : (s.setLux x).upd = s.upd := rfl
@[simp] theorem setLux_free (x : Lux) : (s.setLux x).free = s.free := rfl

@[simp] theorem setMtr_pending (x : Meter) : (s.setMtr x).pending = s.pending := rfl
@[simp] theorem setMtr_fuses (x : Meter) : (s.setMtr x).fuses = s.fuses := rfl
@[simp] theorem setMtr_regs (x : Meter) : (s.setMtr x).regs = s.regs := rfl
@[simp] theorem setMtr_pwr (x : Meter) : (s.setMtr x).pwr = s.pwr := rfl
@[simp] theorem setMtr_sup (x : Meter) : (s.setMtr x).sup = s.sup := rfl
@[simp] theorem setMtr_kn (x : Meter) : (s.setMtr x).kn = s.kn := rfl
@[simp] theorem setMtr_arb (x : Meter) : (s.setMtr x).arb = s.arb := rfl
@[simp] theorem setMtr_pins (x : Meter) : (s.setMtr x).pins = s.pins := rfl
@[simp] theorem setMtr_mbx (x : Meter) : (s.setMtr x).mbx = s.mbx := rfl
@[simp] theorem setMtr_hbr (x : Meter) : (s.setMtr x).hbr = s.hbr := rfl
@[simp] theorem setMtr_tb (x : Meter) : (s.setMtr x).tb = s.tb := rfl
@[simp] theorem setMtr_rad (x : Meter) : (s.setMtr x).rad = s.rad := rfl
@[simp] theorem setMtr_recs (x : Meter) : (s.setMtr x).recs = s.recs := rfl
@[simp] theorem setMtr_arc (x : Meter) : (s.setMtr x).arc = s.arc := rfl
@[simp] theorem setMtr_lnt (x : Meter) : (s.setMtr x).lnt = s.lnt := rfl
@[simp] theorem setMtr_lux (x : Meter) : (s.setMtr x).lux = s.lux := rfl
@[simp] theorem setMtr_fwd (x : Meter) : (s.setMtr x).fwd = s.fwd := rfl
@[simp] theorem setMtr_half (x : Meter) : (s.setMtr x).half = s.half := rfl
@[simp] theorem setMtr_bk (x : Meter) : (s.setMtr x).bk = s.bk := rfl
@[simp] theorem setMtr_wear (x : Meter) : (s.setMtr x).wear = s.wear := rfl
@[simp] theorem setMtr_brc (x : Meter) : (s.setMtr x).brc = s.brc := rfl
@[simp] theorem setMtr_mtr (x : Meter) : (s.setMtr x).mtr = x := rfl
@[simp] theorem setMtr_key (x : Meter) : (s.setMtr x).key = s.key := rfl
@[simp] theorem setMtr_cfg (x : Meter) : (s.setMtr x).cfg = s.cfg := rfl
@[simp] theorem setMtr_upd (x : Meter) : (s.setMtr x).upd = s.upd := rfl
@[simp] theorem setMtr_free (x : Meter) : (s.setMtr x).free = s.free := rfl

@[simp] theorem setSeq_pending (n : Nat) : (s.setSeq n).pending = s.pending := rfl
@[simp] theorem setSeq_fuses (n : Nat) : (s.setSeq n).fuses = s.fuses := rfl
@[simp] theorem setSeq_regs (n : Nat) : (s.setSeq n).regs = s.regs := rfl
@[simp] theorem setSeq_pwr (n : Nat) : (s.setSeq n).pwr = s.pwr := rfl
@[simp] theorem setSeq_sup (n : Nat) : (s.setSeq n).sup = { s.sup with seq := n } := rfl
@[simp] theorem setSeq_kn (n : Nat) : (s.setSeq n).kn = s.kn := rfl
@[simp] theorem setSeq_arb (n : Nat) : (s.setSeq n).arb = s.arb := rfl
@[simp] theorem setSeq_pins (n : Nat) : (s.setSeq n).pins = s.pins := rfl
@[simp] theorem setSeq_mbx (n : Nat) : (s.setSeq n).mbx = s.mbx := rfl
@[simp] theorem setSeq_hbr (n : Nat) : (s.setSeq n).hbr = s.hbr := rfl
@[simp] theorem setSeq_tb (n : Nat) : (s.setSeq n).tb = s.tb := rfl
@[simp] theorem setSeq_rad (n : Nat) : (s.setSeq n).rad = s.rad := rfl
@[simp] theorem setSeq_recs (n : Nat) : (s.setSeq n).recs = s.recs := rfl
@[simp] theorem setSeq_arc (n : Nat) : (s.setSeq n).arc = s.arc := rfl
@[simp] theorem setSeq_lnt (n : Nat) : (s.setSeq n).lnt = s.lnt := rfl
@[simp] theorem setSeq_lux (n : Nat) : (s.setSeq n).lux = s.lux := rfl
@[simp] theorem setSeq_fwd (n : Nat) : (s.setSeq n).fwd = s.fwd := rfl
@[simp] theorem setSeq_half (n : Nat) : (s.setSeq n).half = s.half := rfl
@[simp] theorem setSeq_bk (n : Nat) : (s.setSeq n).bk = s.bk := rfl
@[simp] theorem setSeq_wear (n : Nat) : (s.setSeq n).wear = s.wear := rfl
@[simp] theorem setSeq_brc (n : Nat) : (s.setSeq n).brc = s.brc := rfl
@[simp] theorem setSeq_mtr (n : Nat) : (s.setSeq n).mtr = s.mtr := rfl
@[simp] theorem setSeq_key (n : Nat) : (s.setSeq n).key = s.key := rfl
@[simp] theorem setSeq_cfg (n : Nat) : (s.setSeq n).cfg = s.cfg := rfl
@[simp] theorem setSeq_upd (n : Nat) : (s.setSeq n).upd = s.upd := rfl
@[simp] theorem setSeq_free (n : Nat) : (s.setSeq n).free = s.free := rfl

@[simp] theorem setSecs_pending (x : Secs) : (s.setSecs x).pending = s.pending := rfl
@[simp] theorem setSecs_fuses (x : Secs) : (s.setSecs x).fuses = s.fuses := rfl
@[simp] theorem setSecs_regs (x : Secs) : (s.setSecs x).regs = s.regs := rfl
@[simp] theorem setSecs_pwr (x : Secs) : (s.setSecs x).pwr = s.pwr := rfl
@[simp] theorem setSecs_sup (x : Secs) : (s.setSecs x).sup = s.sup := rfl
@[simp] theorem setSecs_kn (x : Secs) : (s.setSecs x).kn = s.kn := rfl
@[simp] theorem setSecs_arb (x : Secs) : (s.setSecs x).arb = s.arb := rfl
@[simp] theorem setSecs_pins (x : Secs) : (s.setSecs x).pins = s.pins := rfl
@[simp] theorem setSecs_mbx (x : Secs) : (s.setSecs x).mbx = s.mbx := rfl
@[simp] theorem setSecs_hbr (x : Secs) : (s.setSecs x).hbr = s.hbr := rfl
@[simp] theorem setSecs_tb (x : Secs) : (s.setSecs x).tb = s.tb := rfl
@[simp] theorem setSecs_rad (x : Secs) : (s.setSecs x).rad = s.rad := rfl
@[simp] theorem setSecs_recs (x : Secs) : (s.setSecs x).recs = s.recs := rfl
@[simp] theorem setSecs_arc (x : Secs) : (s.setSecs x).arc = s.arc := rfl
@[simp] theorem setSecs_lnt (x : Secs) : (s.setSecs x).lnt = s.lnt := rfl
@[simp] theorem setSecs_lux (x : Secs) : (s.setSecs x).lux = s.lux := rfl
@[simp] theorem setSecs_fwd (x : Secs) : (s.setSecs x).fwd = s.fwd := rfl
@[simp] theorem setSecs_half (x : Secs) : (s.setSecs x).half = s.half := rfl
@[simp] theorem setSecs_bk (x : Secs) : (s.setSecs x).bk = s.bk := rfl
@[simp] theorem setSecs_wear (x : Secs) : (s.setSecs x).wear = s.wear := rfl
@[simp] theorem setSecs_brc (x : Secs) : (s.setSecs x).brc = s.brc := rfl
@[simp] theorem setSecs_mtr (x : Secs) : (s.setSecs x).mtr = s.mtr := rfl
@[simp] theorem setSecs_key (x : Secs) : (s.setSecs x).key = s.key := rfl
@[simp] theorem setSecs_cfg (x : Secs) : (s.setSecs x).cfg = { s.cfg with secs := x } := rfl
@[simp] theorem setSecs_upd (x : Secs) : (s.setSecs x).upd = s.upd := rfl
@[simp] theorem setSecs_free (x : Secs) : (s.setSecs x).free = s.free := rfl

/-! Flags and counters are writes of their field. -/

@[simp] theorem raise_eq_wr (f : Fld) : s.raise f = s.wr f 1 := rfl
@[simp] theorem clr_eq_wr (f : Fld) : s.clr f = s.wr f 0 := rfl
@[simp] theorem add_eq_wr (f : Fld) (n : Nat) : s.add f n = s.wr f (satAdd (2 ^ f.w - 1) (s.rd f) n) := rfl
@[simp] theorem inc_eq_wr (f : Fld) : s.inc f = s.wr f (satAdd (2 ^ f.w - 1) (s.rd f) 1) := rfl

/-! Updates beside the register file leave every register as it was. -/

@[simp] theorem rd_setKn (n : Nat) (k : Kennel) (g : Fld) : (s.setKn n k).rd g = s.rd g := rfl
@[simp] theorem rd_setHf (h : Nat) (x : Half) (g : Fld) : (s.setHf h x).rd g = s.rd g := rfl
@[simp] theorem rd_setLog (n : Nat) (l : Log) (g : Fld) : (s.setLog n l).rd g = s.rd g := rfl
@[simp] theorem rd_setTb (x : Tb) (g : Fld) : (s.setTb x).rd g = s.rd g := rfl
@[simp] theorem rd_setHbr (x : Hbr) (g : Fld) : (s.setHbr x).rd g = s.rd g := rfl
@[simp] theorem rd_setUpd (x : Upd) (g : Fld) : (s.setUpd x).rd g = s.rd g := rfl
@[simp] theorem rd_setRad (x : Radio) (g : Fld) : (s.setRad x).rd g = s.rd g := rfl
@[simp] theorem rd_setArc (x : Arc) (g : Fld) : (s.setArc x).rd g = s.rd g := rfl
@[simp] theorem rd_setFwd (x : Fwd) (g : Fld) : (s.setFwd x).rd g = s.rd g := rfl
@[simp] theorem rd_setKey (x : Keys) (g : Fld) : (s.setKey x).rd g = s.rd g := rfl
@[simp] theorem rd_setLux (x : Lux) (g : Fld) : (s.setLux x).rd g = s.rd g := rfl
@[simp] theorem rd_setMtr (x : Meter) (g : Fld) : (s.setMtr x).rd g = s.rd g := rfl
@[simp] theorem rd_setSeq (n : Nat) (g : Fld) : (s.setSeq n).rd g = s.rd g := rfl
@[simp] theorem rd_setSecs (x : Secs) (g : Fld) : (s.setSecs x).rd g = s.rd g := rfl

/-! The settling of a step changes SUP_SEQ alone. -/

@[simp] theorem settle_pending (t : State) : (settle s t).pending = t.pending := setSeq_pending t _
@[simp] theorem settle_fuses (t : State) : (settle s t).fuses = t.fuses := setSeq_fuses t _
@[simp] theorem settle_regs (t : State) : (settle s t).regs = t.regs := setSeq_regs t _
@[simp] theorem settle_pwr (t : State) : (settle s t).pwr = t.pwr := setSeq_pwr t _
@[simp] theorem settle_kn (t : State) : (settle s t).kn = t.kn := setSeq_kn t _
@[simp] theorem settle_arb (t : State) : (settle s t).arb = t.arb := setSeq_arb t _
@[simp] theorem settle_pins (t : State) : (settle s t).pins = t.pins := setSeq_pins t _
@[simp] theorem settle_mbx (t : State) : (settle s t).mbx = t.mbx := setSeq_mbx t _
@[simp] theorem settle_hbr (t : State) : (settle s t).hbr = t.hbr := setSeq_hbr t _
@[simp] theorem settle_tb (t : State) : (settle s t).tb = t.tb := setSeq_tb t _
@[simp] theorem settle_rad (t : State) : (settle s t).rad = t.rad := setSeq_rad t _
@[simp] theorem settle_recs (t : State) : (settle s t).recs = t.recs := setSeq_recs t _
@[simp] theorem settle_arc (t : State) : (settle s t).arc = t.arc := setSeq_arc t _
@[simp] theorem settle_lnt (t : State) : (settle s t).lnt = t.lnt := setSeq_lnt t _
@[simp] theorem settle_lux (t : State) : (settle s t).lux = t.lux := setSeq_lux t _
@[simp] theorem settle_fwd (t : State) : (settle s t).fwd = t.fwd := setSeq_fwd t _
@[simp] theorem settle_half (t : State) : (settle s t).half = t.half := setSeq_half t _
@[simp] theorem settle_bk (t : State) : (settle s t).bk = t.bk := setSeq_bk t _
@[simp] theorem settle_wear (t : State) : (settle s t).wear = t.wear := setSeq_wear t _
@[simp] theorem settle_brc (t : State) : (settle s t).brc = t.brc := setSeq_brc t _
@[simp] theorem settle_mtr (t : State) : (settle s t).mtr = t.mtr := setSeq_mtr t _
@[simp] theorem settle_key (t : State) : (settle s t).key = t.key := setSeq_key t _
@[simp] theorem settle_cfg (t : State) : (settle s t).cfg = t.cfg := setSeq_cfg t _
@[simp] theorem settle_upd (t : State) : (settle s t).upd = t.upd := setSeq_upd t _
@[simp] theorem settle_free (t : State) : (settle s t).free = t.free := setSeq_free t _
@[simp] theorem settle_rd (t : State) (g : Fld) : (settle s t).rd g = t.rd g := rd_setSeq t _ g
theorem settle_sup (t : State) : (settle s t).sup = { t.sup with seq := (t.sup.seq + b2n (summary s != summary t)) % 2 ^ 32 } :=
  setSeq_sup t _

end Sys2Proof.Machine
end

