-- ==== Sys2Proof/Laws/FrameBase.lean ====
section
/-! SUPPORT. The part of the state that almost no operation changes: the queue, the fuses, SUP_SEQ and the byte memories; and how it
passes through the ways in which operations are put together. -/
namespace Sys2Proof.Machine

/-- The queue, the fuses, SUP_SEQ and the byte memories. -/
def State.frame (s : State) : List Instr × Fuses × Nat × Mem × KMap Mem × Mem × Mem × Mem :=
  (s.pending, s.fuses, s.sup.seq, s.hbr.ddr, s.hbr.lp, s.upd.rbuf, s.cfg.devA.flash, s.cfg.devB.flash)

@[simp] theorem State.frame_mk (pending : List Instr) (fuses : Fuses) (regs : Regs) (pwr : Pwr) (sup : Sup) (kn : KMap Kennel) (arb : Arb)
    (pins : Pins) (mbx : Mbx) (hbr : Hbr) (tb : Tb) (rad : Radio) (recs : Recs) (arc : Arc) (lnt : Lnt) (lux : Lux) (fwd : Fwd)
    (half : KMap Half) (bk : KMap BkSt) (wear : Wear) (brc : Brace) (mtr : Meter) (key : Keys) (cfg : Cfg) (upd : Upd) (free : Nat) :
    State.frame ⟨pending, fuses, regs, pwr, sup, kn, arb, pins, mbx, hbr, tb, rad, recs, arc, lnt, lux, fwd, half, bk, wear, brc, mtr,
      key, cfg, upd, free⟩ = (pending, fuses, sup.seq, hbr.ddr, hbr.lp, upd.rbuf, cfg.devA.flash, cfg.devB.flash) := rfl

@[simp] theorem State.frame_eta (s : State) :
    (s.pending, s.fuses, s.sup.seq, s.hbr.ddr, s.hbr.lp, s.upd.rbuf, s.cfg.devA.flash, s.cfg.devB.flash) = s.frame := rfl

/-- Changing the brace keeps the frame. -/
theorem withBrc_frame (s : State) (b : Brace) : State.frame { s with brc := b } = s.frame := rfl

/-- A choice between two states that keep the frame keeps it. -/
theorem ite_frame {c : Prop} [Decidable c] {a b s : State} (ha : a.frame = s.frame) (hb : b.frame = s.frame) :
    (if c then a else b).frame = s.frame := by
  split <;> assumption

/-- A loop whose body keeps the frame keeps it. -/
@[simp] theorem foldl_frame {α : Type} (f : State → α → State) (h : ∀ t x, (f t x).frame = t.frame) (l : List α) (s : State) :
    (l.foldl f s).frame = s.frame := by
  induction l generalizing s with
  | nil => rfl
  | cons a l ih => rw [List.foldl_cons, ih, h]

/-- A loop that also carries a value. -/
@[simp] theorem foldl_frame_fst {α β : Type} (f : State × β → α → State × β) (h : ∀ p x, (f p x).1.frame = p.1.frame) (l : List α)
    (p : State × β) : (l.foldl f p).1.frame = p.1.frame := by
  induction l generalizing p with
  | nil => rfl
  | cons a l ih => rw [List.foldl_cons, ih, h]

@[simp, inherit_doc foldl_frame_fst]
theorem foldl_frame_snd {α β : Type} (f : β × State → α → β × State) (h : ∀ p x, (f p x).2.frame = p.2.frame) (l : List α)
    (p : β × State) : (l.foldl f p).2.frame = p.2.frame := by
  induction l generalizing p with
  | nil => rfl
  | cons a l ih => rw [List.foldl_cons, ih, h]

end Sys2Proof.Machine
end

