-- ==== Sys2Proof/Laws/FrameA.lean ====
section
/-! SUPPORT. The frame through the shared operations, the domains, register access and time. -/
namespace Sys2Proof.Machine

@[simp] theorem wr_frame (s : State) (f : Fld) (v : Nat) : (State.wr s f v).frame = s.frame := by simp [State.wr]

@[simp] theorem raise_frame (s : State) (f : Fld) : (State.raise s f).frame = s.frame := by simp [State.raise]

@[simp] theorem clr_frame (s : State) (f : Fld) : (State.clr s f).frame = s.frame := by simp [State.clr]

@[simp] theorem wrs_frame (s : State) (l : List (Fld × Nat)) : (State.wrs s l).frame = s.frame := by simp [State.wrs]

@[simp] theorem add_frame (s : State) (f : Fld) (n : Nat) : (State.add s f n).frame = s.frame := by simp [State.add]

@[simp] theorem inc_frame (s : State) (f : Fld) : (State.inc s f).frame = s.frame := by simp [State.inc]

@[simp] theorem rcRead_frame (s : State) (f : Fld) (upd : Nat) : (rcRead s f upd).2.frame = s.frame := by simp [rcRead]

@[simp] theorem setDom_frame (s : State) (d : Nat) (v : Nat) : (State.setDom s d v).frame = s.frame := by simp [State.setDom]

@[simp] theorem setHf_frame (s : State) (h : Nat) (x : Half) : (State.setHf s h x).frame = s.frame := by simp [State.setHf]

@[simp] theorem setKn_frame (s : State) (n : Nat) (k : Kennel) : (State.setKn s n k).frame = s.frame := by simp [State.setKn]

@[simp] theorem kRefuse_frame (s : State) (n : Nat) : (kRefuse s n).frame = s.frame := by unfold kRefuse; split <;> simp

@[simp] theorem kPost_frame (s : State) (n : Nat) (pkt : List Nat) : (kPost s n pkt).1.frame = s.frame := by
  simp only [kPost]
  repeat' split
  all_goals simp

@[simp] theorem kTakeThrough_frame (s : State) (n : Nat) (p : List Nat → Bool) : (kTakeThrough s n p).frame = s.frame := by
  simp only [kTakeThrough]
  split <;> simp

@[simp] theorem kReset_frame (s : State) (d : Nat) : (kReset s d).frame = s.frame := by
  unfold kReset
  rw [foldl_frame]
  · simp
  · intro t x
    split <;> simp

@[simp] theorem setLog_frame (s : State) (n : Nat) (l : Log) : (State.setLog s n l).frame = s.frame := by simp [State.setLog]

@[simp] theorem lanePost_frame (s : State) (n : Nat) (r : Rec) : (lanePost s n r).frame = s.frame := by
  simp only [lanePost]
  repeat' split
  all_goals simp

@[simp] theorem ingressPost_frame (s : State) (n : Nat) (r : Rec) (tag : Option Nat) : (ingressPost s n r tag).frame = s.frame := by unfold ingressPost; split <;> simp

@[simp] theorem event_frame (s : State) (n : Nat) (code : Nat) (dom : Nat) (inst : Nat) (par : List Nat) : (State.event s n code dom inst par).frame = s.frame := by
  simp only [State.event]
  repeat' split
  all_goals simp

@[simp] theorem tallyAdd_frame (s : State) (kind : Nat) (cls : Nat) (failed : Nat) (spare : Nat) (margin : Nat) (reason : Nat) (detail : Nat) : (tallyAdd s kind cls failed spare margin reason detail).frame = s.frame := by simp [tallyAdd]

@[simp] theorem setMargin_frame (s : State) (c : Nat) (m : Nat) : (setMargin s c m).frame = s.frame := by unfold setMargin; split <;> simp

@[simp] theorem subst_frame (s : State) (c : Nat) (failed : Nat) (spare : Nat) (m : Nat) (reason : Nat) (detail : Nat) : (subst s c failed spare m reason detail).frame = s.frame := by simp [subst]

@[simp] theorem rptPlace_frame (s : State) (r : Report) : (rptPlace s r).frame = s.frame := by simp [rptPlace]

@[simp] theorem report_frame (s : State) (k : Nat) (c : Nat) (body : List Byte) : (State.report s k c body).frame = s.frame := by
  simp only [State.report]
  repeat' split
  all_goals simp

@[simp] theorem rptDrain_frame (x0 : Nat) (x1 : State) : (rptDrain x0 x1).frame = x1.frame := by
  induction x0 generalizing x1 with
  | zero => rfl
  | succ n ih =>
    simp only [rptDrain]
    split
    · rfl
    · split <;> simp [ih]

@[simp] theorem respond_frame (s : State) (code : Nat) (tag : Nat) (st : Nat) (payload : List Byte) : (State.respond s code tag st payload).frame = s.frame := by unfold State.respond; split <;> simp

@[simp] theorem deny_frame (s : State) (st : Nat) : (deny s st).1.frame = s.frame := by simp [deny]

@[simp] theorem okay_frame (s : State) (payload : List Byte) : (okay s payload).1.frame = s.frame := by simp [okay]

@[simp] theorem later_frame (s : State) : (later s).1.frame = s.frame := by simp [later]

@[simp] theorem runCommand_frame (s : State) (code : Nat) (tag : Nat) (f : State → Answer) (hf : ∀ t, (f t).1.frame = t.frame) : (runCommand s code tag f).frame = s.frame := by
  unfold runCommand
  split
  · simp
  · have := hf s
    split <;> simp_all

@[simp] theorem command_frame (s : State) (code : Nat) (tag : Nat) (f : State → Answer) (hf : ∀ t, (f t).1.frame = t.frame) : (command s code tag f).frame = s.frame := by
  simp only [command]
  repeat' split
  all_goals simp_all

@[simp] theorem keyServe_frame (s : State) (db : Nat) (k : Nat) (alg : Nat) (u : KeyUse) : (keyServe s db k alg u).1.frame = s.frame := by
  simp only [keyServe]
  repeat' split
  all_goals simp

@[simp] theorem archivePost_frame (s : State) (i : ArcItem) : (archivePost s i).frame = s.frame := by unfold archivePost; split <;> simp

@[simp] theorem setSecs_frame (s : State) (c : Secs) : (s.setSecs c).frame = s.frame := by simp [State.setSecs]

@[simp] theorem dueTake_frame (s : State) (n : Nat) : ((dueTake s n).getD s).frame = s.frame := by
  unfold dueTake
  split <;> simp

@[simp] theorem edited_frame (s : State) (sec : Nat) : (edited s sec).frame = s.frame := by simp [edited]

@[simp] theorem hostWrite_frame (s : State) (p : Nat) (b : Nat) (f : State → State) (hf : ∀ t, (f t).frame = t.frame) : (hostWrite s p b f).frame = s.frame := by
  simp only [hostWrite]
  repeat' split
  all_goals simp_all

@[simp] theorem hostRead_frame (s : State) (b : Nat) (f : State → Nat × State) (hf : ∀ t, (f t).2.frame = t.frame) : (hostRead s b f).frame = s.frame := by
  simp only [hostRead]
  repeat' split
  all_goals simp_all

@[simp] theorem rcReadAll_frame (s : State) (fs : List Fld) (upd : List Nat) : (rcReadAll s fs upd).2.frame = s.frame := by simp [rcReadAll]

@[simp] theorem regReset_frame (s : State) (bs : List Nat) (kept : List Nat) : (regReset s bs kept).frame = s.frame := by simp [regReset]

@[simp] theorem domainClear_frame (s : State) (d : Nat) : (domainClear s d).frame = s.frame := by unfold domainClear; split <;> simp

@[simp] theorem loopsHold_frame (s : State) : (loopsHold s).frame = s.frame := by simp [loopsHold]

@[simp] theorem domainReset_frame (s : State) (d : Nat) : (domainReset s d).frame = s.frame := by unfold domainReset; split <;> simp

@[simp] theorem watchdogMark_frame (s : State) (d : Nat) : (watchdogMark s d).frame = s.frame := by simp [watchdogMark]

@[simp] theorem kTake_frame (s : State) (n : Nat) : (kTake s n).frame = s.frame := by
  simp only [kTake]
  split <;> simp

@[simp] theorem domainRun_frame (s : State) (d : Nat) : (domainRun s d).frame = s.frame := by simp [domainRun]

@[simp] theorem setTb_frame (s : State) (t : Tb) : (State.setTb s t).frame = s.frame := by simp [State.setTb]

@[simp] theorem spindleTick_frame (s : State) : (spindleTick s).frame = s.frame := by
  simp only [spindleTick]
  split <;> simp

@[simp] theorem writeIncNs_frame (s : State) (v : Nat) : (writeIncNs s v).frame = s.frame := by simp [writeIncNs]

@[simp] theorem writeIncFr_frame (s : State) (v : Nat) : (writeIncFr s v).frame = s.frame := by simp [writeIncFr]

@[simp] theorem readNowLo_frame (s : State) : (readNowLo s).2.frame = s.frame := by simp [readNowLo]

@[simp] theorem addAdj_frame (s : State) (a : Int) (dec : Bool) : (addAdj s a dec).frame = s.frame := by simp [addAdj]

@[simp] theorem setQual_frame (s : State) (q : Nat) : (setQual s q).frame = s.frame := by unfold setQual; split <;> simp

@[simp] theorem stepSpindle_frame (s : State) (d : Int) : (stepSpindle s d).frame = s.frame := by simp [stepSpindle]

@[simp] theorem anchorAt_frame (s : State) (tick : Nat) (tai : Nat) : (anchorAt s tick tai).frame = s.frame := by simp [anchorAt]

@[simp] theorem anchor_frame (s : State) : (anchor s).frame = s.frame := by simp [anchor]

@[simp] theorem startSpindle_frame (s : State) : (startSpindle s).frame = s.frame := by simp [startSpindle]

@[simp] theorem servoSetInc_frame (s : State) (n : Nat) : (servoSetInc s n).frame = s.frame := by
  simp only [servoSetInc]
  split <;> simp

@[simp] theorem enterHoldover_frame (s : State) : (enterHoldover s).frame = s.frame := by
  simp only [enterHoldover]
  split <;> simp

@[simp] theorem servoRate_frame (s : State) (off : Int) (skip : Bool) : (servoRate s off skip).frame = s.frame := by
  unfold servoRate
  cases skip <;> dsimp only <;> repeat' split
  all_goals simp

@[simp] theorem servoLock_frame (s : State) (off : Int) (skip : Bool) : (servoLock s off skip).frame = s.frame := by
  cases skip <;> simp [servoLock]

@[simp] theorem servoQual_frame (s : State) (off : Int) (skip : Bool) (lock loss : Nat) :
    (servoQual s off skip lock loss).frame = s.frame := by
  unfold servoQual
  dsimp only
  repeat' split
  all_goals simp

@[simp] theorem servo_frame (s : State) (off : Int) : (servo s off).frame = s.frame := by
  unfold servo
  rw [servoQual_frame, setTb_frame, servoRate_frame]

@[simp] theorem refreshUtc_frame (s : State) : (refreshUtc s).frame = s.frame := by simp [refreshUtc]

@[simp] theorem selectMaster_frame (s : State) : (selectMaster s).frame = s.frame := by
  unfold selectMaster
  split <;> rw [refreshUtc_frame, setTb_frame]

@[simp] theorem loadTime_frame (s : State) : (loadTime s).frame = s.frame := by simp [loadTime]

@[simp] theorem timeDue_frame (s : State) : (timeDue s).frame = s.frame := by
  simp only [timeDue, dueTake]
  split <;> simp

@[simp] theorem netTimeReturn_frame (s : State) : (netTimeReturn s).frame = s.frame := by
  simp only [netTimeReturn]
  split
  · split
    · simp
    · split
      · split <;> simp
      · simp
  · simp

@[simp] theorem rtcRelease_frame (s : State) (armed : Option Nat) : (rtcRelease s armed).frame = s.frame := by
  simp only [rtcRelease]
  split <;> simp

@[simp] theorem cmpFire_frame (s : State) (n : Nat) : (cmpFire s n).frame = s.frame := by
  simp only [cmpFire]
  repeat' split
  all_goals simp

@[simp] theorem writeTarget_frame (s : State) (n : Nat) (hi : Bool) (v : Nat) (firing : Bool) : (writeTarget s n hi v firing).frame = s.frame := by
  simp only [writeTarget]
  repeat' split
  all_goals simp

@[simp] theorem armUnit_frame (s : State) (n : Nat) : (armUnit s n).frame = s.frame := by unfold armUnit; split <;> simp

@[simp] theorem timeSetDone_frame (s : State) (tag : Nat) (d : Int) (keep : Bool) : (timeSetDone s tag d keep).frame = s.frame := by
  simp only [timeSetDone]
  split <;> simp

@[simp] theorem ppsTimeSet_frame (s : State) (stamp : Nat) : (ppsTimeSet s stamp).frame = s.frame := by
  simp only [ppsTimeSet]
  repeat' split
  all_goals simp

@[simp] theorem readPpsLo_frame (s : State) : (readPpsLo s).2.frame = s.frame := by simp [readPpsLo]

@[simp] theorem readPpsHi_frame (s : State) : (readPpsHi s).2.frame = s.frame := by simp [readPpsHi]

@[simp] theorem readTickLo_frame (s : State) : (readTickLo s).2.frame = s.frame := by simp [readTickLo]

@[simp] theorem readTickHi_frame (s : State) : (readTickHi s).2.frame = s.frame := by simp [readTickHi]

@[simp] theorem writeHalt_frame (s : State) (releasing : Bool) : (writeHalt s releasing).frame = s.frame := by
  simp only [writeHalt]
  split <;> simp

@[simp] theorem writeRelease_frame (s : State) : (writeRelease s).frame = s.frame := by unfold writeRelease; split <;> simp

@[simp] theorem writeArm_frame (s : State) : (writeArm s).frame = s.frame := by
  simp only [writeArm]
  split <;> simp

end Sys2Proof.Machine
end

