-- ==== Sys2Proof/Laws/FrameB.lean ====
section
/-! SUPPORT. The frame through the radio, switching, subscription and output operations. -/
namespace Sys2Proof.Machine

@[simp] theorem loadProt_frame (s : State) : (loadProt s).frame = s.frame := by simp [loadProt]

@[simp] theorem wearCount_frame (s : State) (n : Nat) : (wearCount s n).frame = s.frame := by
  simp only [wearCount]
  repeat' split
  all_goals simp

@[simp] theorem refreshLines_frame (s : State) : (refreshLines s).frame = s.frame := by
  simp only [refreshLines]
  repeat' split
  all_goals simp

@[simp] theorem engageHold_frame (s : State) (cause : Nat) : (engageHold s cause).frame = s.frame := by simp [engageHold]

@[simp] theorem presentVector_frame (s : State) (vec : Nat) (prearm : Nat) (confirmed : Bool) : (presentVector s vec prearm confirmed).frame = s.frame := by unfold presentVector; split <;> simp

@[simp] theorem moveOutput_frame (s : State) (n : Nat) (spare : Nat) (reason : Nat) : (moveOutput s n spare reason).frame = s.frame := by simp [moveOutput]

@[simp] theorem flagLine_frame (s : State) (line : Nat) : (flagLine s line).frame = s.frame := by
  simp only [flagLine]
  split <;> simp

@[simp] theorem readWrong_frame (s : State) (line : Nat) : (readWrong s line).frame = s.frame := by
  simp only [readWrong]
  repeat' split
  all_goals simp

@[simp] theorem trackQuiet_frame (s : State) : (trackQuiet s).frame = s.frame := by simp [trackQuiet]

@[simp] theorem setBk_frame (s : State) (e : Nat) (b : BkSt) : (setBk s e b).frame = s.frame := by simp [setBk]

@[simp] theorem bkYield_frame (s : State) : (bkYield s).frame = s.frame := by
  unfold bkYield
  refine foldl_frame _ (fun t x => ?_) _ _
  dsimp only
  repeat' split
  all_goals simp

@[simp] theorem setFwd_frame (s : State) (f : Fwd) : (State.setFwd s f).frame = s.frame := by simp [State.setFwd]

@[simp] theorem macPut_frame (s : State) (c : Nat) (e : MacE) : (macPut s c e).frame = s.frame := by simp [macPut]

@[simp] theorem learn_frame (s : State) (p : Nat) (vid : Nat) (src : Nat) : (learn s p vid src).frame = s.frame := by
  simp only [learn]
  repeat' split
  all_goals simp

@[simp] theorem parityNote_frame (s : State) (t : Nat) (idx : Nat) : (parityNote s t idx).frame = s.frame := by
  simp only [parityNote]
  repeat' split
  all_goals simp

@[simp] theorem parityHit_frame (s : State) (t : Nat) (idx : Nat) : (parityHit s t idx).frame = s.frame := by
  simp only [parityHit]
  repeat' split
  all_goals simp

@[simp] theorem parityHits_frame (s : State) (bad : List (Nat × Nat)) : (parityHits s bad).frame = s.frame := by simp [parityHits]

@[simp] theorem dupCheck_frame (s : State) (b : Nat) (ddlife : Nat) (src : Nat) (seq : Nat) : (dupCheck s b ddlife src seq).1.frame = s.frame := by
  simp only [dupCheck]
  repeat' split
  all_goals simp

@[simp] theorem sendOut_frame (s : State) (vid : Nat) (pcp : Nat) (src : Nat) (dst : Nat) (hop : Nat) (p : Nat) : (sendOut s vid pcp src dst hop p).frame = s.frame := by
  simp only [sendOut]
  repeat' split
  all_goals simp

@[simp] theorem sendAll_frame (s : State) (vid : Nat) (pcp : Nat) (src : Nat) (dst : Nat) (hop : Nat) (ps : List Nat) : (sendAll s vid pcp src dst hop ps).frame = s.frame := by simp [sendAll]

@[simp] theorem forward_frame (s : State) (badF : List Nat) (f : SwFrame) (vid : Nat) (pcp : Nat) : (forward s badF f vid pcp).frame = s.frame := by
  simp only [forward]
  repeat' split
  all_goals simp

@[simp] theorem switchIn_frame (s : State) (badF : List Nat) (f : SwFrame) : (switchIn s badF f).frame = s.frame := by unfold switchIn; split <;> simp

@[simp] theorem startSweep_frame (s : State) (p : Nat) (vid : Nat) (tag : Option Nat) : (startSweep s p vid tag).frame = s.frame := by simp [startSweep]

@[simp] theorem flush_frame (s : State) (p : Nat) (vid : Nat) (tag : Option Nat) : (flush s p vid tag).frame = s.frame := by unfold flush; split <;> simp

@[simp] theorem driveTxDis_frame (s : State) (p : Nat) : (driveTxDis s p).frame = s.frame := by simp [driveTxDis]

@[simp] theorem addAll_frame (s : State) (l : List FwdEnt) : (addAll s l).frame = s.frame := by
  unfold addAll
  rw [foldl_frame]
  intro t e
  cases e <;> simp only [addEnt] <;> repeat' split
  all_goals first
    | rfl
    | (rename_i h; repeat' split at h) <;> cases h <;> simp

@[simp] theorem loadPorts_frame (s : State) : (loadPorts s).frame = s.frame := by simp [loadPorts]

@[simp] theorem startForward_frame (s : State) : (startForward s).frame = s.frame := by simp [startForward]

@[simp] theorem reloadForward_frame (s : State) : (reloadForward s).frame = s.frame := by simp [reloadForward]

@[simp] theorem putActive_frame (s : State) (reg : Nat → Fld) (i : Nat) (b : Bool) : (putActive s reg i b).frame = s.frame := by simp [putActive]

@[simp] theorem setSv_frame (s : State) (i : Nat) (r : SvRun) : (setSv s i r).frame = s.frame := by simp [setSv]

@[simp] theorem setGo_frame (s : State) (i : Nat) (r : GoRun) : (setGo s i r).frame = s.frame := by simp [setGo]

@[simp] theorem svDeliver_frame (s : State) (i : Nat) (a : SvAsdu) (miss : Nat) : (svDeliver s i a miss).frame = s.frame := by simp [svDeliver]

@[simp] theorem svTell_frame (s : State) (i : Nat) (c : SvCopy) (pkt : List Nat) : (svTell s i c pkt).frame = s.frame := by
  simp only [svTell]
  repeat' split
  all_goals simp

@[simp] theorem svVerdict_frame (s : State) (i : Nat) (sub : SvSub) (c : SvCopy) (res : Nat) (bytes : List Byte) : (svVerdict s i sub c res bytes).frame = s.frame := by
  simp only [svVerdict]
  repeat' split
  all_goals simp

@[simp] theorem svEnd_frame (s : State) (i : Nat) (sub : SvSub) (c : SvCopy) (res : Nat) (bytes : List Byte) : (svEnd s i sub c res bytes).frame = s.frame := by
  simp only [svEnd]
  repeat' split
  all_goals simp

@[simp] theorem svReject_frame (s : State) (i : Nat) : (svReject s i).frame = s.frame := by simp [svReject]

@[simp] theorem svTake_frame (s : State) (i : Nat) (sub : SvSub) (a : SvAsdu) : (svTake s i sub a).frame = s.frame := by
  simp only [svTake]
  repeat' split
  all_goals simp

@[simp] theorem matchCopies_frame (s : State) (badCopies : Nat) : (matchCopies s badCopies).1.frame = s.frame := by
  simp only [matchCopies]
  repeat' split
  all_goals simp

@[simp] theorem svFrameEnd_frame (s : State) (frame : Nat) (res : Nat) (bytes : List Byte) (i : Nat) (sub : SvSub) : (svFrameEnd s frame res bytes i sub).frame = s.frame := by
  simp only [svFrameEnd]
  rw [foldl_frame]
  · simp
  · intro t x
    split <;> simp

@[simp] theorem svOldEnd_frame (s : State) (frame res : Nat) (bytes : List Byte) (i : Nat) (x : SvSub × SvRun) : (svOldEnd s frame res bytes i x).frame = s.frame := by simp [svOldEnd]

@[simp] theorem goPost_frame (s : State) (pkt : List Nat) : (goPost s pkt).frame = s.frame := by simp [goPost]

@[simp] theorem svHalfTakes_frame (s : State) (h : Nat) (t : Nat) (i : Nat) (deliv : Nat) : (svHalfTakes s h t i deliv).frame = s.frame := by simp [svHalfTakes]

@[simp] theorem goActs_frame (s : State) (i : Nat) (sub : GoSub) (m : GoMsg) : (goActs s i sub m).1.frame = s.frame := by
  simp only [goActs]
  repeat' split
  all_goals simp

@[simp] theorem goAccept_frame (s : State) (i : Nat) (sub : GoSub) (m : GoMsg) : (goAccept s i sub m).frame = s.frame := by
  simp only [goAccept]
  repeat' split
  all_goals simp

@[simp] theorem subscribe_frame (s : State) (old : Sec07) : (subscribe s old).frame = s.frame := by
  simp only [subscribe]
  rw [foldl_frame, foldl_frame]
  · simp
  all_goals
    intro t x
    split <;> simp

@[simp] theorem setRad_frame (s : State) (r : Radio) : (State.setRad s r).frame = s.frame := by simp [State.setRad]

@[simp] theorem releaseOld03_frame (s : State) : (releaseOld03 s).frame = s.frame := by unfold releaseOld03; split <;> simp

@[simp] theorem refreshRad_frame (s : State) : (refreshRad s).frame = s.frame := by simp [refreshRad]

@[simp] theorem refreshBudget_frame (s : State) (now : Nat) : (refreshBudget s now).frame = s.frame := by
  unfold refreshBudget
  split
  · rfl
  · rw [foldl_frame]
    intro t x
    dsimp only
    repeat' split
    all_goals simp

@[simp] theorem useTime_frame (s : State) (ch : Nat) (now : Nat) (us : Nat) : (useTime s ch now us).frame = s.frame := by simp [useTime]

@[simp] theorem txPut_frame (s : State) (chan : Nat) (cls : TxCls) (earliest latest dur : Nat) (frames : List (Nat × List Byte)) : (txPut s chan cls earliest latest dur frames).1.frame = s.frame := by simp [txPut]

@[simp] theorem txComplete_frame (s : State) (r : TxReq) (res : TxResult) : (txComplete s r res).frame = s.frame := by simp [txComplete]

@[simp] theorem txStep_frame (s : State) (now : Nat) (r : TxReq) : (txStep s now r).frame = s.frame := by
  unfold txStep
  dsimp only
  iterate 10 refine ite_frame (by simp) ?_
  rw [refreshRad_frame, useTime_frame, setRad_frame]

@[simp] theorem schedule_frame (s : State) (now : Nat) : (schedule s now).frame = s.frame := by simp [schedule]

@[simp] theorem endCarrier_frame (s : State) (id : Nat) (res : TxResult) : (endCarrier s id res).frame = s.frame := by simp [endCarrier]

@[simp] theorem unuseTime_frame (s : State) (ch : Nat) (at_ : Nat) (us : Nat) (now : Nat) : (unuseTime s ch at_ us now).frame = s.frame := by simp [unuseTime]

@[simp] theorem releaseCarrier_frame (s : State) (c : Carrier) (now : Nat) : (releaseCarrier s c now).frame = s.frame := by simp [releaseCarrier]

@[simp] theorem enterDrain_frame (s : State) (now : Nat) : (enterDrain s now).frame = s.frame := by simp [enterDrain]

@[simp] theorem loUnlock_frame (s : State) : (loUnlock s).frame = s.frame := by simp [loUnlock]

@[simp] theorem failChain_frame (s : State) (c : Nat) : (failChain s c).frame = s.frame := by unfold failChain; split <;> simp

@[simp] theorem calChain_frame (s : State) (c : Nat) (ok : Bool) : (calChain s c ok).frame = s.frame := by
  simp only [calChain]
  repeat' split
  all_goals simp

@[simp] theorem refreshPack_frame (s : State) (k : Nat) : (refreshPack s k).frame = s.frame := by simp [refreshPack]

@[simp] theorem goDark_frame (s : State) (ch : Nat) : (goDark s ch).frame = s.frame := by unfold goDark; split <;> simp

@[simp] theorem gridRecord_frame (s : State) : (gridRecord s).frame = s.frame := by unfold gridRecord; split <;> simp

@[simp] theorem loadRadio_frame (s : State) : (loadRadio s).frame = s.frame := by simp [loadRadio]

@[simp] theorem startRadio_frame (s : State) : (startRadio s).frame = s.frame := by simp [startRadio]

end Sys2Proof.Machine
end

