-- ==== Sys2Proof/Laws/FrameC.lean ====
section
/-! SUPPORT. The frame through protection, the field, metering, records and windows. -/
namespace Sys2Proof.Machine

@[simp] theorem winDeny_frame (s : State) (p : Nat) (n : Nat) : (winDeny s p n).frame = s.frame := by
  simp only [winDeny]
  repeat' split
  all_goals simp

@[simp] theorem sideRefuse_frame (s : State) (i p n v : Nat) : (sideRefuse s i p n v).frame = s.frame := by
  simp only [sideRefuse]
  repeat' split
  all_goals simp

@[simp] theorem setSide_frame (s : State) (i : Nat) (x : Side) : (s.setSide i x).frame = s.frame := by simp [State.setSide]

@[simp] theorem lockState_frame (s : State) (i : Nat) (l : Option Lock) (v : Nat) : (lockState s i l v).frame = s.frame := by
  simp only [lockState]
  split <;> simp

@[simp] theorem lockTake_frame (s : State) (i w line : Nat) (tie : Bool) : (lockTake s i w line tie).frame = s.frame := by
  simp only [lockTake]
  repeat' split
  all_goals simp

@[simp] theorem gave_frame (s : State) (i : Nat) (bs : List Byte) : (gave s i bs).frame = s.frame := by unfold gave; split <;> simp

@[simp] theorem issue_frame (s : State) (i : Nat) (r : BrRead) : (issue s i r).frame = s.frame := by
  simp only [issue]
  repeat' split
  all_goals simp

@[simp] theorem promote_frame (i : Nat) (x0 : Nat) (x1 : State) : (promote i x0 x1).frame = x1.frame := by
  induction x0 generalizing x1 with
  | zero => rfl
  | succ n ih =>
    simp only [promote]
    repeat' split
    all_goals simp [ih]

@[simp] theorem readEnds_frame (s : State) (i : Nat) (r : BrRead) (bs : List Byte) : (readEnds s i r bs).frame = s.frame := by simp [readEnds]

@[simp] theorem sideRead_frame (s : State) (i : Nat) (r : BrRead) : (sideRead s i r).frame = s.frame := by
  simp only [sideRead]
  split <;> simp

@[simp] theorem drainEpoch_frame (s : State) (i : Nat) : (drainEpoch s i).frame = s.frame := by
  simp only [drainEpoch]
  repeat' split
  all_goals simp

@[simp] theorem collectSide_frame (s : State) (i : Nat) : (collectSide s i).frame = s.frame := by simp [collectSide]

@[simp] theorem lockAcquire_frame (s : State) : (lockAcquire s).frame = s.frame := by simp [lockAcquire]

@[simp] theorem synthesise_frame (s : State) (h : Nat) (c : Sec08) (k : Nat) (i : Nat) : (synthesise s h c k i).frame = s.frame := by
  simp only [synthesise]
  split <;> simp

@[simp] theorem bufferSample_frame (s : State) (h : Nat) (c : Sec08) (x : HalfSample) (late : Bool) : (bufferSample s h c x late).frame = s.frame := by
  simp only [bufferSample]
  split <;> simp

@[simp] theorem evalPass_frame (s : State) (h : Nat) (c : Sec08) (p : PassRec) : (evalPass s h c p).frame = s.frame := by simp [evalPass]

@[simp] theorem replay_frame (s : State) (h : Nat) (c : Sec08) (k : Nat) : (replay s h c k).frame = s.frame := by
  simp only [replay]
  split <;> simp

@[simp] theorem postNotice_frame (s : State) (h : Nat) (f : Nat) (st : Nat) (close : Nat) (shot : Nat) : (postNotice s h f st close shot).frame = s.frame := by simp [postNotice]

@[simp] theorem flocIssue_frame (s : State) (h : Nat) (f : Nat) (stage : Nat) (flags : Nat) (nrep : Nat) (fl : FlocSt) (sect : List Nat) : (flocIssue s h f stage flags nrep fl sect).frame = s.frame := by
  simp only [flocIssue]
  split <;> simp

@[simp] theorem flocTrip_frame (s : State) (h : Nat) (f : Nat) (p : FeedP) (tk : Nat) (dz : Option Nat) : (flocTrip s h f p tk dz).frame = s.frame := by unfold flocTrip; split <;> simp

@[simp] theorem pubSend_frame (s : State) (h : Nat) (i : Nat) (p : PubCfg) (st : PubSt) : (pubSend s h i p st).frame = s.frame := by
  simp only [pubSend]
  repeat' split
  all_goals simp

@[simp] theorem pubUpdate_frame (s : State) (h : Nat) (c : Sec08) (agreed : Bool) (i : Nat) (p : PubCfg) : (pubUpdate s h c agreed i p).frame = s.frame := by
  simp only [pubUpdate]
  split <;> simp

@[simp] theorem pubsUpdate_frame (s : State) (h : Nat) (c : Sec08) (agreed : Bool) : (pubsUpdate s h c agreed).frame = s.frame := by simp [pubsUpdate]

@[simp] theorem tellInst_frame (s : State) (h : Nat) (k : Nat) (n : Nat) (bits : Nat) : (tellInst s h k n bits).frame = s.frame := by
  simp only [tellInst]
  repeat' split
  all_goals simp

@[simp] theorem tellDead_frame (s : State) (h : Nat) (c : Sec08) (p : PassRec) (n : Nat) : (tellDead s h c p n).frame = s.frame := by unfold tellDead; split <;> simp

@[simp] theorem tellPass_frame (s : State) (h : Nat) (c : Sec08) (p : PassRec) : (tellPass s h c p).frame = s.frame := by simp [tellPass]

@[simp] theorem tellTrips_frame (s : State) (h : Nat) (c : Sec08) (k : Nat) (tk : Nat) (up : Nat) (imp : List (Nat × Option Nat)) : (tellTrips s h c k tk up imp).frame = s.frame := by
  simp only [tellTrips]
  split
  · simp
  · rw [foldl_frame]
    · simp
    · intro t x
      repeat' split
      all_goals simp

@[simp] theorem presentLead_frame (s : State) (h : Nat) (c : Sec08) (k : Nat) (tk : Nat) : (presentLead s h c k tk).frame = s.frame := by
  unfold presentLead
  dsimp only
  refine (foldl_frame _ (fun t x => ?_) _ _).trans ?_
  · split <;> simp
  · simp only [tellTrips_frame, State.frame_mk, State.frame_eta, trackQuiet_frame]
    split <;> simp

@[simp] theorem finishPass_frame (s : State) (h : Nat) (c : Sec08) (k : Nat) (tk : Nat) : (finishPass s h c k tk).frame = s.frame := by
  simp only [finishPass]
  repeat' split
  all_goals simp

@[simp] theorem reconfirm_frame (s : State) (h : Nat) (c : Sec08) (k : Nat) : (reconfirm s h c k).frame = s.frame := by
  simp only [reconfirm]
  repeat' split
  all_goals simp

@[simp] theorem samplePasses_frame (s : State) (h : Nat) (c : Sec08) (i : Nat) (k : Nat) : (samplePasses s h c i k).frame = s.frame := by
  simp only [samplePasses]
  split <;> simp

@[simp] theorem sampleFails_frame (s : State) (h : Nat) (i : Nat) (k : Nat) : (sampleFails s h i k).frame = s.frame := by
  simp only [sampleFails]
  split <;> simp

@[simp] theorem sendState_frame (s : State) (h : Nat) (c : Sec08) : (sendState s h c).frame = s.frame := by
  simp only [sendState]
  repeat' split
  all_goals simp

@[simp] theorem passTime_frame (s : State) (h : Nat) (durUs : Nat) : (passTime s h durUs).frame = s.frame := by
  simp only [passTime]
  repeat' split
  all_goals simp

@[simp] theorem protCommand_frame (s : State) (code : Nat) (tag : Nat) (bad : Bool) (f : State → Answer) (hf : ∀ t, (f t).1.frame = t.frame) : (protCommand s code tag bad f).frame = s.frame := by
  unfold protCommand
  refine command_frame _ _ _ _ fun t => ?_
  split
  · simp
  · split
    · simp
    · exact hf t

@[simp] theorem blockInst_frame (s : State) (h : Nat) (inst : Nat) (on : Nat) : (blockInst s h inst on).frame = s.frame := by simp [blockInst]

@[simp] theorem logBrace_frame (s : State) (code : Nat) (par : List Nat) : (logBrace s code par).frame = s.frame := by simp [logBrace]

@[simp] theorem setBrace_frame (s : State) (h : Nat) (v : Nat) : (setBrace s h v).frame = s.frame := by simp [setBrace]

@[simp] theorem grantLeash_frame (s : State) (h : Nat) : (grantLeash s h).frame = s.frame := by simp [grantLeash]

@[simp] theorem setLsh_frame (s : State) (up : Bool) (cause : Nat) : (setLsh s up cause).frame = s.frame := by unfold setLsh; split <;> simp

@[simp] theorem checkReady_frame (s : State) (cause : Nat) : (checkReady s cause).frame = s.frame := by unfold checkReady; split <;> simp

@[simp] theorem partnerStat_frame (s : State) : (partnerStat s).frame = s.frame := by simp [partnerStat]

@[simp] theorem loadBrace_frame (s : State) : (loadBrace s).frame = s.frame := by
  simp only [loadBrace]
  rw [partnerStat_frame]
  split
  · rw [wrs_frame, wrs_frame]
  · rw [State.frame_mk, State.frame_eta, wrs_frame, wrs_frame]

@[simp] theorem takeVbak_frame (s : State) (mv : Nat) : (takeVbak s mv).frame = s.frame := by
  simp only [takeVbak]
  split <;> simp

@[simp] theorem refreshHold_frame (s : State) : (refreshHold s).frame = s.frame := by simp [refreshHold]

@[simp] theorem setLoop_frame (s : State) (n : Nat) (l : Loop) : (State.setLoop s n l).frame = s.frame := by simp [State.setLoop]

@[simp] theorem loopShow_frame (s : State) (n : Nat) : (loopShow s n).frame = s.frame := by simp [loopShow]

@[simp] theorem loopPut_frame (s : State) (n : Nat) (l : Loop) : (loopPut s n l).frame = s.frame := by simp [loopPut]

@[simp] theorem loopAsk_frame (s : State) (n v : Nat) : (loopAsk s n v).frame = s.frame := by simp [loopAsk]

@[simp] theorem loopFollow_frame (s : State) (n : Nat) : (loopFollow s n).frame = s.frame := by simp [loopFollow]

@[simp] theorem loopLoss_frame (s : State) (n delivered : Nat) : (loopLoss s n delivered).frame = s.frame := by simp [loopLoss]

@[simp] theorem loopVolt_frame (s : State) (n v : Nat) : (loopVolt s n v).frame = s.frame := by
  simp only [loopVolt]
  split <;> simp

@[simp] theorem loopClear_frame (s : State) (n : Nat) (lost : Bool) : (loopClear s n lost).frame = s.frame := by
  simp only [loopClear]
  repeat' split
  all_goals simp

@[simp] theorem loopSet_frame (s : State) (n : Nat) (v : Nat) : (loopSet s n v).frame = s.frame := by
  simp only [loopSet]
  repeat' split
  all_goals simp

@[simp] theorem loopsMap_frame (s : State) : (loopsMap s).frame = s.frame := by
  unfold loopsMap
  split
  · rfl
  · refine foldl_frame _ (fun t n => ?_) _ _
    dsimp only
    split
    · split <;> simp
    · rfl

@[simp] theorem loadField_frame (s : State) : (loadField s).frame = s.frame := by
  unfold loadField
  dsimp only
  rw [refreshHold_frame, foldl_frame, foldl_frame]
  · simp
  · simp
  · intro t x
    repeat' split
    all_goals simp

@[simp] theorem posbiNotice_frame (s : State) (n : Nat) (closed : Bool) : (posbiNotice s n closed).frame = s.frame := by
  unfold posbiNotice
  repeat' split
  all_goals first
    | rfl
    | (refine foldl_frame _ (fun t x => ?_) _ _
       repeat' split
       all_goals simp)

@[simp] theorem keepFeeders_frame (s : State) : (keepFeeders s).frame = s.frame := by
  simp only [keepFeeders]
  repeat' split
  all_goals simp

@[simp] theorem rbmisClear_frame (s : State) (k : Nat) (v : Nat) (hw : Nat) : (rbmisClear s k v hw).frame = s.frame := by simp [rbmisClear]

@[simp] theorem setMtr_frame (s : State) (m : Meter) : (State.setMtr s m).frame = s.frame := by simp [State.setMtr]

@[simp] theorem accumulate_frame (s : State) (w : CircWin) : (accumulate s w).frame = s.frame := by simp [accumulate]

@[simp] theorem meterSave_frame (s : State) : (meterSave s).frame = s.frame := by simp [meterSave]

@[simp] theorem meterGap_frame (s : State) (circ : Nat) (cause : Nat) (lower : Bool) (ms : Nat) (watts : Int) (saveSeq : Nat) : (meterGap s circ cause lower ms watts saveSeq).frame = s.frame := by simp [meterGap]

@[simp] theorem stopGap_frame (s : State) (circ : Nat) (start : Nat) : (stopGap s circ start).frame = s.frame := by
  simp only [stopGap]
  repeat' split
  all_goals simp

@[simp] theorem invalGap_frame (s : State) (circ : Nat) : (invalGap s circ).frame = s.frame := by unfold invalGap; split <;> simp

@[simp] theorem meterRestore_frame (s : State) : (meterRestore s).frame = s.frame := by unfold meterRestore; split <;> simp

@[simp] theorem closePoint_frame (s : State) (intv : Nat) (mp : Nat) : (closePoint s intv mp).frame = s.frame := by
  simp only [closePoint]
  split <;> simp

@[simp] theorem closeBands_frame (s : State) (intv : Nat) (ch : Nat) : (closeBands s intv ch).frame = s.frame := by
  simp only [closeBands]
  split <;> simp

@[simp] theorem closeInterval_frame (s : State) (intv : Nat) : (closeInterval s intv).frame = s.frame := by simp [closeInterval]

@[simp] theorem circuitWindow_frame (s : State) (start : Nat) (dur : Nat) (circs : List CircWin) (c : Nat) : (circuitWindow s start dur circs c).frame = s.frame := by
  simp only [circuitWindow]
  repeat' split
  all_goals simp

@[simp] theorem pointWindow_frame (s : State) (locked : Bool) (bad : List Nat) (w : PointWin) : (pointWindow s locked bad w).frame = s.frame := by
  simp only [pointWindow]
  repeat' split
  all_goals simp

@[simp] theorem measWindow_frame (s : State) (w : Option MeasWin) : (measWindow s w).frame = s.frame := by
  simp only [measWindow]
  repeat' split
  all_goals simp

@[simp] theorem loadMeter_frame (s : State) (runtime : Bool) : (loadMeter s runtime).frame = s.frame := by simp [loadMeter]

@[simp] theorem meterDue_frame (s : State) : (meterDue s).frame = s.frame := by
  simp only [meterDue, dueTake]
  split <;> simp

@[simp] theorem freqWindow_frame (s : State) (w : Win) : (freqWindow s w).frame = s.frame := by simp [freqWindow]

@[simp] theorem takeWin_frame (s : State) (dur : Nat) (w : Win) : (takeWin s dur w).frame = s.frame := by simp [takeWin]

@[simp] theorem archiveMeter_frame (s : State) (intv : Nat) : (archiveMeter s intv).frame = s.frame := by
  unfold archiveMeter
  refine foldl_frame _ (fun t p => ?_) _ _
  split <;> simp

@[simp] theorem chanBands_frame (s : State) (p : ModSpan) : (chanBands s p).frame = s.frame := by
  simp only [chanBands]
  repeat' split
  all_goals simp

@[simp] theorem mpCommand_frame (s : State) (mp : Nat) (ch : Nat) (intv : Nat) (f : State → Answer) (hf : ∀ t, (f t).1.frame = t.frame) : (mpCommand s mp ch intv f).1.frame = s.frame := by
  simp only [mpCommand]
  repeat' split
  all_goals simp_all

@[simp] theorem evCopy_frame (s : State) (r : Rec) : (evCopy s r).frame = s.frame := by
  simp only [evCopy]
  repeat' split
  all_goals simp

@[simp] theorem commitRec_frame (s : State) (n : Nat) (r : Rec) (tag : Option Nat) : (commitRec s n r tag).frame = s.frame := by
  simp only [commitRec]
  repeat' split
  all_goals simp

@[simp] theorem commitSummary_frame (s : State) (e : Coal) (restored : Bool) : (commitSummary s e restored).frame = s.frame := by unfold commitSummary; split <;> simp

@[simp] theorem coalPut_frame (s : State) (e : Coal) (x : Option Coal) : (coalPut s e x).frame = s.frame := by simp [coalPut]

@[simp] theorem coalClose_frame (s : State) (e : Coal) : (coalClose s e).frame = s.frame := by unfold coalClose; split <;> simp

@[simp] theorem coalCount_frame (s : State) (e : Coal) (p : Posted) : (coalCount s e p).frame = s.frame := by
  simp only [coalCount]
  repeat' split
  all_goals simp

@[simp] theorem coalOpen_frame (s : State) (p : Posted) : (coalOpen s p).frame = s.frame := by unfold coalOpen; split <;> simp

@[simp] theorem coalCatchUp_frame (x0 : Nat) (x1 : State) (x2 : Posted) : (coalCatchUp x0 x1 x2).frame = x1.frame := by
  induction x0 generalizing x1 with
  | zero => rfl
  | succ n ih =>
    simp only [coalCatchUp]
    repeat' split
    all_goals simp [ih]

@[simp] theorem commitIngress_frame (s : State) (p : Posted) : (commitIngress s p).frame = s.frame := by
  simp only [commitIngress]
  repeat' split
  all_goals simp

@[simp] theorem flushLost_frame (s : State) : (flushLost s).frame = s.frame := by unfold flushLost; split <;> simp

@[simp] theorem flushLane_frame (s : State) : (flushLane s).frame = s.frame := by
  simp only [flushLane]
  split <;> simp

@[simp] theorem recSave_frame (s : State) : (recSave s).frame = s.frame := by simp [recSave]

@[simp] theorem recRestore_frame (s : State) : (recRestore s).frame = s.frame := by simp [recRestore]

@[simp] theorem recLose_frame (s : State) : (recLose s).frame = s.frame := by simp [recLose]

@[simp] theorem recStart_frame (s : State) : (recStart s).frame = s.frame := by simp [recStart]

@[simp] theorem lostUnread_frame (s : State) (n : Nat) (count : Nat) : (lostUnread s n count).frame = s.frame := by unfold lostUnread; split <;> simp

@[simp] theorem loadLogs_frame (s : State) : (loadLogs s).frame = s.frame := by
  unfold loadLogs
  refine foldl_frame _ (fun t x => ?_) _ _
  dsimp only
  repeat' split
  all_goals simp

@[simp] theorem logCommand_frame (s : State) (n : Nat) (lo : Nat) (f : Log → Answer) (hf : ∀ g, (f g).1.frame = s.frame) : (logCommand s n lo f).1.frame = s.frame := by
  unfold logCommand
  split
  · rfl
  · split
    · rfl
    · exact hf _

@[simp] theorem noteBad_frame (s : State) (n : Nat) (l : List Rec) : (noteBad s n l).frame = s.frame := by
  unfold noteBad
  refine foldl_frame _ (fun t x => ?_) _ _
  dsimp only
  repeat' split
  all_goals simp

end Sys2Proof.Machine
end

