-- ==== Sys2Proof/Laws/FrameD.lean ====
section
/-! SUPPORT. The frame through the archive, the segment, the keys and the lighting. -/
namespace Sys2Proof.Machine

@[simp] theorem setArc_frame (s : State) (a : Arc) : (State.setArc s a).frame = s.frame := by simp [State.setArc]

@[simp] theorem arcStat_frame (s : State) : (arcStat s).frame = s.frame := by
  simp only [arcStat]
  split <;> simp

@[simp] theorem arcKey_frame (s : State) : (arcKey s).frame = s.frame := by
  simp only [arcKey]
  repeat' split
  all_goals simp

@[simp] theorem arcGap_frame (s : State) (sub : Nat) (t : Nat) : (arcGap s sub t).frame = s.frame := by simp [arcGap]

@[simp] theorem arcSpan_frame (s : State) (sub t0 t1 : Nat) : (arcSpan s sub t0 t1).frame = s.frame := by simp [arcSpan]

@[simp] theorem arcIn_frame (s : State) (bytes : Nat) : (arcIn s bytes).frame = s.frame := by
  simp only [arcIn]
  split <;> simp

@[simp] theorem arcAccept_frame (s : State) (i : ArcItem) : (arcAccept s i).frame = s.frame := by simp [arcAccept]

@[simp] theorem arcPost_frame (s : State) (h sub t : Nat) (chans : List (Nat × Nat)) : (arcPost s h sub t chans).frame = s.frame := by
  simp only [arcPost]
  repeat' split
  all_goals simp

@[simp] theorem arcRepost_frame (s : State) (h : Nat) : (arcRepost s h).frame = s.frame := by
  unfold arcRepost
  split
  · rfl
  · refine foldl_frame _ (fun t q => ?_) _ _
    dsimp only
    split <;> simp

@[simp] theorem openExtent_frame (s : State) (c : Sec0C) (ns cls stream tier rate : Nat) (items : List ArcItem) : (openExtent s c ns cls stream tier rate items).1.frame = s.frame := by simp [openExtent]

@[simp] theorem addChunk_frame (s : State) (c : Sec0C) (no : Nat) (items : List ArcItem) : (addChunk s c no items).frame = s.frame := by unfold addChunk; split <;> simp

@[simp] theorem noteWrites_frame (s : State) (c : Sec0C) (n : Nat) : (noteWrites s c n).frame = s.frame := by simp [noteWrites]

@[simp] theorem freeExtent_frame (s : State) (no : Nat) : (freeExtent s no).frame = s.frame := by unfold freeExtent; split <;> simp

@[simp] theorem arcReclaim_frame (x0 : Nat) (x1 : State) (x2 : Sec0C) : (arcReclaim x0 x1 x2).frame = x1.frame := by
  induction x0 generalizing x1 with
  | zero => rfl
  | succ n ih =>
    simp only [arcReclaim]
    repeat' split
    all_goals simp [ih]

@[simp] theorem arcResume_frame (s : State) (c : Sec0C) : (arcResume s c).frame = s.frame := by unfold arcResume; split <;> simp

@[simp] theorem sealExtent_frame (s : State) (c : Sec0C) (no : Nat) : (sealExtent s c no).frame = s.frame := by simp [sealExtent]

@[simp] theorem arcStart_frame (s : State) : (arcStart s).frame = s.frame := by
  simp only [arcStart]
  split <;> simp

@[simp] theorem arcDue_frame (s : State) : (arcDue s).frame = s.frame := by
  have h := dueTake_frame s 11
  unfold arcDue
  cases k : dueTake s 11 with
  | none => rfl
  | some t =>
    rw [k] at h
    exact (ite_frame (arcStart_frame t) (arcKey_frame t)).trans h

@[simp] theorem distTrigger_frame (s : State) (c : Sec0C) (t : Nat) (cause : Nat) : (distTrigger s c t cause).1.frame = s.frame := by
  simp only [distTrigger]
  split <;> simp

@[simp] theorem modNode_frame (s : State) (ln : Nat) (f : Node → Node) : (State.modNode s ln f).frame = s.frame := by simp [State.modNode]

@[simp] theorem nodeChange_frame (s : State) (ln : Nat) (what : Nat) (chan : Nat) (t : Nat) : (nodeChange s ln what chan t).frame = s.frame := by simp [nodeChange]

@[simp] theorem markUnreach_frame (s : State) (ln : Nat) (t : Nat) : (markUnreach s ln t).frame = s.frame := by
  simp only [markUnreach]
  repeat' split
  all_goals simp

@[simp] theorem rekeyDue_frame (s : State) (ln : Nat) (dir : Nat) (t : Nat) : (rekeyDue s ln dir t).frame = s.frame := by
  simp only [rekeyDue]
  repeat' split
  all_goals simp

@[simp] theorem enqueue_frame (s : State) (ln : Nat) (f : DlFrame) : (enqueue s ln f).frame = s.frame := by simp [enqueue]

@[simp] theorem queueData_frame (s : State) (ln : Nat) (f : DlFrame) : (queueData s ln f).frame = s.frame := by
  simp only [queueData]
  repeat' split
  all_goals simp

@[simp] theorem queueCmd_frame (s : State) (ln : Nat) (op : Nat) (prio : Nat) (src : DlSrc) (body : List Byte) : (queueCmd s ln op prio src body).frame = s.frame := by simp [queueCmd]

@[simp] theorem queueTime_frame (s : State) (ln : Nat) : (queueTime s ln).frame = s.frame := by
  simp only [queueTime]
  repeat' split
  all_goals simp

@[simp] theorem queuePver_frame (s : State) (ln : Nat) : (queuePver s ln).frame = s.frame := by
  simp only [queuePver]
  repeat' split
  all_goals simp

@[simp] theorem refreshVers_frame (s : State) (t : Nat) : (refreshVers s t).frame = s.frame := by
  unfold refreshVers
  refine foldl_frame _ (fun t x => ?_) _ _
  dsimp only
  split
  · simp
  · split <;> simp

@[simp] theorem addDue_frame (s : State) (ln : Nat) (kind : Nat) : (addDue s ln kind).frame = s.frame := by simp [addDue]

@[simp] theorem queueDue_frame (s : State) (ln : Nat) : (queueDue s ln).frame = s.frame := by unfold queueDue; split <;> simp

@[simp] theorem chanMoved_frame (s : State) (x : Nat) : (chanMoved s x).frame = s.frame := by simp [chanMoved]

@[simp] theorem setKey_frame (s : State) (k : Keys) : (State.setKey s k).frame = s.frame := by simp [State.setKey]

@[simp] theorem setEng_frame (s : State) (e : Nat) (g : CryEng) : (State.setEng s e g).frame = s.frame := by simp [State.setEng]

@[simp] theorem jobsEnd_frame (s : State) (l : List CryEnd) : (jobsEnd s l).frame = s.frame := by simp [jobsEnd]

@[simp] theorem oldKeys_frame (s : State) : (oldKeys s).frame = s.frame := by unfold oldKeys; split <;> simp

@[simp] theorem markJobs_frame (s : State) (p : CryJob → Bool) (m : Nat) : (markJobs s p m).frame = s.frame := by simp [markJobs]

@[simp] theorem keyReject_frame (s : State) (m : KeyMsg) (st : Nat) : (keyReject s m st).frame = s.frame := by simp [keyReject]

@[simp] theorem epochUp_frame (s : State) : (epochUp s).frame = s.frame := by simp [epochUp]

@[simp] theorem keyApply_frame (s : State) (m : KeyMsg) : (keyApply s m).frame = s.frame := by
  simp only [keyApply]
  repeat' split
  all_goals simp

@[simp] theorem keyUpdate_frame (s : State) (m : KeyMsg) : (keyUpdate s m).1.frame = s.frame := by unfold keyUpdate; split <;> simp

@[simp] theorem loadWindows_frame (s : State) (c : Option Sec0E) : (loadWindows s c).frame = s.frame := by simp [loadWindows]

@[simp] theorem mapWin7_frame (s : State) (k : Nat) : (mapWin7 s k).frame = s.frame := by simp [mapWin7]

@[simp] theorem loadXwins_frame (s : State) (l : KMap XWin) : (loadXwins s l).frame = s.frame := by simp [loadXwins]

@[simp] theorem fabApply_frame (s : State) (c : FabChange) : (fabApply s c).frame = s.frame := by
  unfold fabApply
  split
  · simp
  · simp
  · simp
  · split <;> simp
  · simp

@[simp] theorem openFabric_frame (s : State) (c : FabChange) : (openFabric s c).frame = s.frame := by
  unfold openFabric
  split <;> simp

@[simp] theorem fabOpen_frame (n : Nat) (s : State) : (fabOpen n s).frame = s.frame := by
  induction n generalizing s with
  | zero => rfl
  | succ n ih =>
    unfold fabOpen
    split
    · rfl
    · split
      · rfl
      · rw [ih, fabApply_frame]; rfl

@[simp] theorem epSettle_frame (s : State) : (epSettle s).frame = s.frame := by
  simp only [epSettle]
  split
  · rfl
  · split <;> simp

@[simp] theorem dropWindows_frame (s : State) : (dropWindows s).frame = s.frame := by
  simp [dropWindows]

@[simp] theorem keySection_frame (s : State) : (keySection s).frame = s.frame := by simp [keySection]

@[simp] theorem zeroise_frame (s : State) (cause : Nat) : (zeroise s cause).frame = s.frame := by simp [zeroise]

@[simp] theorem tamperPin_frame (s : State) (zer low : Bool) : (tamperPin s zer low).frame = s.frame := by simp [tamperPin]

@[simp] theorem chuckLoad_frame (s : State) (lost : List Nat) : (chuckLoad s lost).frame = s.frame := by simp [chuckLoad]

@[simp] theorem burlStart_frame (s : State) (b : BurlRun) : (burlStart s b).1.frame = s.frame := by
  simp only [burlStart]
  split <;> simp

@[simp] theorem setLux_frame (s : State) (x : Lux) : (State.setLux s x).frame = s.frame := by simp [State.setLux]

@[simp] theorem modLux_frame (s : State) (ln : Nat) (f : NodeLux → NodeLux) : (State.modLux s ln f).frame = s.frame := by simp [State.modLux]

@[simp] theorem queueTable_frame (s : State) (ln : Nat) (k : Nat × Nat × List Byte) : (queueTable s ln k).frame = s.frame := by
  simp only [queueTable]
  repeat' split
  all_goals simp

@[simp] theorem queueTables_frame (s : State) (ln : Nat) : (queueTables s ln).frame = s.frame := by unfold queueTables; split <;> simp

@[simp] theorem setFeeder_frame (s : State) (f : Nat) (x : Feeder) : (State.setFeeder s f x).frame = s.frame := by unfold State.setFeeder; split <;> simp

@[simp] theorem feederTo_frame (s : State) (f : Nat) (x : Feeder) (st : Nat) (cause : Nat) : (feederTo s f x st cause).frame = s.frame := by
  simp only [feederTo]
  split <;> simp

@[simp] theorem feederLost_frame (s : State) (f : Nat) (cause : Nat) (t : Nat) (inferred : Bool) : (feederLost s f cause t inferred).frame = s.frame := by
  simp only [feederLost]
  split <;> simp

@[simp] theorem endPickup_frame (s : State) (f : Nat) : (endPickup s f).frame = s.frame := by
  simp only [endPickup]
  split <;> simp

@[simp] theorem feederPickup_frame (s : State) (f : Nat) (cause : Nat) (t : Nat) : (feederPickup s f cause t).frame = s.frame := by
  simp only [feederPickup]
  split <;> simp

@[simp] theorem queueLevel_frame (s : State) (ln : Nat) (src : DlSrc) (level : Nat) (ramp : Nat) (hold : Nat) (window : Option (Nat × Nat)) : (queueLevel s ln src level ramp hold window).frame = s.frame := by simp [queueLevel]

@[simp] theorem leaveRest_frame (s : State) (f : Nat) (t : Nat) : (leaveRest s f t).frame = s.frame := by simp [leaveRest]

@[simp] theorem releaseBatch_frame (s : State) (f : Nat) : (releaseBatch s f).frame = s.frame := by simp [releaseBatch]

@[simp] theorem releaseEnded_frame (s : State) (f : Nat) (ln : Nat) (ok : Bool) (t : Nat) : (releaseEnded s f ln ok t).frame = s.frame := by
  simp only [releaseEnded]
  repeat' split
  all_goals simp

@[simp] theorem refreshLux_frame (s : State) : (refreshLux s).frame = s.frame := by simp [refreshLux]

@[simp] theorem faultTell_frame (s : State) (ln : Nat) (cls : Nat) (raised : Bool) (detail : Nat) (origin : Nat) (t : Nat) : (faultTell s ln cls raised detail origin t).frame = s.frame := by simp [faultTell]

@[simp] theorem faultRaise_frame (s : State) (ln : Nat) (cls : Nat) (detail : Nat) (origin : Nat) (t : Nat) : (faultRaise s ln cls detail origin t).frame = s.frame := by
  simp only [faultRaise]
  repeat' split
  all_goals simp

@[simp] theorem faultClear_frame (s : State) (ln : Nat) (cls : Nat) (detail : Nat) (origin : Nat) (t : Nat) : (faultClear s ln cls detail origin t).frame = s.frame := by
  simp only [faultClear]
  repeat' split
  all_goals simp

@[simp] theorem nextGroupCtr_frame (s : State) : (nextGroupCtr s).1.frame = s.frame := by simp [nextGroupCtr]

theorem howlPut_frame {s : State} {origin tag scope group ttl : Nat} {deadline : Option Nat} {op : Nat} {body : List Byte} {p : State × Nat}
    (h : howlPut s origin tag scope group ttl deadline op body = some p) : p.1.frame = s.frame := by
  unfold howlPut at h
  dsimp only at h
  split at h
  · cases h
  · cases h
    refine (inc_frame _ _).trans ((foldl_frame _ (fun t x => by simp) _ _).trans ?_)
    exact (show _ = (nextGroupCtr s).1.frame from rfl).trans (nextGroupCtr_frame s)

@[simp] theorem sendOverride_frame (s : State) (id : Nat) (o : Override) : (sendOverride s id o).frame = s.frame := by
  unfold sendOverride
  dsimp only
  split
  · split
    · rename_i h
      refine (foldl_frame _ (fun t x => ?_) _ _).trans ((howlPut_frame h).trans (by simp))
      split
      · split
        · rfl
        · simp
      · rfl
    · exact (foldl_frame _ (fun t x => by simp) _ _).trans (by simp)
  · exact (foldl_frame _ (fun t x => by simp) _ _).trans (by simp)

@[simp] theorem endOverride_frame (s : State) (id : Nat) : (endOverride s id).frame = s.frame := by
  simp only [endOverride]
  split
  · simp
  · rw [foldl_frame]
    · simp
    · intro t x
      repeat' split
      all_goals simp

@[simp] theorem waveLantern_frame (s : State) (c : PathCfg) (t : Nat) (v : Nat) (ln : Nat) (dist : Nat) : (waveLantern s c t v ln dist).frame = s.frame := by
  simp only [waveLantern]
  repeat' split
  all_goals simp

@[simp] theorem startWaves_frame (s : State) (ln : Nat) (tn : Nat) (kind : Nat) (dir : Nat) (speed : Nat) : (startWaves s ln tn kind dir speed).frame = s.frame := by
  unfold startWaves
  refine foldl_frame _ (fun t x => ?_) _ _
  split
  · rfl
  · split
    · rfl
    · exact (foldl_frame _ (fun t x => by simp) _ _).trans (by simp)

@[simp] theorem luxContact_frame (s : State) (ln : Nat) (t : Nat) : (luxContact s ln t).frame = s.frame := by simp [luxContact]

@[simp] theorem luxEnded_frame (s : State) (ln : Nat) (f : DlFrame) (ok : Bool) (t : Nat) : (luxEnded s ln f ok t).frame = s.frame := by
  simp only [luxEnded]
  repeat' split
  all_goals simp

end Sys2Proof.Machine
end

