-- ==== Sys2Proof/Laws/FrameE.lean ====
section
/-! SUPPORT. The frame through the link to the nodes. -/
namespace Sys2Proof.Machine

@[simp] theorem markLost_frame (s : State) (ln : Nat) (t : Nat) : (markLost s ln t).frame = s.frame := by
  simp only [markLost]
  repeat' split
  all_goals simp

@[simp] theorem setHead_frame (s : State) (ln : Nat) (f : DlFrame) : (setHead s ln f).frame = s.frame := by simp [setHead]

@[simp] theorem cmdAcked_frame (s : State) (ln : Nat) (f : DlFrame) (t : Nat) : (cmdAcked s ln f t).frame = s.frame := by
  simp only [cmdAcked]
  repeat' split
  all_goals simp

@[simp] theorem dropReq_frame (s : State) (f : DlFrame) (now : Nat) : (dropReq s f now).frame = s.frame := by
  simp only [dropReq]
  repeat' split
  all_goals simp

@[simp] theorem endFrame_frame (s : State) (ln : Nat) (f : DlFrame) (res : Nat) (t : Nat) : (endFrame s ln f res t).frame = s.frame := by
  simp only [endFrame]
  repeat' split
  all_goals simp

@[simp] theorem ask_frame (s : State) (ln : Nat) (f : DlFrame) (ch : Nat) (mode : DlMode) (cls : TxCls) (e l dur p : Nat) (lead : List (Nat × List Byte)) : (ask s ln f ch mode cls e l dur p lead).frame = s.frame := by simp [ask]

@[simp] theorem askTrain_frame (s : State) (ln : Nat) (d : Node) (f : DlFrame) (ch now : Nat) : (askTrain s ln d f ch now).frame = s.frame := by unfold askTrain; split <;> simp

theorem formFrame_frame {s : State} {ln : Nat} {f : DlFrame} {t : Nat} {s' : State} {f' : DlFrame}
    (h : formFrame s ln f t = some (s', f')) : s'.frame = s.frame := by
  unfold formFrame at h
  split at h
  · cases h
  · split at h
    · cases h
    · split at h
      · cases h; rfl
      · split at h
        · cases h
        · dsimp only at h
          split at h <;> cases h <;> simp

@[simp] theorem attempt_frame (s : State) (ln now : Nat) : (attempt s ln now).frame = s.frame := by
  have hf := fun f => @formFrame_frame s ln f now
  unfold attempt
  split
  · exact Eq.refl _
  · split
    · exact Eq.refl _
    · extract_lets late
      generalize late = b
      split
      · exact Eq.refl _
      · split
        · exact endFrame_frame ..
        · split
          · exact Eq.refl _
          · split
            · exact endFrame_frame ..
            · split
              · exact Eq.refl _
              · rename_i h
                have hg := hf _ h
                clear hf h
                repeat' split
                all_goals ((try extract_lets); (repeat' split) <;> simp only [setHead_frame, ask_frame, askTrain_frame, markLost_frame, hg])

@[simp] theorem kickNode_frame (now : Nat) (x1 : Nat) (x2 : State) (x3 : Nat) : (kickNode now x1 x2 x3).frame = x2.frame := by
  induction x1 generalizing x2 with
  | zero => rfl
  | succ n ih =>
    simp only [kickNode]
    repeat' split
    all_goals simp [ih]

@[simp] theorem kickAll_frame (s : State) (now : Nat) : (kickAll s now).frame = s.frame := by
  have hp : ∀ (l : List (Nat × Node)) (t : State), (l.foldl (fun s p => if p.2.q.isEmpty then s else
      kickNode now (p.2.q.length + 1) s p.1) t).frame = t.frame := fun l t => foldl_frame _ (fun t x => by split <;> simp) _ _
  unfold kickAll
  exact (hp _ _).trans ((hp _ _).trans (releaseOld03_frame s))

@[simp] theorem exchangeFailed_frame (s : State) (ln : Nat) (f : DlFrame) (t : Nat) : (exchangeFailed s ln f t).frame = s.frame := by
  simp only [exchangeFailed]
  repeat' split
  all_goals simp

@[simp] theorem chanBusy_frame (s : State) (ln : Nat) (f : DlFrame) (now : Nat) : (chanBusy s ln f now).frame = s.frame := by
  simp only [chanBusy]
  repeat' split
  all_goals simp

@[simp] theorem setFrame_frame (s : State) (id : Option Nat) (psdu : List Byte) : (setFrame s id psdu).frame = s.frame := by simp [setFrame]

@[simp] theorem launch_frame (s : State) (ln : Nat) (f : DlFrame) (t dur : Nat) : (launch s ln f t dur).frame = s.frame := by
  simp only [launch]
  repeat' split
  all_goals simp

@[simp] theorem howlResult_frame (s : State) (id : Nat) (res : TxResult) (now : Nat) : (howlResult s id res now).frame = s.frame := by simp [howlResult]

@[simp] theorem linkResult_frame (s : State) (now : Nat) (r : Nat × TxResult) : (linkResult s now r).frame = s.frame := by
  simp only [linkResult]
  repeat' split
  all_goals simp

@[simp] theorem tellLink_frame (s : State) (now : Nat) : (tellLink s now).frame = s.frame := by
  unfold tellLink
  exact (kickAll_frame _ _).trans ((foldl_frame _ (fun t x => by simp) _ _).trans (by simp))

@[simp] theorem linkCut_frame (s : State) : (linkCut s).frame = s.frame := by
  simp only [linkCut]
  rw [foldl_frame]
  · simp
  · intro t x
    repeat' split
    all_goals simp

@[simp] theorem ccaBusy_frame (s : State) (c : Carrier) (t : Nat) : (ccaBusy s c t).frame = s.frame := by
  simp only [ccaBusy]
  repeat' split
  all_goals simp

@[simp] theorem contact_frame (s : State) (ln : Nat) (e : Option Int) (t : Nat) : (contact s ln e t).frame = s.frame := by
  simp only [contact]
  repeat' split
  all_goals simp

@[simp] theorem authFail_frame (s : State) (ln : Nat) (reason : Nat) (t : Nat) : (authFail s ln reason t).frame = s.frame := by
  simp only [authFail]
  repeat' split
  all_goals simp

@[simp] theorem unknownNode_frame (s : State) (f : RxFrame) : (unknownNode s f).frame = s.frame := by
  simp only [unknownNode]
  split <;> simp

@[simp] theorem rxNode_frame (s : State) (f : RxFrame) (typ : Nat) : (rxNode s f typ).1.frame = s.frame := by
  simp only [rxNode]
  repeat' split
  all_goals simp

@[simp] theorem sendAck_frame (s : State) (f : RxFrame) (d : Node) : (sendAck s f d).frame = s.frame := by
  simp only [sendAck]
  repeat' split
  all_goals simp

@[simp] theorem rxFrame_frame (s : State) (f : RxFrame) (typ : Nat) : (rxFrame s f typ).1.frame = s.frame := by
  unfold rxFrame
  have h := rxNode_frame s f typ
  repeat' split
  all_goals simp_all

@[simp] theorem saveCounters_frame (s : State) : (saveCounters s).frame = s.frame := by simp [saveCounters]

@[simp] theorem askHowl_frame (s : State) (a : Nat) (h : Howl) : (askHowl s a h).frame = s.frame := by
  simp only [askHowl]
  repeat' split
  all_goals simp

end Sys2Proof.Machine
end

