-- ==== Sys2Proof/Laws/FrameF.lean ====
section
/-! SUPPORT. The frame through the network of lanterns, the devices and an apply. -/
namespace Sys2Proof.Machine

/-- Changing a device keeps the frame where its flash stays. -/
theorem setDev_frame {s : State} {d : Nat} {x : CfgDev} (h : x.flash = (s.dev d).flash) : (s.setDev d x).frame = s.frame := by
  unfold State.dev at h
  unfold State.setDev
  split
  · rw [if_pos ‹_›] at h
    simp only [State.frame_mk, h, State.frame_eta]
  · rw [if_neg ‹_›] at h
    simp only [State.frame_mk, h, State.frame_eta]

@[simp] theorem programDev_frame (s : State) (d : Nat) (c : Nat) (b : Nat) : (programDev s d c b).frame = s.frame := by
  refine setDev_frame ?_
  unfold CfgDev.program
  rfl

@[simp] theorem withdraw_frame (s : State) (d : Nat) : (withdraw s d).frame = s.frame := by simp [withdraw]

@[simp] theorem writePlate_frame (s : State) (d seq cst bst : Nat) (e : WriteEnd) : (writePlate s d seq cst bst e).frame = s.frame := by
  unfold writePlate
  dsimp only
  split
  · rfl
  · exact setDev_frame rfl
  · exact setDev_frame rfl
  · exact setDev_frame rfl

@[simp] theorem attemptDue_frame (s : State) : (attemptDue s).frame = s.frame := by
  simp only [attemptDue]
  repeat' split
  all_goals simp

@[simp] theorem cfgState_frame (s : State) (v : Nat) : (cfgState s v).frame = s.frame := by simp [cfgState]

@[simp] theorem cfgDef_frame (s : State) (v : Nat) : (cfgDef s v).frame = s.frame := by simp [cfgDef]

@[simp] theorem confirmImage_frame (s : State) : (confirmImage s).frame = s.frame := by simp [confirmImage]

@[simp] theorem deriveKey_frame (s : State) (eui : Nat) : (deriveKey s eui).1.frame = s.frame := by
  simp only [deriveKey]
  repeat' split
  all_goals simp

@[simp] theorem newNode_frame (s : State) (r : RosterRec) : (newNode s r).frame = s.frame := by simp [newNode]

@[simp] theorem recallHead_frame (s : State) (ln : Nat) : (recallHead s ln).frame = s.frame := by
  simp only [recallHead]
  repeat' split
  all_goals simp

@[simp] theorem putRecord_frame (s : State) (r : RosterRec) : (putRecord s r).frame = s.frame := by
  simp only [putRecord]
  repeat' split
  all_goals simp

@[simp] theorem rosterSettled_frame (s : State) (old : List RosterRec) : (rosterSettled s old).frame = s.frame := by simp [rosterSettled]

@[simp] theorem loadRoster_frame (s : State) : (loadRoster s).frame = s.frame := by simp [loadRoster]

@[simp] theorem dropRecord_frame (s : State) (ln : Nat) : (dropRecord s ln).frame = s.frame := by unfold dropRecord; split <;> simp

@[simp] theorem rederive_frame (s : State) (ln : Nat) : (rederive s ln).frame = s.frame := by
  simp only [rederive]
  repeat' split
  all_goals simp

@[simp] theorem applyRoster_frame (s : State) : (applyRoster s).frame = s.frame := by simp [applyRoster]

@[simp] theorem uplink_frame (s : State) (f : RxFrame) (g : RxFrame → State → State) (hg : ∀ f t, (g f t).frame = t.frame) :
    (uplink s f g).frame = s.frame := by
  have h := rxFrame_frame s (stamped s f) 0
  unfold uplink
  dsimp only
  split <;> simp_all

@[simp] theorem nodeData_frame (s : State) (f : RxFrame) (op : Nat) (tag : Nat) (body : List Byte) : (nodeData s f op tag body).frame = s.frame := by simp [nodeData]

@[simp] theorem uvAdd_frame (s : State) (f : Nat) (ln : Nat) (t : Nat) (u : Uvolt) : (uvAdd s f ln t u).frame = s.frame := by simp [uvAdd]

@[simp] theorem lostReport_frame (s : State) (f : Nat) (ln : Nat) (t : Nat) : (lostReport s f ln t).frame = s.frame := by
  simp only [lostReport]
  repeat' split
  all_goals simp

@[simp] theorem takeNotice_frame (s : State) : (takeNotice s).frame = s.frame := by unfold takeNotice; split <;> simp

@[simp] theorem kDrain_frame (s : State) (n : Nat) : (kDrain s n).frame = s.frame := by
  simp only [kDrain]
  split <;> simp

@[simp] theorem askFeeders_frame (s : State) : (askFeeders s).frame = s.frame := by unfold askFeeders; split <;> simp

@[simp] theorem feederReply_frame (s : State) (f : Nat) (st : Nat) : (feederReply s f st).frame = s.frame := by
  simp only [feederReply]
  repeat' split
  all_goals simp

@[simp] theorem takeFeeders_frame (s : State) (states : List (Nat × Nat)) : (takeFeeders s states).frame = s.frame := by
  unfold takeFeeders
  refine foldl_frame _ (fun t x => ?_) _ _
  dsimp only
  repeat' split
  all_goals simp

@[simp] theorem luxStart_frame (s : State) : (luxStart s).frame = s.frame := by
  unfold luxStart
  extract_lets s1 z s2
  have h : s2.frame = s.frame := by simp only [s2, z, s1, setLux_frame, askFeeders_frame]
  clear_value s2 s1
  refine (foldl_frame _ (fun t x => ?_) _ _).trans h
  dsimp only
  repeat' split
  all_goals simp

@[simp] theorem applyLux_frame (s : State) : (applyLux s).frame = s.frame := by simp [applyLux]

@[simp] theorem luxDue_frame (s : State) : (luxDue s).frame = s.frame := by
  have h := dueTake_frame s 10
  unfold luxDue
  cases k : dueTake s 10 with
  | none => rfl
  | some t => rw [k] at h; exact (applyLux_frame t).trans h

@[simp] theorem ownerTakes_frame (s : State) (n : Nat) : (ownerTakes s n).frame = s.frame := by
  simp only [ownerTakes]
  repeat' split
  all_goals simp

@[simp] theorem ownerArm_frame (s : State) (n : Nat) : (ownerArm s n).frame = s.frame := by
  simp only [ownerArm]
  repeat' split
  all_goals simp

@[simp] theorem ownersTick_frame (s : State) : (ownersTick s).frame = s.frame := by unfold ownersTick; split <;> simp

@[simp] theorem defOff_frame (s : State) (ids : List Nat) : (defOff s ids).frame = s.frame := by simp [defOff]

@[simp] theorem defer_frame (s : State) (t : Secs) (n : Nat) : (defer s t n).frame = s.frame := by simp [defer]

theorem addEnt_frame {s t : State} {e : FwdEnt} (h : addEnt s e = .ok t) : t.frame = s.frame := by
  unfold addEnt at h
  dsimp only at h
  repeat' split at h
  all_goals (first | cases h; simp | cases h)

theorem delEnt_frame {s t : State} {e : FwdEnt} (h : delEnt s e = .ok t) : t.frame = s.frame := by
  unfold delEnt at h
  dsimp only at h
  repeat' split at h
  all_goals (first | cases h; simp | cases h)

theorem entsAll_frame {f : State → FwdEnt → Except Nat State} (hf : ∀ s e t, f s e = .ok t → t.frame = s.frame) {l : List FwdEnt} {s t : State}
    (h : entsAll f l s = some t) : t.frame = s.frame := by
  induction l generalizing s with
  | nil => cases h; rfl
  | cons e l ih =>
    simp only [entsAll] at h
    split at h
    · exact (ih h).trans (hf _ _ _ ‹_›)
    · cases h

theorem applyForward_frame {s t : State} (h : applyForward s = some t) : t.frame = s.frame := by
  unfold applyForward at h
  dsimp only at h
  obtain ⟨u, hu, ht⟩ := Option.bind_eq_some_iff.mp h
  exact (entsAll_frame (fun _ _ _ => addEnt_frame) ht).trans ((entsAll_frame (fun _ _ _ => delEnt_frame) hu).trans (by simp))

theorem stepNow_frame {s t : State} {c : Secs} {n : Nat} (h : stepNow s c n = some t) : t.frame = s.frame := by
  have hk : ∀ (l : List Nat) (u : State), (l.foldl rederive u).frame = u.frame := fun l u => foldl_frame _ (fun t x => by simp) _ _
  unfold stepNow at h
  extract_lets c0 z s0 old z2 s1 at h
  have h0 : s0.frame = s.frame := by simp only [s0, z, State.frame_mk, State.frame_eta]
  have h1 : s1.frame = s0.frame := (loadRadio_frame ..).trans (by simp only [z2, State.frame_mk, State.frame_eta])
  clear_value s1 s0 old
  split at h
  · cases h; exact (keySection_frame ..).trans h0
  · cases h; exact (openFabric_frame ..).trans h0
  · cases h; exact (loadTime_frame ..).trans h0
  · exact (applyForward_frame h).trans h0
  · cases h; exact (loadMeter_frame ..).trans h0
  · rw [← Option.some.inj h, loadField_frame, setSecs_frame]; exact h0
  · cases h; exact (kickAll_frame ..).trans ((hk _ _).trans (h1.trans h0))
  · cases h; exact (applyRoster_frame ..).trans h0
  · cases h; exact (applyLux_frame ..).trans h0
  · cases h; exact (ite_frame (arcStart_frame _) (arcKey_frame _)).trans h0

theorem applyStep_frame {s t : State} {a : Apply} {n : Nat} (h : applyStep s a n = some t) : t.frame = s.frame := by
  have he : ∀ (l : List Nat) (u : State), (l.foldl endOverride u).frame = u.frame := fun l u => foldl_frame _ (fun t x => by simp) _ _
  unfold applyStep at h
  extract_lets s0 s1 at h
  have h0 : s0.frame = s.frame := defOff_frame ..
  have h1 : s1.frame = s.frame := ite_frame ((he _ _).trans h0) h0
  clear_value s1 s0
  split at h
  · cases h; exact (defer_frame ..).trans h1
  · exact (stepNow_frame h).trans h1

@[simp] theorem applySteps_frame (a : Apply) (l : List Nat) (s : State) : (applySteps a l s).1.frame = s.frame := by
  induction l generalizing s with
  | nil => rfl
  | cons n l ih =>
    simp only [applySteps]
    split
    · exact (ih _).trans (ite_frame (gridRecord_frame s) rfl)
    · split
      · rename_i h
        exact (ih _).trans (applyStep_frame h)
      · rfl

@[simp] theorem bringUp_frame (s : State) : (bringUp s).frame = s.frame := by
  simp only [bringUp]
  repeat' split
  all_goals simp

@[simp] theorem dropPasses_frame (s : State) (h : Nat) : (dropPasses s h).frame = s.frame := by simp [dropPasses]

@[simp] theorem forceProt_frame (s : State) (t : Secs) : (forceProt s t).frame = s.frame := by
  unfold forceProt
  extract_lets c old7 xold carry s1 s2 s3 s4 s5 z s6
  have h1 : s1.frame = s.frame := foldl_frame _ (fun t x => by simp) _ _
  have h2 : s2.frame = s1.frame := by simp only [s2, setHf_frame]
  have h3 : s3.frame = s2.frame := by simp only [s3, setSecs_frame]
  have h4 : s4.frame = s3.frame := by simp only [s4, loadProt_frame, loadBrace_frame, subscribe_frame, defOff_frame]
  have h5 : s5.frame = s4.frame := ite_frame rfl (openFabric_frame ..)
  have h6 : s6.frame = s5.frame := by simp only [s6, z, State.frame_mk, State.frame_eta]
  have h : s6.frame = s.frame := h6.trans (h5.trans (h4.trans (h3.trans (h2.trans h1))))
  clear_value s6 s5 s4 s3 s2 s1
  split
  · exact (bringUp_frame ..).trans h
  · exact h

@[simp] theorem applyEnd_frame (s : State) (a : Apply) : (applyEnd s a).frame = s.frame := by
  simp only [applyEnd]
  repeat' split
  all_goals simp

@[simp] theorem applyRest_frame (s : State) (a : Apply) : (applyRest s a).frame = s.frame := by unfold applyRest; split <;> simp

@[simp] theorem applyFail_frame (s : State) : (applyFail s).frame = s.frame := by
  simp only [applyFail]
  repeat' split
  all_goals simp

end Sys2Proof.Machine
end

