-- ==== Sys2Proof/Laws/FrameG.lean ====
section
/-! SUPPORT. The frame through the brace. -/
namespace Sys2Proof.Machine

@[simp] theorem endReq_frame (s : State) (st : Nat) : (endReq s st).frame = s.frame := by unfold endReq; split <;> simp

@[simp] theorem carryOver_frame (s : State) (frm : Nat) (nw : Nat) : (carryOver s frm nw).frame = s.frame := by simp [carryOver]

@[simp] theorem takeLeash_frame (s : State) (frm nw xc : Nat) : (takeLeash s frm nw xc).frame = s.frame := by
  unfold takeLeash
  extract_lets s1 s2 zp zb s3 k s4 s5
  have h : s5.frame = s.frame := by
    simp only [s5, arcRepost_frame, s4, logBrace_frame, s3, zp, zb, State.frame_mk, State.frame_eta, s2, inc_frame, raise_frame, s1,
      grantLeash_frame, carryOver_frame]
  clear_value s5 s4 s3 s2 s1
  split
  · simp [h]
  · exact h

@[simp] theorem noLead_frame (s : State) : (noLead s).frame = s.frame := by simp [noLead]

@[simp] theorem presentAgain_frame (s : State) : (presentAgain s).frame = s.frame := by
  simp only [presentAgain]
  repeat' split
  all_goals simp

@[simp] theorem hoLost_frame (s : State) : (hoLost s).frame = s.frame := by
  unfold hoLost
  extract_lets ph s1 z
  have h1 : s1.frame = s.frame := foldl_frame _ (fun t x => by split <;> simp) _ _
  clear_value s1
  split
  · rfl
  · simp only [applyFail_frame, State.frame_mk, State.frame_eta, clr_frame, z, h1]

@[simp] theorem declareFailed_frame (s : State) (h : Nat) (reason : Nat) (k : Nat) (xc : Nat) (cause : Nat) : (declareFailed s h reason k xc cause).frame = s.frame := by
  simp only [declareFailed]
  repeat' split
  all_goals simp

@[simp] theorem planned_frame (s : State) (nw : Nat) (xc : Nat) : (planned s nw xc).frame = s.frame := by simp [planned]

@[simp] theorem pubsOver_frame (s : State) (n : Secs) (nw : Nat) : (pubsOver s n nw).frame = s.frame := by
  unfold pubsOver
  split <;> simp

@[simp] theorem hoMove_frame (s : State) (a : Apply) (nw k : Nat) : (hoMove s a nw k).frame = s.frame := by
  have key (u : State) : State.frame { u with cfg := { u.cfg with sampleEpoch := k + 1 }, brc := { u.brc with ho := some (1 - nw, k + 1, u.now) } } = u.frame := by
    rw [State.frame_mk, State.frame_eta]
  have swap (u : State) (c : Secs) : State.frame { u with cfg := { u.cfg with secs := c } } = u.frame := by
    rw [State.frame_mk, State.frame_eta]
  unfold hoMove
  refine (key _).trans ?_
  rw [wrs_frame, setBrace_frame]
  refine (ite_frame (s := loadProt _) rfl (openFabric_frame ..)).trans ?_
  rw [loadProt_frame, loadBrace_frame, subscribe_frame, planned_frame]
  exact (swap _ _).trans ((setBrace_frame ..).trans (pubsOver_frame ..))

@[simp] theorem hoSwitch_frame (s : State) (nw k : Nat) : (hoSwitch s nw k).frame = s.frame := by
  unfold hoSwitch
  split <;> simp

@[simp] theorem tryQuiet_frame (s : State) (c : Sec08) (a : VecPkt) (b : VecPkt) : (tryQuiet s c a b).frame = s.frame := by
  simp only [tryQuiet]
  repeat' split
  all_goals simp

@[simp] theorem coreSubst_frame (s : State) (h core reason : Nat) : (coreSubst s h core reason).frame = s.frame := by
  simp only [coreSubst]
  split <;> simp

@[simp] theorem rejoinFailed_frame (s : State) (h : Nat) : (rejoinFailed s h).frame = s.frame := by
  simp only [rejoinFailed]
  split <;> simp

@[simp] theorem declareSplit_frame (s : State) (k : Nat) (mask : Nat) : (declareSplit s k mask).frame = s.frame := by
  simp only [declareSplit]
  repeat' split
  all_goals simp

@[simp] theorem disnReached_frame (s : State) (c : Sec08) (lead heel k out : Nat) : (disnReached s c lead heel k out).frame = s.frame := by
  simp only [disnReached]
  repeat' split
  all_goals simp

@[simp] theorem countDisagree_frame (s : State) (a : VecPkt) (dis : Nat) (agr : Nat) : (countDisagree s a dis agr).frame = s.frame := by
  simp only [countDisagree]
  repeat' split
  all_goals simp

@[simp] theorem countAgree_frame (s : State) (dis agr : Nat) (sec : List Nat) : (countAgree s dis agr sec).frame = s.frame := by
  simp only [countAgree]
  repeat' split
  all_goals simp

@[simp] theorem compareRuns_frame (s : State) (c : Sec08) (lead smp dis agr : Nat) : (compareRuns s c lead smp dis agr).frame = s.frame := by
  simp only [compareRuns]
  repeat' split
  all_goals simp

@[simp] theorem compareVecs_frame (s : State) (c : Sec08) (lead : Nat) (a b : VecPkt) : (compareVecs s c lead a b).frame = s.frame := by
  simp only [compareVecs]
  split <;> simp

@[simp] theorem heelLate_frame (s : State) (heel : Nat) (k : Nat) : (heelLate s heel k).frame = s.frame := by
  simp only [heelLate]
  repeat' split
  all_goals simp

@[simp] theorem copyState_frame (s : State) (frm : Nat) (h : Nat) : (copyState s frm h).frame = s.frame := by simp [copyState]

@[simp] theorem startAlone_frame (s : State) (h : Nat) : (startAlone s h).frame = s.frame := by
  simp only [startAlone]
  split <;> simp

@[simp] theorem aloneAgain_frame (s : State) (h : Nat) : (aloneAgain s h).frame = s.frame := by simp [aloneAgain]

@[simp] theorem partnerOut_frame (s : State) : (partnerOut s).frame = s.frame := by unfold partnerOut; split <;> simp

@[simp] theorem saveTxseq_frame (s : State) : (saveTxseq s).frame = s.frame := by simp [saveTxseq]

end Sys2Proof.Machine
end

