-- ==== Sys2Proof/Laws/FrameH.lean ====
section
/-! SUPPORT. The frame through the starts. -/
namespace Sys2Proof.Machine

@[simp] theorem setCause_frame (s : State) (c : Nat) : (setCause s c).frame = s.frame := by simp [setCause]

@[simp] theorem raiseFloor_frame (s : State) : (raiseFloor s).frame = s.frame := by
  simp only [raiseFloor]
  split <;> simp

@[simp] theorem confirmBillet_frame (s : State) : (confirmBillet s).frame = s.frame := by simp [confirmBillet]

@[simp] theorem endTrial_frame (s : State) (d : Nat) : (endTrial s d).frame = s.frame := by
  simp only [endTrial]
  repeat' split
  all_goals simp

@[simp] theorem endProbation_frame (s : State) (d : Nat) : (endProbation s d).frame = s.frame := by
  simp only [endProbation]
  repeat' split
  all_goals simp

@[simp] theorem selectDevice_frame (s : State) : (selectDevice s).1.frame = s.frame := by
  unfold selectDevice
  extract_lets s0 s1 d
  have h1 : s1.frame = s.frame := by simp only [s1, s0, endProbation_frame, endTrial_frame]
  clear_value d s1
  split
  · exact h1
  · extract_lets o fell s2
    exact (ite_frame (event_frame ..) rfl).trans h1

@[simp] theorem loadDomains_frame (s : State) : (loadDomains s).frame = s.frame := by
  simp only [loadDomains]
  split <;> simp

@[simp] theorem milestones_frame (s : State) (ms : List Nat) : (milestones s ms).frame = s.frame := by
  simp only [milestones]
  repeat' split
  all_goals simp

@[simp] theorem loadImage_frame (s : State) (d : Nat) (tab : List Nat) (i : Image) (ms : List Nat) : (loadImage s d tab i ms).frame = s.frame := by unfold loadImage; split <;> simp

@[simp] theorem bootSteps_frame (s : State) (d : Nat) (ms : List Nat) : (bootSteps s d ms).1.frame = s.frame := by
  simp only [bootSteps]
  repeat' split
  all_goals simp

@[simp] theorem startCommon_frame (s : State) (lost : List Nat) : (startCommon s lost).frame = s.frame := by simp [startCommon]

end Sys2Proof.Machine
end

