-- ==== Sys2Proof/Laws/FrameI.lean ====
section
/-! SUPPORT. The frame through the supply, the supervisor, images, updates and campaigns. -/
namespace Sys2Proof.Machine

@[simp] theorem releaseAll_frame (s : State) (cause : Nat) (lsh : Nat) : (releaseAll s cause lsh).frame = s.frame := by simp [releaseAll]

@[simp] theorem quiesce_frame (s : State) (cause : Nat) (rcd : Bool) (vin : Nat) (vhold : Nat) : (quiesce s cause rcd vin vhold).frame = s.frame := by unfold quiesce; split <;> simp

@[simp] theorem openSwitch_frame (s : State) : (openSwitch s).frame = s.frame := by simp [openSwitch]

@[simp] theorem thermalRec_frame (s : State) (code : Nat) (entry : Bool) : (thermalRec s code entry).frame = s.frame := by simp [thermalRec]

@[simp] theorem throttle_frame (s : State) (on : Bool) : (throttle s on).frame = s.frame := by
  simp only [throttle]
  repeat' split
  all_goals simp

@[simp] theorem radioReturn_frame (s : State) : (radioReturn s).frame = s.frame := by simp [radioReturn]

@[simp] theorem mfeReturn_frame (s : State) : (mfeReturn s).frame = s.frame := by simp [mfeReturn]

@[simp] theorem abandonMark_frame (s : State) (n : Nat) : (abandonMark s n).frame = s.frame := by simp [abandonMark]

@[simp] theorem crossAbandon_frame (s : State) (n : Nat) : (crossAbandon s n).frame = s.frame := by
  simp only [crossAbandon]
  split <;> simp

@[simp] theorem vecAbandon_frame (s : State) (n : Nat) : (vecAbandon s n).frame = s.frame := by
  simp only [vecAbandon]
  repeat' split
  all_goals simp

@[simp] theorem restartDue_frame (s : State) (cause : Nat) : (restartDue s cause).frame = s.frame := by simp [restartDue]

@[simp] theorem fabricDrain_frame (s : State) : (fabricDrain s).frame = s.frame := by
  simp only [fabricDrain, oldKeys_frame, epSettle_frame, markJobs_frame]
  exact foldl_frame _ (fun t x => by simp) _ _

@[simp] theorem setWin7_frame (s : State) (k : Nat) : (setWin7 s k).frame = s.frame := by
  have h : ∀ (t : State) (c : Nat), State.frame { t with cfg := { t.cfg with win7 := c } } = t.frame := fun t c => by
    rw [State.frame_mk, State.frame_eta]
  unfold setWin7
  split
  · rfl
  · rw [openFabric_frame]
    exact h s k

@[simp] theorem discardEdits_frame (s : State) : (discardEdits s).frame = s.frame := by unfold discardEdits; split <;> simp

@[simp] theorem setApply_frame (s : State) (a : Apply) : (setApply s a).frame = s.frame := by simp [setApply]

@[simp] theorem hoCancel_frame (s : State) : (hoCancel s).frame = s.frame := by
  simp only [hoCancel]
  repeat' split
  all_goals simp

theorem handoverStart_frame {s t : State} (h : handoverStart s = some t) : t.frame = s.frame := by
  unfold handoverStart at h
  split at h
  · split at h
    · cases h
    · cases h
      exact (show _ = ((s.wr Reg.BRC_HO_PHASE 1).raise Reg.BRC_STAT_HO).frame from rfl).trans (by simp)
  · cases h

@[simp] theorem luxResult_frame (s : State) (task id : Nat) (r : List Nat) : (luxResult s task id r).frame = s.frame := by unfold luxResult; split <;> simp

@[simp] theorem luxDiffer_frame (s : State) (task id : Nat) : (luxDiffer s task id).frame = s.frame := by
  simp only [luxDiffer]
  repeat' split
  all_goals simp

@[simp] theorem failBack_frame (s : State) (a : Apply) (sec : Nat) (switched : Bool) : (failBack s a sec switched).frame = s.frame := by
  unfold failBack
  extract_lets b s1 s2
  split
  · exact (applyRest_frame ..).trans ((setApply_frame ..).trans (hoCancel_frame ..))
  · have h2 : s2.frame = s.frame := (setApply_frame ..).trans (applySteps_frame ..)
    split
    · exact (applyRest_frame ..).trans h2
    · have hh : ∀ t, handoverStart s2 = some t → t.frame = s.frame := fun t h => (handoverStart_frame h).trans h2
      split
      · rename_i h
        split at h
        · exact hh _ h
        · cases h
      · exact (applyRest_frame ..).trans ((forceProt_frame ..).trans h2)

@[simp] theorem applyLate_frame (s : State) (a : Apply) : (applyLate s a).frame = s.frame := by
  have h := applySteps_frame a lateSteps s
  unfold applyLate
  split
  · rename_i h1
    rw [h1] at h
    exact (failBack_frame ..).trans h
  · rename_i h1
    rw [h1] at h
    split
    · exact (setApply_frame ..).trans h
    · exact (applyEnd_frame ..).trans h

@[simp] theorem applyRun_frame (s : State) (a : Apply) : (applyRun s a).frame = s.frame := by
  unfold applyRun
  extract_lets b
  have h := (applySteps_frame b earlySteps (setApply (discardEdits s) b)).trans ((setApply_frame ..).trans (discardEdits_frame ..))
  clear_value b
  split
  · rename_i h1
    rw [h1] at h
    split
    · exact (failBack_frame ..).trans h
    · exact (applyLate_frame ..).trans ((forceProt_frame ..).trans h)
  · rename_i h1
    rw [h1] at h
    split
    · exact (applyLate_frame ..).trans h
    · split
      · exact (applyLate_frame ..).trans ((forceProt_frame ..).trans h)
      · split
        · rename_i h2
          exact (setApply_frame ..).trans ((handoverStart_frame h2).trans h)
        · split
          · exact (failBack_frame ..).trans h
          · exact (applyLate_frame ..).trans ((forceProt_frame ..).trans h)

@[simp] theorem rollback_frame (s : State) : (rollback s).frame = s.frame := by unfold rollback; split <;> simp

@[simp] theorem commitFail_frame (s : State) (st : Nat) : (commitFail s st).frame = s.frame := by simp [commitFail]

@[simp] theorem applyDone_frame (s : State) : (applyDone s).frame = s.frame := by
  simp only [applyDone]
  repeat' split
  all_goals simp

@[simp] theorem updState_frame (s : State) (v : Nat) : (updState s v).frame = s.frame := by simp [updState]

@[simp] theorem updFail_frame (s : State) (b : Billet) (cfg : Nat) (st : Nat) : (updFail s b cfg st).frame = s.frame := by
  simp only [updFail]
  split <;> simp [State.setUpd]

@[simp] theorem trialBack_frame (s : State) (cause : Nat) : (trialBack s cause).frame = s.frame := by
  simp [trialBack, State.setUpd]

@[simp] theorem recEnd_frame (s : State) (st : Nat) : (recEnd s st).frame = s.frame := by simp [recEnd]

@[simp] theorem setCamp_frame (s : State) (c : Camp) : (setCamp s c).frame = s.frame := by
  unfold setCamp
  repeat' split
  all_goals rfl

@[simp] theorem nbShow_frame (s : State) : (nbShow s).frame = s.frame := by simp [nbShow]

@[simp] theorem campPhase_frame (s : State) (ph : Nat) : (campPhase s ph).frame = s.frame := by simp [campPhase]

@[simp] theorem nbNode_frame (s : State) (ln : Nat) : (nbNode s ln).frame = s.frame := by
  simp only [nbNode]
  split <;> simp

@[simp] theorem nbSend_frame (s : State) (op : Nat) (i : Nat) (nackwin : Nat) (ln : Nat) : (nbSend s op i nackwin ln).frame = s.frame := by simp [nbSend]

theorem nbHowl_frame (s : State) (op i : Nat) {t : State} (h : nbHowl s op i = some t) : t.frame = s.frame := by
  unfold nbHowl at h
  obtain ⟨p, hp, rfl⟩ := Option.map_eq_some_iff.mp h
  exact howlPut_frame hp

@[simp] theorem askUni_frame (s : State) (nackwin : Nat) (l : List Nat) : (askUni s nackwin l).frame = s.frame := by simp [askUni]

@[simp] theorem enterQuery_frame (s : State) : (enterQuery s).frame = s.frame := by
  simp only [enterQuery]
  split <;> simp

@[simp] theorem enterReady_frame (s : State) : (enterReady s).frame = s.frame := by simp [enterReady]

@[simp] theorem enterRepair_frame (s : State) : (enterRepair s).frame = s.frame := by simp [enterRepair]

@[simp] theorem campNext_frame (s : State) : (campNext s).frame = s.frame := by
  simp only [campNext]
  repeat' split
  all_goals simp

@[simp] theorem campHowl_frame (s : State) : (campHowl s).frame = s.frame := by
  unfold campHowl
  split
  · rfl
  · split
    · rename_i h
      unfold nbHowl at h
      obtain ⟨p, hp, rfl⟩ := Option.map_eq_some_iff.mp h
      exact (setCamp_frame ..).trans (howlPut_frame hp)
    · rfl

end Sys2Proof.Machine
end

