-- ==== Sys2Proof/Laws/FrameJ.lean ====
section
/-! SUPPORT. The frame through the register port and the tunnel. -/
namespace Sys2Proof.Machine

@[simp] theorem regRead_frame (s : State) (off : Nat) : (regRead s off).2.frame = s.frame := by
  have h (l : List RegFld) (t : State) : (l.foldl (fun t f => if f.acc = .rc then t.clr f.fld else t) t).frame = t.frame :=
    foldl_frame _ (fun t x => by split <;> simp) _ _
  unfold regRead
  repeat' split
  all_goals simp only [readNowLo_frame, readPpsLo_frame, readPpsHi_frame, readTickLo_frame, readTickHi_frame, h]

@[simp] theorem fldWrite_frame (s : State) (v : Nat) (hw : Option Nat) (f : RegFld) : (fldWrite s v hw f).frame = s.frame := by
  simp only [fldWrite]
  repeat' split
  all_goals simp

@[simp] theorem writeRtcCtl_frame (s : State) (v : Nat) (hw : Option Nat) : (writeRtcCtl s v hw).frame = s.frame := by
  simp only [writeRtcCtl]
  repeat' split
  all_goals simp

@[simp] theorem writeRcmd_frame (s : State) (v : Nat) : (writeRcmd s v).frame = s.frame := by
  simp only [writeRcmd]
  repeat' split
  all_goals simp

@[simp] theorem ownerOnly_frame (s : State) (p : Nat) (f : State → State) (hf : ∀ t, (f t).frame = t.frame) : (ownerOnly s p f).frame = s.frame := by
  simp only [ownerOnly]
  repeat' split
  all_goals simp_all

@[simp] theorem doorbell_frame (s : State) (p : Nat) (pi : Nat) : (doorbell s p pi).frame = s.frame := by
  refine ownerOnly_frame _ _ _ fun t => ?_
  split <;> simp

@[simp] theorem ringRelease_frame (s : State) (p : Nat) (r : Ring) (c : Nat) : (ringRelease s p r c).frame = s.frame := by
  unfold ringRelease
  dsimp only
  repeat' first | rfl | refine ite_frame ?_ ?_
  all_goals simp

@[simp] theorem ownerWrite_frame (s : State) (v : Nat) : (ownerWrite s v).frame = s.frame := by unfold ownerWrite; split <;> simp

@[simp] theorem lostUpd_frame (s : State) (b : Nat) (hw : Option Nat) : (lostUpd s b hw).frame = s.frame := by unfold lostUpd; split <;> simp

@[simp] theorem tunReject_frame (s : State) (slot : Nat) (chk : Nat) : (tunReject s slot chk).frame = s.frame := by
  unfold tunReject
  extract_lets t
  have h : t.frame = s.frame := inc_frame ..
  split
  · exact h
  · rw [event_frame]
    exact (State.frame_mk ..).trans h

@[simp] theorem badSize_frame (s : State) (p : Nat) : (badSize s p).frame = s.frame := by
  unfold badSize
  split <;> simp

end Sys2Proof.Machine
end

