-- ==== Sys2Proof/Laws/Kept.lean ====
section
/-! SUPPORT. What every operation keeps, those that write the byte memories and those that restart the module among them: the queue, the
fuses and the invariant. -/
namespace Sys2Proof.Machine

/-- From `s` to `t` the queue and the fuses stay, and the invariant is kept. -/
structure Kept (s t : State) : Prop where
  pending : t.pending = s.pending
  fuses : t.fuses = s.fuses
  inv : Inv s → Inv t

theorem Kept.refl (s : State) : Kept s s := ⟨rfl, rfl, id⟩

theorem Kept.trans {s t u : State} (h : Kept s t) (k : Kept t u) : Kept s u :=
  ⟨k.pending.trans h.pending, k.fuses.trans h.fuses, k.inv ∘ h.inv⟩

/-- What keeps the frame keeps the queue, the fuses and the invariant. -/
theorem Kept.of_frame {s t : State} (h : t.frame = s.frame) : Kept s t := by
  simp only [State.frame, Prod.mk.injEq] at h
  obtain ⟨h1, h2, h3, h4, h5, h6, h7, h8⟩ := h
  refine ⟨h1, h2, fun i => ?_⟩
  unfold Inv MemsOk at i ⊢
  rw [h3, h4, h5, h6, h7, h8]
  exact i

/-- A step that keeps the frame after one that keeps the invariant, and before it. -/
theorem Kept.frame {s t u : State} (h : Kept s t) (k : u.frame = t.frame) : Kept s u := h.trans (.of_frame k)

@[inherit_doc Kept.frame]
theorem Kept.after {s t u : State} (h : Kept t u) (k : t.frame = s.frame) : Kept s u := (Kept.of_frame k).trans h

/-- A choice. -/
theorem Kept.ite {s a b : State} {c : Prop} [Decidable c] (ha : Kept s a) (hb : Kept s b) : Kept s (if c then a else b) := by
  split <;> assumption

/-- A loop. -/
theorem Kept.foldl {α : Type} {f : State → α → State} (h : ∀ t x, Kept t (f t x)) (l : List α) (s : State) : Kept s (l.foldl f s) := by
  induction l generalizing s with
  | nil => exact .refl s
  | cons a l ih => exact (h s a).trans (ih _)

/-- The end of a command: SUP_SEQ is kept within its 32 bits. -/
theorem Kept.settle {s t : State} (h : Kept s t) : Kept s (Machine.settle s t) := by
  refine ⟨(settle_pending s t).trans h.pending, (settle_fuses s t).trans h.fuses, fun i => ?_⟩
  obtain ⟨⟨h1, h0, h2, h3, h4⟩, -⟩ := h.inv i
  refine ⟨⟨?_, ?_, ?_, ?_, ?_⟩, ?_⟩
  · rw [settle_hbr]; exact h1
  · rw [settle_hbr]; exact h0
  · rw [settle_upd]; exact h2
  · rw [settle_cfg]; exact h3
  · rw [settle_cfg]; exact h4
  · rw [settle_sup]; exact Nat.mod_lt _ (by decide)

/-- A command answers a next state, and what its effect keeps is kept. -/
theorem Kept.done {s t : State} (h : Kept s t) : ∃ u, Machine.done s t = .next u ∧ Kept s u := ⟨_, rfl, h.settle⟩

/-! ### Memory -/

/-- A loop of byte writes keeps the canonical form. -/
theorem wf_foldl_write {α : Type} (f : α → Nat × Byte) (l : List α) (m : Mem) (h : Mem.wf 0 m = true) :
    Mem.wf 0 (l.foldl (fun m b => Mem.write 0 m (f b).1 (f b).2) m) = true := by
  induction l generalizing m with
  | nil => exact h
  | cons b l ih => exact ih _ (Mem.wf_write 0 m _ _ h)

/-- The bytes of a write reach a memory behind the bridges. -/
theorem memPut_kept (s : State) (m : Nat) (bs : List (Nat × Byte)) : Kept s (memPut s m bs) := by
  unfold memPut
  extract_lets x
  have hx (h : Mem.wf 0 (s.mem m) = true) : Mem.wf 0 x = true := wf_foldl_write id _ _ h
  split
  · refine ⟨rfl, rfl, fun i => ⟨⟨hx ?_, i.1.2⟩, i.2⟩⟩
    rw [State.mem, if_pos ‹_›]
    exact i.1.1
  · refine ⟨rfl, rfl, fun i => ⟨⟨i.1.1, fun p hp => ?_, i.1.2.2⟩, i.2⟩⟩
    rcases KMap.mem_set hp with rfl | hp
    · refine hx ?_
      rw [State.mem, if_neg ‹_›, KMap.getD]
      cases h : s.hbr.lp.get? (m - 1) with
      | none => rfl
      | some y => exact i.1.2.1 _ (KMap.mem_of_get? h)
    · exact i.1.2.1 p hp

theorem landWrite_kept (s : State) (i epoch m : Nat) (bs : List (Nat × Byte)) : Kept s (landWrite s i epoch m bs) := by
  unfold landWrite
  split
  · exact (memPut_kept _ _ _).after (setSide_frame ..)
  · exact memPut_kept ..

/-- Writes of the module wait for the end of a locked sequence. -/
theorem late_frame (s : State) (l : List (Nat × Byte)) : State.frame { s with hbr := { s.hbr with late := l } } = s.frame := by
  rw [State.frame_mk, State.frame_eta]

theorem winStore_kept (s : State) (n a : Nat) (bs : List Byte) : Kept s (winStore s n a bs) := by
  unfold winStore
  exact (memPut_kept _ _ _).after (late_frame s _)

theorem landLate_kept (s : State) : Kept s (landLate s) := by
  unfold landLate
  exact (memPut_kept _ _ _).after (late_frame s _)

theorem lockRelease_kept (s : State) (i : Nat) : Kept s (lockRelease s i) := by
  unfold lockRelease
  split
  · exact ((memPut_kept _ _ _).after (lockState_frame ..)).trans (landLate_kept _)
  · exact .refl s

theorem lockAbort_kept (s : State) (i : Nat) : Kept s (lockAbort s i) := by
  unfold lockAbort
  split
  · exact (landLate_kept _).after ((inc_frame ..).trans (lockState_frame ..))
  · exact .refl s

theorem sideWrite_kept (s : State) (i m : Nat) (bs : List (Nat × Byte)) : Kept s (sideWrite s i m bs) :=
  .ite (.refl s) (.ite (landWrite_kept ..) (.of_frame (setSide_frame ..)))

theorem sideAccess_kept (s : State) (i p n a len : Nat) (data : Option (List Byte)) : Kept s (sideAccess s i p n a len data) := by
  unfold sideAccess
  extract_lets v ones
  split
  split
  · exact .ite (.of_frame ((sideRefuse_frame ..).trans (gave_frame ..))) (.of_frame (sideRead_frame ..))
  · exact .ite (.of_frame (sideRefuse_frame ..)) (sideWrite_kept ..)

theorem drainSide_kept (i n : Nat) (s : State) : Kept s (drainSide i n s) := by
  induction n generalizing s with
  | zero => exact .refl s
  | succ n ih =>
    unfold drainSide
    dsimp only
    split
    · exact .of_frame (setSide_frame ..)
    · refine .ite (.refl s) ((ih _).after ?_)
      exact (ite_frame (readEnds_frame ..) rfl).trans (setSide_frame ..)
    · refine .ite (.refl s) (Kept.trans ?_ (ih _))
      exact (Kept.ite (landWrite_kept ..) (.refl _)).after (setSide_frame ..)

theorem collect_kept (s : State) : Kept s (collect s) :=
  Kept.foldl (fun t i => .ite ((drainSide_kept ..).frame (collectSide_frame ..)) (.refl t)) _ _

theorem passWrites_kept (i n : Nat) (s : State) : Kept s (passWrites i n s) := by
  induction n generalizing s with
  | zero => exact .refl s
  | succ n ih =>
    unfold passWrites
    dsimp only
    split
    · exact .ite (.refl s) (((landWrite_kept ..).after (setSide_frame ..)).trans (ih _))
    · exact .refl s

/-- The recovery buffer changes to another canonical memory. -/
theorem kept_rbuf {s : State} {u : Upd} (h : Mem.wf 0 s.upd.rbuf = true → Mem.wf 0 u.rbuf = true) : Kept s (s.setUpd u) :=
  ⟨rfl, rfl, fun i => ⟨⟨i.1.1, i.1.2.1, h i.1.2.2.1, i.1.2.2.2⟩, i.2⟩⟩

/-- The flash of a device changes to another canonical memory. -/
theorem setDev_kept {s : State} {d : Nat} {x : CfgDev} (h : Mem.wf 0xFF (s.dev d).flash = true → Mem.wf 0xFF x.flash = true) :
    Kept s (s.setDev d x) := by
  unfold State.dev at h
  unfold State.setDev
  split
  · rw [if_pos ‹_›] at h
    exact ⟨rfl, rfl, fun i => ⟨⟨i.1.1, i.1.2.1, i.1.2.2.1, h i.1.2.2.2.1, i.1.2.2.2.2⟩, i.2⟩⟩
  · rw [if_neg ‹_›] at h
    exact ⟨rfl, rfl, fun i => ⟨⟨i.1.1, i.1.2.1, i.1.2.2.1, i.1.2.2.2.1, h i.1.2.2.2.2⟩, i.2⟩⟩

theorem put_flash (x : CfgDev) (a : Nat) (bs : List Byte) (h : Mem.wf 0xFF x.flash = true) : Mem.wf 0xFF (x.put a bs).flash = true :=
  Mem.wf_writeList 0xFF bs _ _ (Mem.wfFrom_filter 0xFF _ _ 0 h)

theorem putBillet_flash (x : CfgDev) (b : Option Billet) (bs : List Byte) (h : Mem.wf 0xFF x.flash = true) :
    Mem.wf 0xFF (x.putBillet b bs).flash = true := by
  unfold CfgDev.putBillet
  split
  · exact h
  · exact put_flash x 0x1000000 bs h

theorem writeGen_kept (s : State) (d : Nat) (b : Option Billet) (bbs : List Byte) (i : Image) (ibs : List Byte) (seq cst bst : Nat)
    (e : WriteEnd) : Kept s (writeGen s d b bbs i ibs seq cst bst e) := by
  unfold writeGen
  extract_lets x z k t
  have hx (h : Mem.wf 0xFF (s.dev d).flash = true) : Mem.wf 0xFF x.flash = true := put_flash _ _ _ (putBillet_flash _ _ _ h)
  clear_value x
  split
  · have h1 (f : Nat × Byte → Bool) (u : List Nat) (g : Nat) :
        Kept s (s.setDev d { x with image := none, flash := x.flash.filter f, unk := u, gen := g }) :=
      setDev_kept fun h => Mem.wfFrom_filter 0xFF _ _ 0 (hx h)
    exact (h1 _ _ _).frame (State.frame_mk ..)
  · have h1 : Kept s (s.setDev d { x with image := some i, helper := true }) := setDev_kept hx
    exact (h1.frame (State.frame_mk ..)).frame ((writePlate_frame ..).trans (ite_frame (clr_frame ..) rfl))

/-! ### Restarts -/

theorem warmReset_kept (s : State) (c : Nat) : Kept s (warmReset s c) := by
  unfold warmReset
  extract_lets loops bi s1 s2 s3 s4 s5 p
  have h1 : s1.frame = s.frame := (setCause_frame ..).trans (setLsh_frame ..)
  have h2 : s2.frame = s.frame := (regReset_frame ..).trans h1
  have h3 : s3.frame = s.frame := by
    refine (engageHold_frame ..).trans ?_
    split
    · exact (clr_frame ..).trans h2
    · exact h2
  have h4 : s4.frame = s.frame := (foldl_frame _ (fun t x => domainReset_frame ..) _ _).trans h3
  have h5 : s5.frame = s.frame := (foldl_frame _ (fun t x => (loopPut_frame ..).trans (raise_frame ..)) _ _).trans h4
  clear_value s5
  exact (Kept.of_frame h5).trans ⟨rfl, rfl, fun i => ⟨⟨i.1.1, i.1.2.1, rfl, i.1.2.2.2⟩, (by decide : 0 < 2 ^ 32)⟩⟩

theorem powerLost_kept (s : State) : Kept s (powerLost s) :=
  ⟨rfl, rfl, fun i => ⟨⟨rfl, (by intro p hp; cases hp), rfl, i.1.2.2.2⟩, (by decide : 0 < 2 ^ 32)⟩⟩

theorem enterRecovery_kept (s : State) (cause : Nat) : Kept s (enterRecovery s cause) := by
  unfold enterRecovery
  extract_lets s1 s2
  have h1 : s1.frame = s.frame := (startSpindle_frame ..).trans (foldl_frame _ (fun t x => setDom_frame ..) _ _)
  have h2 : s2.frame = s.frame := (wrs_frame ..).trans h1
  clear_value s2
  refine Kept.frame ?_ (event_frame ..)
  exact (Kept.of_frame h2).trans ⟨rfl, rfl, fun i => ⟨⟨i.1.1, i.1.2.1, rfl, i.1.2.2.2⟩, i.2⟩⟩

theorem attemptFailed_kept (s : State) (d w : Nat) : Kept s (attemptFailed s d w) :=
  (warmReset_kept _ _).after (wr_frame ..)

theorem attempts_kept (n : Nat) (s : State) (ms : List Nat) (dev : Option Nat) : Kept s (attempts n s ms dev) := by
  induction n generalizing s dev with
  | zero => exact enterRecovery_kept ..
  | succ n ih =>
    unfold attempts
    extract_lets s1
    have h1 : s1.frame = s.frame := (wr_frame ..).trans (inc_frame ..)
    split
    rename_i t sel h
    have h2 : t.frame = s.frame := by
      split at h
      · cases h
        exact h1
      · have h3 := selectDevice_frame s1
        rw [h] at h3
        exact h3.trans h1
    split
    · exact (enterRecovery_kept _ _).after h2
    · rename_i d
      have h3 := bootSteps_frame t d ms
      split
      · rename_i h4
        rw [h4] at h3
        exact .of_frame (h3.trans h2)
      · rename_i h4
        rw [h4] at h3
        exact (((attemptFailed_kept _ _ _).after (h3.trans h2)).frame (startCommon_frame ..)).trans (ih _ _)

theorem warmStart_kept (s : State) (c : Nat) (ms : List Nat) : Kept s (warmStart s c ms) := by
  unfold warmStart
  extract_lets dev t
  have h : Kept s t := (warmReset_kept s c).frame (startCommon_frame ..)
  split
  · exact h.frame ((domainRun_frame ..).trans (wr_frame ..))
  · exact h.trans (attempts_kept ..)

theorem failAttempt_kept (s : State) (d w : Nat) (ms : List Nat) : Kept s (failAttempt s d w ms) :=
  ((attemptFailed_kept s d w).frame (startCommon_frame ..)).trans (attempts_kept ..)

theorem appRestart_kept (s : State) (ms : List Nat) : Kept s (appRestart s ms) := by
  unfold appRestart
  split
  · exact failAttempt_kept ..
  · split
    · exact failAttempt_kept ..
    · exact .refl s

/-! ### Ways in which effects are put together -/

theorem runCommand_kept {s : State} {code tag : Nat} {f : State → Answer} (h : ∀ t, Kept t (f t).1) : Kept s (runCommand s code tag f) := by
  unfold runCommand
  split
  · exact .of_frame (respond_frame ..)
  · have h1 := h s
    split
    · rename_i h2
      rw [h2] at h1
      exact h1.frame (respond_frame ..)
    · rename_i h2
      rw [h2] at h1
      exact h1

theorem command_kept {s : State} {code tag : Nat} {f : State → Answer} (h : ∀ t, Kept t (f t).1) : Kept s (command s code tag f) := by
  unfold command
  split
  · exact .ite ((runCommand_kept h).after (State.frame_mk ..)) (.refl s)
  · exact .ite (.refl s) ((runCommand_kept h).after (State.frame_mk ..))

theorem hostWrite_kept {s : State} {p b : Nat} {f : State → State} (h : ∀ t, Kept t (f t)) : Kept s (hostWrite s p b f) := by
  unfold hostWrite
  exact .ite (.refl s) (.ite (.of_frame (inc_frame ..)) (h s))

/-! ### The register port, the windows and the tunnel -/

theorem regArray_kept (off v : Nat) (hw : Option Nat) (s : State) : Kept s (regArray off v hw s) := by
  have h (l : List RegFld) (u : Option Nat) (t : State) : (l.foldl (fun t f => fldWrite t v u f) t).frame = t.frame :=
    foldl_frame _ (fun t x => fldWrite_frame ..) _ _
  unfold regArray
  repeat' split
  all_goals first
    | exact kept_rbuf fun h => Mem.wf_writeList 0 _ _ _ h
    | (refine .of_frame ?_; simp [h]; done)
    | exact .refl s
    | (refine .of_frame ?_
       extract_lets t
       have ht : t.frame = s.frame := h ..
       repeat' split
       all_goals first
         | exact (armUnit_frame ..).trans ht
         | exact (cmpFire_frame ..).trans ht
         | exact ht)

theorem regEffect_kept (p off v : Nat) (hw : Option Nat) (s : State) : Kept s (regEffect p off v hw s) := by
  have hl (t : State) : Kept t (if v / 2 % 2 = 1 then lockRelease t 0 else t) := .ite (lockRelease_kept t 0) (.refl t)
  have ha : Kept s (if v % 2 = 1 then lockAcquire s else s) := .ite (.of_frame (lockAcquire_frame s)) (.refl s)
  unfold regEffect
  refine .ite (.of_frame (fldWrite_frame ..)) (.ite (.of_frame ?_) (.ite (.of_frame ?_) (.ite (.of_frame ?_) (.ite (.of_frame ?_)
    (.ite (.of_frame ?_) (.ite (.of_frame ?_) (.ite (ha.trans (hl _)) (.ite (.of_frame ?_) (.ite (.of_frame ?_) (.ite (.of_frame ?_)
      (.ite (.of_frame ?_) (.ite (.of_frame ?_) (regArray_kept ..)))))))))))))
  all_goals simp

theorem regWrite_kept (s : State) (p off v : Nat) (hw : Option Nat) : Kept s (regWrite s p off v hw) := by
  unfold regWrite
  exact .ite (.of_frame (badSize_frame ..)) (.ite (.refl s) (hostWrite_kept (regEffect_kept p off v hw)))

theorem bar2Put_frame (s : State) (a : Nat) (b : Byte) : (bar2Put s a b).frame = s.frame := by
  unfold bar2Put
  split <;> rfl

theorem tunBar0_kept (s : State) (p : Nat) (r : TunRec) : Kept s (tunBar0 s p r).1 := by
  unfold tunBar0
  have h := regWrite_kept s p r.addr (fromLe r.data) none
  have k := regRead_frame s r.addr
  split
  · exact .of_frame (inc_frame ..)
  · split
    · exact .refl s
    · split
      · exact .refl s
      · split
        · exact .refl s
        · split
          · split
            rename_i h1
            rw [h1] at k
            exact .of_frame k
          · extract_lets v t
            split
            · exact h
            · split
              · exact h
              · exact h

theorem tunBar2_frame (s : State) (r : TunRec) : (tunBar2 s r).1.frame = s.frame := by
  unfold tunBar2
  split
  · rfl
  · split
    · rfl
    · exact foldl_frame _ (fun t x => bar2Put_frame ..) _ _

theorem tunBar4_kept (s : State) (p : Nat) (r : TunRec) : Kept s (tunBar4 s p r).1 := by
  unfold tunBar4
  have h (n v : Nat) : Kept s (sideRefuse s 0 p n v) := .of_frame (sideRefuse_frame ..)
  extract_lets n a v
  clear_value v
  split
  · exact .refl s
  · split
    · exact h ..
    · split
      · exact h ..
      · split
        · exact .refl s
        · exact sideAccess_kept s 0 p n a r.len (some r.data)

theorem tunRecord_kept (s : State) (p : Nat) (r : TunRec) : Kept s (tunRecord s p r).1 := by
  have h0 := tunBar0_kept s p r
  have h2 : Kept s (tunBar2 s r).1 := .of_frame (tunBar2_frame s r)
  have h4 := tunBar4_kept s p r
  unfold tunRecord
  split
  rename_i h
  dsimp only
  repeat' split at h
  · cases h
    exact .refl s
  · rw [h] at h0
    exact h0
  · rw [h] at h2
    exact h2
  · rw [h] at h4
    exact h4

end Sys2Proof.Machine
end

