-- ==== Sys2Proof/Laws/Only.lean ====
section
/-! SUPPORT. How frames are put together: what a field write, a change of one part, and the end of a command leave. -/
namespace Sys2Proof.Machine

variable {ps : List Part} {fs : List Fld} {s t u : State}

theorem Only.refl (ps : List Part) (fs : List Fld) (s : State) : Only ps fs s s :=
  ⟨fun p _ => by cases p <;> rfl, fun _ _ => rfl⟩

theorem Only.trans (h : Only ps fs s t) (k : Only ps fs t u) : Only ps fs s u := by
  refine ⟨fun p hp => ?_, fun g hg => (k.2 g hg).trans (h.2 g hg)⟩
  have a := h.1 p hp
  have b := k.1 p hp
  cases p
  case sup =>
    refine Eq.trans b ?_
    rw [show t.sup = { s.sup with seq := t.sup.seq } from a]
  all_goals exact Eq.trans b a

/-- Fewer parts and fields. -/
theorem Only.mono {ps' : List Part} {fs' : List Fld} (h : Only ps fs s t) (hp : ∀ p ∈ ps, p ∈ ps') (hf : ∀ f ∈ fs, f ∈ fs') :
    Only ps' fs' s t :=
  ⟨fun p q => h.1 p fun i => q (hp p i), fun g q => h.2 g fun i => q (by
    obtain ⟨f, hf1, hf2⟩ := List.mem_map.mp i
    exact List.mem_map.mpr ⟨f, hf f hf1, hf2⟩)⟩

/-- A write to one of the fields. -/
theorem Only.wr {f : Fld} (v : Nat) (h : Only ps fs s t) (hf : f.key ∈ fs.map Fld.key) : Only ps fs s (t.wr f v) := by
  refine ⟨fun p hp => ?_, fun g hg => ?_⟩
  · have a := h.1 p hp
    cases p <;> exact a
  · rw [State.rd_wr_of_ne t v (fun e : g.key = f.key => hg (e ▸ hf))]
    exact h.2 g hg

/-- The end of a command. -/
theorem Only.settle (h : Only ps fs s t) : Only ps fs s (Machine.settle u t) := by
  refine ⟨fun p hp => ?_, fun g hg => (settle_rd u t g).trans (h.2 g hg)⟩
  have a := h.1 p hp
  cases p
  case sup =>
    refine (settle_sup u t).trans ?_
    rw [show t.sup = { s.sup with seq := t.sup.seq } from a, settle_sup]
  case pending => exact (settle_pending u t).trans a
  case fuses => exact (settle_fuses u t).trans a
  case pwr => exact (settle_pwr u t).trans a
  case kn => exact (settle_kn u t).trans a
  case arb => exact (settle_arb u t).trans a
  case pins => exact (settle_pins u t).trans a
  case mbx => exact (settle_mbx u t).trans a
  case hbr => exact (settle_hbr u t).trans a
  case tb => exact (settle_tb u t).trans a
  case rad => exact (settle_rad u t).trans a
  case recs => exact (settle_recs u t).trans a
  case arc => exact (settle_arc u t).trans a
  case lnt => exact (settle_lnt u t).trans a
  case lux => exact (settle_lux u t).trans a
  case fwd => exact (settle_fwd u t).trans a
  case half => exact (settle_half u t).trans a
  case bk => exact (settle_bk u t).trans a
  case wear => exact (settle_wear u t).trans a
  case brc => exact (settle_brc u t).trans a
  case mtr => exact (settle_mtr u t).trans a
  case key => exact (settle_key u t).trans a
  case cfg => exact (settle_cfg u t).trans a
  case upd => exact (settle_upd u t).trans a
  case free => exact (settle_free u t).trans a

/-- A command's effect, before SUP_SEQ is counted, decides what it completes with. -/
theorem completes_done {c : Instr} {P : State → Prop} (h : exec c s = done s t) (hp : P (Machine.settle s t)) : Completes c s P :=
  ⟨_, h, hp⟩

end Sys2Proof.Machine
end

