-- ==== Sys2Proof/Machine/Operands.lean ====
section
/-! DEFINITION. The checks that well-formedness makes on the operands of a command: that a value fits the field that carries it, or
names something that exists. -/
namespace Sys2Proof.Machine

/-- `v` fits `w` bits. -/
def fits (w v : Nat) : Bool := decide (v < 2 ^ w)

/-- `v` fits `w` bits as a two's complement number. -/
def fitsS (w : Nat) (v : Int) : Bool := decide (-(2 ^ (w - 1) : Int) ≤ v) && decide (v < 2 ^ (w - 1))

/-- `v` is one of `n` things numbered from 0. -/
def below (n v : Nat) : Bool := decide (v < n)

/-- `v` lies between two numbers. -/
def ranged (lo hi v : Nat) : Bool := decide (lo ≤ v) && decide (v ≤ hi)

/-- A kennel that exists (R970). -/
def kennelOk (n : Nat) : Bool := decide (n < 144) && n != 95

/-- A packet of 64-bit words. -/
def wordsOk (ws : List Nat) : Bool := ws.all (fits 64)

/-- Same-cycle updates of the fields of one register. -/
def updOk (upd : List Nat) : Bool := decide (upd.length ≤ 4) && upd.all (fits 32)

/-- The ten milestone times of a start, in ms. -/
def msOk (ms : List Nat) : Bool := decide (ms.length ≤ 10) && ms.all (fits 16)

/-- Up to three record parameters. -/
def parOk (par : List Nat) : Bool := decide (par.length ≤ 3) && par.all (fits 32)

/-- Up to 80 logical names. -/
def lnsOk (lns : List Nat) : Bool := decide (lns.length ≤ 80) && lns.all (fits 24)

/-- Up to 5 roster records, their fields within Table NET-1. -/
def recordsOk (rs : List RosterRec) : Bool :=
  decide (rs.length ≤ 5) && rs.all fun r => fits 64 r.eui && fits 24 r.ln && fits 16 r.home && fits 16 r.alt && fits 8 r.feeder

/-- Command slots as Table HOST-6 lays them out. -/
def slotsOk (l : List CmdSlot) : Bool :=
  l.all fun c => fits 16 c.code && fits 16 c.tag && fits 16 c.plen && fits 8 c.flags && fits 8 c.ever && decide (c.payload.length ≤ 248)

/-- A frame of the air as Table AIR-2 lays it out. -/
def rxOk (f : RxFrame) : Bool :=
  below 512 f.chan && fits 8 f.rssi && fits 64 f.t && fits 8 f.len && fits 8 f.seq && fits 24 f.dst && fits 24 f.src && fits 32 f.fcnt &&
  fits 8 f.keyid && fits 4 f.hops && fits 4 f.idx && f.relays.all (fits 24)

/-- An ACK frame as Table AIR-9 lays it out. -/
def ackOk (a : AckFrame) : Bool := below 512 a.chan && fits 8 a.rssi && fits 64 a.t && fits 8 a.seq && fits 16 a.ntime

/-- A bark as Table AIR-12 lays it out. -/
def barkOk (b : Bark) : Bool :=
  fits 48 b.ntime48 && fits 8 b.rho && fits 4 b.pvmax && fits 4 b.tsc && fits 8 b.supply && fits 16 b.boots && fits 32 b.nbver

/-- A tunnel request as Table HOST-10 lays it out. -/
def tunOk (r : TunReq) : Bool :=
  fits 128 r.src && fits 16 r.port && fits 8 r.ver && fits 8 r.tslot && fits 64 r.tseq && r.recs.all fun x => fits 8 x.op && fits 8 x.space && fits 16 x.len && fits 32 x.addr

/-- An entry or key of a forwarding table (Table PBUS-4). -/
def entryOk : FwdEnt → Bool
  | .mac vid mac port => fits 16 vid && fits 48 mac && fits 8 port
  | .mc vid mac pmask => fits 16 vid && fits 48 mac && fits 8 pmask
  | .pfx pre len nh => fits 128 pre && fits 8 len && fits 16 nh
  | .nh idx vid port mac => fits 16 idx && fits 16 vid && fits 8 port && fits 48 mac
  | .eui eui => fits 64 eui

/-- A frame at a switch port. -/
def swOk (f : SwFrame) : Bool := below 7 f.port && fits 48 f.src && fits 48 f.dst && fits 16 f.etype && fits 128 f.dip && fits 8 f.hop

/-- A sampled-value data unit. -/
def asduOk (a : SvAsdu) : Bool :=
  below 7 a.port && fits 48 a.dmac && fits 16 a.appid && fits 16 a.smp && fits 8 a.synch && fits 64 a.stamp && fits 32 a.confrev

/-- A GOOSE message. -/
def gooseOk (m : GoMsg) : Bool :=
  below 7 m.port && fits 48 m.dmac && fits 16 m.appid && fits 32 m.confrev && fits 32 m.stnum && fits 32 m.sqnum && fits 32 m.ttl

/-- The parameters of ARC_FETCH (Table REC-10). -/
def fetchOk (r : FetchReq) : Bool :=
  fits 8 r.cls && fits 16 r.stream && fits 32 r.chmask && fits 64 r.tfrom && fits 64 r.tto && fits 8 r.tier && fits 8 r.win &&
  fits 32 r.wofs && fits 32 r.maxb

/-- An NB_NACK (Table UPD-9). -/
def nackOk (n : NbNack) : Bool := fits 16 n.camp && fits 8 n.st && n.ranges.all fun r => fits 16 r.1 && fits 16 r.2

end Sys2Proof.Machine
end

