-- ==== Sys2Proof/WellFormed.lean ====
section
/-! DEFINITION. Well-formed commands: every operand fits the field that carries it, or names something that exists. Whether a
value is admissible is the command's own concern (BAD_PARAM and the like); a meaning is defined for every operand. -/
namespace Sys2Proof

open Machine

/-- The command's operands fit their fields. -/
def Instr.wf : Instr → Bool
  | .coldStart _ _ ms => msOk ms
  | .warmRestart cause ms => below 10 cause && msOk ms
  | .bootOk => true
  | .bootAttemptTimeout ms => msOk ms
  | .ocxoLost => true
  | .ocxoRestored ms => msOk ms
  | .domainWatchdogExpiry d ms => ranged 1 6 d && msOk ms
  | .stoppedDomainAccess space _ off => fits 3 space && fits 28 off
  | .kennelWrite n words => kennelOk n && wordsOk words
  | .kennelRead n _ => kennelOk n
  | .kennelStallResume n => kennelOk n
  | .kennelAbandon n => kennelOk n
  | .kennelWriteStallResume n => kennelOk n
  | .kennelWriteAbandon n => kennelOk n
  | .kennelFault n => kennelOk n
  | .arbRequest p _ => below 8 p
  | .arbRequestWithdraw p _ => below 8 p
  | .arbGrant _ => true
  | .arbWindowStart => true
  | .arbRefresh _ len => fits 32 len
  | .arbCtlWrite path _ => below 5 path
  | .arbWgtWrite path n _ => below 5 path && below 8 n
  | .arbMaxwRead n _ => below 8 n
  | .arbEmptyRead n _ => below 8 n
  | .appCoreFailure _ reason ms => fits 8 reason && msOk ms
  | .memoryBlockFailure cls _ reason => below 10 cls && fits 8 reason
  | .tallyRead tag first count => fits 16 tag && fits 32 first && fits 8 count
  | .hostPerst _ => true
  | .jtagInstruction ir => fits 8 ir
  | .holdSwitchClose _ _ => true
  | .quiesceCommit _ _ => true
  | .pwrRideThrough => true
  | .quiesceRestart ms => msOk ms
  | .busCollapse => true
  | .vinInputLost _ _ => true
  | .outputVectorPresent h vec prearm _ => below 2 h && fits 40 vec && fits 40 prearm
  | .pulseLimitExpiry line => below 40 line
  | .readbackMismatch line _ => below 40 line
  | .outRbmisClear path k _ hw => below 5 path && below 2 k && fits 32 hw
  | .healthyTimeout => true
  | .binaryInputChange n _ t => below 64 n && fits 64 t
  | .loopComplianceLoss n _ => below 8 n
  | .loopComplianceClear path n _ _ => below 5 path && below 8 n
  | .loopSetpointWrite path n _ => below 5 path && below 8 n
  | .loopOpen n => below 8 n
  | .loopHoldExpiry n => below 8 n
  | .thermalThrottleEntry => true
  | .thermalThrottleExit => true
  | .thermalShutdownEntry => true
  | .thermalShutdownExit ms => msOk ms
  | .restart tag => fits 16 tag
  | .bootClear tag dev => fits 16 tag && fits 8 dev
  | .epochDrainLimit _ => true
  | .epochPendingChange _ => true
  | .cfgStageOpen tag => fits 16 tag
  | .cfgStageCommit tag len mode prob _ => fits 16 tag && fits 32 len && fits 8 mode && fits 32 prob
  | .cfgWriteComplete _ => true
  | .cfgApplyComplete => true
  | .cfgApplyFailed _ => true
  | .cfgConfirm tag => fits 16 tag
  | .cfgProbationExpiry => true
  | .cfgRollback tag => fits 16 tag
  | .cfgStatus tag => fits 16 tag
  | .bar0BadSizeAccess _ => true
  | .registerWrite path off _ hw => below 5 path && fits 24 off && fits 32 (hw.getD 0)
  | .heartbeatTick _ _ _ _ _ volt => volt.all fun p => below 8 p.1 && fits 16 p.2
  | .mbxCmdpiDoorbell path pi slots => below 5 path && fits 32 pi && slotsOk slots
  | .commandConsume => true
  | .mbxCiWrite path _ ci => below 5 path && fits 32 ci
  | .mbxOwnerWrite path _ => below 5 path
  | .mbxDropRead ev rpt => fits 16 ev && fits 16 rpt
  | .tunnelDatagram req => tunOk req
  | .bulkRead side path win off len => below 3 side && below 5 path && below 9 win && fits 35 off && fits 32 len
  | .postedWriteFallback side => below 3 side
  | .readDataOrphan side tag => below 3 side && fits 8 (tag.getD 0)
  | .registerReadTimeout space off => fits 3 space && fits 28 off
  | .lockAcquire side path win line _ => below 3 side && below 5 path && below 8 win && fits 21 line
  | .lockRelease side path => below 3 side && below 5 path
  | .lockAbort side => below 3 side
  | .bar4WindowAccess side path win off _ len _ => below 3 side && below 5 path && below 9 win && fits 35 off && fits 32 len
  | .hbrCntRead k upd => below 4 k && updOk upd
  | .tbIncNsWrite path _ => below 5 path
  | .tbNowLoRead => true
  | .tbAdjWrite path _ _ => below 5 path
  | .ptpSyncReceived port _ _ _ _ => below 8 port
  | .syncTimeout => true
  | .holdoverLimitExpiry => true
  | .netDomainReturn => true
  | .compareFire n => below 16 n
  | .compareTargetWrite path n _ _ _ => below 5 path && below 16 n
  | .compareArm path n _ => below 5 path && below 16 n
  | .ppsInEdge t _ => fits 64 t
  | .ppsTimeout => true
  | .ppsOutSecond => true
  | .rtcTickLoRead _ => true
  | .rtcTickHiRead _ => true
  | .rtcHalt path _ => below 5 path
  | .rtcRelease path => below 5 path
  | .rtcArm path => below 5 path
  | .rtcOsf => true
  | .rtcEpochReanchor => true
  | .opsecTick => true
  | .opsecSave => true
  | .leapSecond => true
  | .tzWarn => true
  | .timeStatus tag => fits 16 tag
  | .timeSet tag tai mode => fits 16 tag && fits 64 tai && fits 8 mode
  | .timeSetPpsTimeout => true
  | .rxChainFail chain => below 2 chain
  | .engineFailure _ reason => fits 8 reason
  | .spareEngineFailure _ reason => fits 8 reason
  | .ccmSelfTest _ _ => true
  | .transmitRequest chan _ earliest latest _ => below 512 chan && fits 64 earliest && fits 64 latest
  | .txSchedulerStep now => fits 64 now
  | .transmitEnd _ => true
  | .loUnlock => true
  | .loSettled now => fits 64 now
  | .calibrationDue now => fits 64 now
  | .calNow tag => fits 16 tag
  | .calibrationStart now => fits 64 now
  | .calibrationEnd now _ _ => fits 64 now
  | .radStatus tag => fits 16 tag
  | .chanState tag first count => fits 16 tag && fits 16 first && fits 8 count
  | .radCntRead k upd => fits 16 k && updOk upd
  | .packAirRead k upd => fits 16 k && updOk upd
  | .barkReceived f b => rxOk f && barkOk b
  | .ackReceived a => ackOk a
  | .ackTimeout ln t => fits 24 ln && fits 64 t
  | .ccaEnd _ _ t => fits 64 t
  | .replayCounterSave => true
  | .howlCopyHeard f msgid => rxOk f && fits 16 msgid
  | .uplinkStatus f level lamp faults => rxOk f && fits 16 level && fits 8 lamp && fits 16 faults
  | .uplinkEnergy f ewh power burn => rxOk f && fits 32 ewh && fits 16 power && fits 32 burn
  | .uplinkFault f cls _ detail tn => rxOk f && fits 8 cls && fits 16 detail && fits 48 tn
  | .uplinkUvolt f _ => rxOk f
  | .uplinkTraffic f tn kind dir speed => rxOk f && fits 48 tn && fits 8 kind && fits 8 dir && fits 8 speed
  | .uplinkResp f htag op status => rxOk f && fits 8 htag && fits 8 op && fits 8 status
  | .uplinkLampbusAns f htag body => rxOk f && fits 8 htag && decide (body.length ≤ 255)
  | .uplinkMakerData f op body => rxOk f && fits 8 op && decide (body.length ≤ 255)
  | .uplinkRouteErr f body => rxOk f && decide (body.length ≤ 255)
  | .uplinkNbNack f nack => rxOk f && nackOk nack
  | .rosterPut tag recs => fits 16 tag && recordsOk recs
  | .rosterDel tag lns => fits 16 tag && lnsOk lns
  | .rosterGet tag ln => fits 16 tag && fits 24 ln
  | .nodeState tag ln => fits 16 tag && fits 24 ln
  | .nodeSend tag ln deadline op body => fits 16 tag && fits 24 ln && fits 32 deadline && fits 8 op && decide (body.length ≤ 255)
  | .howlSend tag scope group ttl deadline op body => fits 16 tag && fits 8 scope && fits 16 group && fits 8 ttl && fits 32 deadline &&
      fits 8 op && decide (body.length ≤ 255)
  | .nodeFlush tag ln => fits 16 tag && fits 24 ln
  | .howlWindow _ => true
  | .howlDone msgid => fits 16 msgid
  | .e2eTimeout ln t => fits 24 ln && fits 64 t
  | .deadlineExpiry ln t => fits 24 ln && fits 64 t
  | .retryTimerExpiry ln t => fits 24 ln && fits 64 t
  | .lntCntRead k upd => fits 16 k && updOk upd
  | .lightingDayEnd _ => true
  | .luxOverride tag kind id level ramp dur => fits 16 tag && fits 8 kind && fits 24 id && fits 16 level && fits 16 ramp && fits 32 dur
  | .luxRelease tag ovid => fits 16 tag && fits 16 ovid
  | .luxState tag ln => fits 16 tag && fits 24 ln
  | .feederState tag feeder => fits 16 tag && fits 8 feeder
  | .faultList tag first count => fits 16 tag && fits 24 first && fits 8 count
  | .energyGet tag ln => fits 16 tag && fits 24 ln
  | .overrideRenewal ovid => fits 16 ovid
  | .overrideExpiry ovid => fits 16 ovid
  | .commsLost ln => fits 24 ln
  | .feederNoticeReceived _ => true
  | .recloseForecastReceived _ => true
  | .kennelDropDetected k => ranged 64 65 k
  | .graceExpiry feeder => fits 8 feeder
  | .batchRelease feeder t => fits 8 feeder && fits 64 t
  | .uvSummary feeder => fits 8 feeder
  | .linkUp port => below 8 port
  | .linkDown port _ _ => below 8 port
  | .switchFrameReceived f _ => swOk f
  | .parityRestore table _ => below 5 table
  | .macEntryAgeOut _ => true
  | .fwdSearch tag table key => fits 16 tag && fits 8 table && entryOk key
  | .fwdNext tag table cursor mx => fits 16 tag && fits 8 table && fits 32 cursor && fits 8 mx
  | .fwdAdd tag table ent => fits 16 tag && fits 8 table && entryOk ent
  | .fwdDel tag table key => fits 16 tag && fits 8 table && entryOk key
  | .fwdFlush tag port vid => fits 16 tag && fits 8 port && fits 16 vid
  | .flushSweepDone port => below 6 port
  | .subStatus tag kind idx => fits 16 tag && fits 8 kind && fits 16 idx
  | .fwdCntRead k upd => fits 16 k && updOk upd
  | .svAsduReceived a _ => asduOk a
  | .svFrameEnd _ result _ => fits 8 result
  | .svStreamLost sub => below 128 sub
  | .gooseFrameReceived m _ => gooseOk m
  | .gooseLost sub => below 256 sub
  | .halfSampleDelivered h _ => below 2 h
  | .halfVerdict h stream smp _ _ => below 2 h && fits 16 stream && fits 16 smp
  | .halfHmacDone h sub _ _ => below 2 h && fits 16 sub
  | .passDue h => below 2 h
  | .passEnd h _ _ _ => below 2 h
  | .provisionalExpiry h k => below 2 h && fits 16 k
  | .reevaluation h k _ _ => below 2 h && fits 16 k
  | .gooseRetransmit h _ => below 2 h
  | .backupOcPickup e ch _ => below 16 e && below 32 ch
  | .backupOcTrip e ch => below 16 e && below 32 ch
  | .backupOcDropout e => below 16 e
  | .backupOcHoldExpiry e => below 16 e
  | .halfUvoltReceived h ln t vres _ => below 2 h && fits 24 ln && fits 64 t && fits 16 vres
  | .flocLocate h feeder => below 2 h && fits 8 feeder
  | .outputWearRemap line => below 40 line
  | .protStatus tag h => fits 16 tag && fits 8 h
  | .instStatus tag h inst => fits 16 tag && fits 8 h && fits 8 inst
  | .protReset tag => fits 16 tag
  | .instBlock tag inst on => fits 16 tag && fits 8 inst && fits 8 on
  | .flocGet tag feeder => fits 16 tag && fits 8 feeder
  | .prxCntRead h k upd => below 2 h && fits 16 k && updOk upd
  | .vecReceived h _ => below 2 h
  | .statePacketReceived h => below 2 h
  | .agwaitExpiry k => fits 16 k
  | .livewinExpiry k => fits 16 k
  | .brcTransfer tag => fits 16 tag
  | .transferTimeout => true
  | .brcResync tag h => fits 16 tag && fits 8 h
  | .brcStatus tag => fits 16 tag
  | .partnerYield tag => fits 16 tag
  | .halfRejoinStart h => below 2 h
  | .rejoinComplete h k => below 2 h && fits 16 k
  | .protectionCoreFailure h _ reason ms => below 2 h && fits 8 reason && msOk ms
  | .lshInLowDebounce => true
  | .lshTieSample _ => true
  | .partnerFrameSend => true
  | .partnerFrameReceived _ => true
  | .partnerLost => true
  | .partnerSeqSave => true
  | .handoverLoadDone k => fits 16 k
  | .handoverWarmExpiry => true
  | .handoverWaitTimeout => true
  | .luxResultCompare _ _ _ _ _ => true
  | .brcCntRead k upd => fits 16 k && updOk upd
  | .modRunStart ch _ => below 32 ch
  | .mtrChannelStuck ch => below 32 ch
  | .meterWindowEnd _ freq spans => fits 32 freq && spans.all fun p => below 32 p.ch
  | .meterSave => true
  | .meterIntervalEnd => true
  | .supraWindowEnd spans => spans.all fun p => below 32 p.ch
  | .meterProtSample k spans => fits 16 k && spans.all fun p => below 32 p.ch
  | .mtrRead tag circ => fits 16 tag && fits 8 circ
  | .mtrValues tag mp intv => fits 16 tag && fits 8 mp && fits 8 intv
  | .mtrHarm tag mp ch intv => fits 16 tag && fits 8 mp && fits 8 ch && fits 8 intv
  | .mtrSupra tag mp ch intv first count => fits 16 tag && fits 8 mp && fits 8 ch && fits 8 intv && fits 16 first && fits 8 count
  | .mtrCalMeasure tag ch mode refch windows => fits 16 tag && fits 8 ch && fits 8 mode && fits 8 refch && fits 8 windows
  | .mtrCalTrial tag ch ofs gain delay => fits 16 tag && fits 8 ch && fitsS 32 ofs && fits 32 gain && fitsS 32 delay
  | .mtrSaveNow tag => fits 16 tag
  | .mtrCntRead upd => updOk upd
  | .recordPost dom log code inst par => below 8 dom && below 16 log && fits 16 code && fits 12 inst && parOk par
  | .laneEvent code source par => fits 16 code && fits 16 source && parOk par
  | .recordCommit => true
  | .coalesceWindowEnd log code source par0 => fits 8 log && fits 16 code && fits 16 source && fits 32 par0
  | .logAreaSubst log _ _ _ => fits 8 log
  | .logInfo tag log => fits 16 tag && fits 8 log
  | .logRead tag log frm count => fits 16 tag && fits 8 log && fits 32 frm && fits 8 count
  | .logClear tag log upto ccnt _ => fits 16 tag && fits 8 log && fits 32 upto && fits 32 ccnt
  | .logAppend tag log code par => fits 16 tag && fits 8 log && fits 16 code && parOk par
  | .evrCntRead upd => updOk upd
  | .archiveSamplePost h sub k => below 2 h && below 128 sub && fits 16 k
  | .archiveChunkWrite => true
  | .extentSeal _ => true
  | .arcOnline _ _ => true
  | .arcNsFail _ => true
  | .distTrigger t cause => fits 64 t && fits 8 cause
  | .distWindow did => fits 32 did
  | .tierDownsample _ => true
  | .arcStatus tag => fits 16 tag
  | .arcFetch tag req _ => fits 16 tag && fetchOk req
  | .arcMark tag cause => fits 16 tag && fits 8 cause
  | .arcDistList tag frm count => fits 16 tag && fits 32 frm && fits 8 count
  | .arcComtrade tag did stream win wofs maxb => fits 16 tag && fits 32 did && fits 16 stream && fits 8 win && fits 32 wofs &&
      fits 32 maxb
  | .keyRequest dom _ slot alg _ => below 8 dom && below 256 slot && fits 8 alg
  | .keyUpdate tag win wofs len _ _ => fits 16 tag && fits 8 win && fits 32 wofs && fits 16 len
  | .tamperInput _ _ => true
  | .keyZeroise tag confirm => fits 16 tag && fits 16 confirm
  | .keyStatus tag slot => fits 16 tag && fits 8 slot
  | .keyInfo tag => fits 16 tag
  | .cryptoJobSubmit _ _ _ => true
  | .cryptoPieceEnd _ => true
  | .keyCntRead upd => updOk upd
  | .bilStageOpen tag page => fits 16 tag && fits 8 page
  | .bilStageCheck tag len _ => fits 16 tag && fits 32 len
  | .updCommit tag cfg trial _ _ => fits 16 tag && fits 8 cfg && fits 32 trial
  | .updConfirm tag => fits 16 tag
  | .updRollback tag => fits 16 tag
  | .updStatus tag => fits 16 tag
  | .trialExpiry => true
  | .recoveryRead => true
  | .recoveryErase => true
  | .recoveryProgram => true
  | .recoveryVerify _ _ _ => true
  | .recoveryExit ms => msOk ms
  | .nbLoad tag win wofs len => fits 16 tag && fits 8 win && fits 32 wofs && fits 32 len
  | .nbStart tag mode group ttl chgap rehowl rounds nackwin => fits 16 tag && fits 8 mode && fits 16 group && fits 8 ttl &&
      fits 8 chgap && fits 16 rehowl && fits 8 rounds && fits 32 nackwin
  | .nbAddnodes tag lns => fits 16 tag && lnsOk lns
  | .nbActivate tag act => fits 16 tag && fits 64 act
  | .nbAbort tag => fits 16 tag
  | .nbStatus tag => fits 16 tag
  | .campaignSlot _ => true
  | .campaignQueryEnd => true
  | .campaignActQuery => true
  | .ptpAnnounceReceived port _ => below 8 port
  | .modAbsChange port _ => below 8 port
  | .appDomainReturn => true
  | .stuckClear ch => below 32 ch
  | .tbPpsinLoRead => true
  | .tbPpsinHiRead => true
  | .leadershipStartWaitExpiry => true

end Sys2Proof
end

