-- ==== Sys2Proof/Tests/Slice0.lean ====
section
/-! SUPPORT. Tests of the model on small states, smoke tests of well-formedness, and for each statement with hypotheses a witness that meets them. -/
namespace Sys2Proof.Tests

open Machine

-- The kernel checks below wait for one another; elaborated in order they do not each hold a thread.
set_option Elab.async false

/-- Every domain in RUN, every other register 0 but the access policy of path 0, which allows every block. -/
def base : State :=
  { State.reset with regs := ((List.range 7).map fun d => ((domFld d).key, 2)) ++ [((Reg.HBR_BLKPOL_WE 0).key, 0x1FFFFF)] }

/-- `base` with the given register fields. -/
def withRegs (l : List (Fld × Nat)) : State := base.wrs l

theorem base_roomy : Roomy base := by unfold Roomy; decide +kernel
theorem base_writable : Writable base 0 17 ∧ Writable base 0 11 := by unfold Writable; decide +kernel
theorem base_no_device : NoDevice base := by unfold NoDevice; decide +kernel

/-- An image with every check passed and no section but the first, a billet, a confirmed faceplate, and a device that holds them. -/
def image : Image :=
  { magic := 0x49435456, ver := 1, typ := 0x47B1, unit := 0, total := 120, imgid := 1, signers := [7], flashOk := true,
    dir := [⟨1, 3, 56, 0, []⟩], secs := {} }
def billet : Billet :=
  { magic := 0x4D425456, bver := 1, ncomp := 6, resv := 0, ver := 5, typ := 0x47B1, hwmin := 0, hwmax := 9, unit := 0, svn := 3, total := 700,
    fmttab := [3, 2, 4, 3, 5, 2, 3, 6, 2, 2, 1, 2, 1, 3, 4], pfmax := 1, airmax := 1, keyidx := 0, signers := [1],
    dir := (List.range 6).map fun i => ⟨i + 1, 600, sha256 [], []⟩, flashOk := true }
def plateHead : Plate := ⟨0x50465456, 1, 0x0A, 17, 0x1000000, 700, 0x5000000, 120, 0x2000, 0, 0, 0x0F, 0x0F⟩
def plate : Plate := { plateHead with crc := crc32 plateHead.head }
def device : CfgDev := { p0 := some plate, p1 := some plate, billet := some billet, image := some image }
/-- `base` with that device as CFG_A, and its billet running. -/
def loaded : State :=
  { base with cfg := { base.cfg with devA := device }, key := { base.key with owner := [(0, 7)] }, upd := { base.upd with run := some billet } }

/-! ### Step, bus, kennels -/

theorem wit_IdleStepTicks :
    (base.pending = [] ∧ base.dom 0 = 2 ∧ base.rd Reg.SUP_DOMSTAT_OCXO_LOST = 0 ∧ base.pwr.quiesced = false ∧ base.tb.adjRem = 0 ∧
      base.tb.incNew = false ∧ base.hbr.sides = [] ∧ base.tb.fires = [] ∧
      ∀ n, n < 32 → (withRegs ((List.range 32).map fun n => (Reg.TB_CMP_CTL_ARM n, 1))).rd (Reg.TB_CMP_CTL_ARM n) = 1) ∧
    (State.reset.pending = [] ∧ State.reset.dom 0 ≠ 2) ∧ (withRegs [(Reg.SUP_DOMSTAT_OCXO_LOST, 1)]).rd Reg.SUP_DOMSTAT_OCXO_LOST = 1 := by
  decide +kernel

theorem wit_StepKeepsInvariant : Machine.Inv base := by unfold Machine.Inv MemsOk; decide +kernel

theorem wit_MemoryChangesOnlyThroughItsCommands : writesMemory (.kennelRead 3 1) = false ∧ ∃ t, exec (.kennelRead 3 1) base = .next t :=
  ⟨rfl, _, rfl⟩

theorem wit_SummaryChangesAreCounted : restarts (.kennelRead 3 1) = false ∧ base.sup.seq < 2 ^ 32 ∧ ∃ t, exec (.kennelRead 3 1) base = .next t :=
  ⟨rfl, by decide +kernel, _, rfl⟩

theorem wit_ArbiterRegisterWrites :
    Writable base 0 17 ∧ (3#32).toNat % 128 < 4 ∧ 64 < (65#32).toNat % 128 ∧ (4 ≤ (64#32).toNat % 128 ∧ (64#32).toNat % 128 ≤ 64) ∧ 7 < 8 := by
  unfold Writable; decide +kernel

theorem wit_CounterReadsClear :
    base.pwr.perst = false ∧ blockRuns base 17 = true ∧ ∃ x, counterRow (.arbMaxwRead 7 none) = some (17, x) := ⟨rfl, by decide +kernel, _, rfl⟩

/-- One request, not withdrawn, at port 7; one withdrawn at port 2, one cycle before the decision. -/
def arbState : State := { withRegs [(Reg.ARB_CTL_NTH, 4), (Reg.ARB_CRD_CRD 7, 2048)] with arb := { base.arb with reqs := [(2, ⟨1, some 9⟩), (7, ⟨3, none⟩)] } }

theorem wit_ArbiterRequestsAndWindows :
    (base.runs 1 = true ∧ ∀ r, base.arb.reqs.get? 7 = some r → r.withdrawn ≠ none) ∧ arbState.arb.reqs.get? 7 = some ⟨3, none⟩ ∧
    (let s := { base with arb := { base.arb with refreshEnd := 280, refreshes := [(100, 180)] } }
     s.arb.refreshEnd ≤ 2620 ∧ ∀ r ∈ s.arb.refreshes, r.1 + r.2 + 2340 ≤ 2620) :=
  ⟨⟨by decide +kernel, fun _ h => nomatch h⟩, rfl, by decide +kernel⟩

theorem wit_ArbiterGrants :
    arbState.runs 1 = true ∧ arbState.arb.refreshEnd ≤ 10 ∧ (∀ c ∈ ({ arbState with arb := { arbState.arb with decided := some 9 } } : State).arb.decided, c < 10) ∧ arbState.arb.reqs.Pairwise (fun a b => a.1 < b.1) ∧
    (∀ q ∈ arbState.arb.reqs, q.1 < 8 ∧ arbState.rd (Reg.ARB_CRD_CRD q.1) ≤ 2048) ∧
    -- by credit: port 7
    ((7, ⟨3, none⟩) ∈ arbState.arb.reqs ∧ arbSeen 10 ⟨3, none⟩ = true ∧ arbState.arb.count + 1 < arbState.rd Reg.ARB_CTL_NTH ∧
      ∀ q ∈ arbState.arb.reqs, arbSeen 10 q.2 = true → arbState.rd (Reg.ARB_CRD_CRD q.1) < arbState.rd (Reg.ARB_CRD_CRD 7) ∨
        (arbState.rd (Reg.ARB_CRD_CRD q.1) = arbState.rd (Reg.ARB_CRD_CRD 7) ∧ 7 ≤ q.1)) ∧
    -- by age, the fourth grant: port 2, withdrawn
    ((2, ⟨1, some 9⟩) ∈ arbState.arb.reqs ∧ arbSeen 10 ⟨1, some 9⟩ = true ∧ arbState.rd Reg.ARB_CTL_NTH ≤ 3 + 1 ∧
      ∀ q ∈ arbState.arb.reqs, arbSeen 10 q.2 = true → 1 < q.2.at_ ∨ (1 = q.2.at_ ∧ 2 ≤ q.1)) := by
  decide +kernel

/-- A packet of one word and one of 64. -/
def pkt1 : List Nat := [1]
def pkt64 : List Nat := 64 :: List.replicate 63 0
/-- `base` with kennel `n` as given. -/
def withKn (n : Nat) (k : Kennel) : State := base.setKn n k
/-- A kennel with one word free: 128 packets less a word. -/
def tight : Kennel := { pkts := (63 :: List.replicate 62 0) :: List.replicate 127 pkt64 }

theorem wit_KennelWrites :
    pktOk pkt1 = true ∧ pktOk pkt64 = true ∧
    -- fits exactly
    (kLive (withKn 3 tight) 3 = true ∧ ((withKn 3 tight).knl 3).wrStall = false ∧ ((withKn 3 tight).knl 3).part = [] ∧
      ((withKn 3 tight).knl 3).used + pkt1.length = kDepth) ∧
    -- does not fit: DROP and BLOCK
    (kDepth < ((withKn 3 tight).knl 3).used + pkt64.length ∧ kDrop 3 = true ∧ 3 < 88) ∧
    (kLive (withKn 20 tight) 20 = true ∧ kDepth < ((withKn 20 tight).knl 20).used + pkt64.length ∧ kDrop 20 = false ∧
      ((withKn 20 tight).knl 20).wrStall = false ∧ ((withKn 20 tight).knl 20).part = []) ∧
    -- a stalled producer: the rest fits, and does not
    (let k : Kennel := { part := [2], rest := [0], wrStall := true }
     (withKn 20 k).knl 20 = k ∧ k.used ≤ kDepth ∧ k.rest.length + k.used ≤ kDepth) ∧
    (let k : Kennel := { tight with part := [2], rest := [0], wrStall := true }
     (withKn 20 k).knl 20 = k ∧ k.used ≤ kDepth ∧ kDepth < k.rest.length + k.used) ∧
    -- a STATE packet of half B
    (let k : Kennel := { part := [2], rest := [0], wrStall := true }
     kLive (withKn 85 k) 85 = true ∧ ((withKn 85 k).knl 85).wrStall = true ∧ 85 = 81 + 4 * 1 ∧ 20 ∉ [80, 81, 84, 85]) := by
  decide +kernel

theorem wit_KennelReads :
    kReads base 3 = true ∧ kExists 3 = true ∧ (base.knl 3).rdStall = false ∧ (base.knl 3).pkts = [] ∧ base.dom 0 = 2 ∧ RoomFor base 0 ∧
    (let s := withKn 3 { pkts := [pkt1] }
     kReads s 3 = true ∧ (s.knl 3).rdStall = false ∧ (s.knl 3).pkts = [pkt1]) ∧
    (let s := withKn 3 { pkts := [pkt64], rdStall := true }
     kReads s 3 = true ∧ (s.knl 3).rdStall = true ∧ (s.knl 3).pkts = [pkt64]) ∧
    (let s := withKn 3 { rdStall := true }
     kReads s 3 = true ∧ (s.knl 3).rdStall = true ∧ (s.knl 3).pkts = [] ∧ RoomFor s 0) := by
  unfold RoomFor; decide +kernel

theorem wit_StoppedDomainAnswers : State.reset.runs (blockDom (0x20000 / 0x10000)) = false ∧ blockDom (0x20000 / 0x10000) ≠ 0 ∧ 0x20000 % 4 = 0 ∧ State.reset.runs 1 = false := by decide +kernel

/-- A substitution of class 4 with number 1. -/
def subst1 : TallyRec := { kind := 1, cls := 4, failed := 3, spare := 0, margin := 63, reason := 3, tseq := 1, opsec := 0, pcyc := 0, stamp := 0, detail := 0 }
/-- That record on the tally. -/
def tallied : State := { base with sup := { base.sup with tally := [subst1], tseq := 1 } }

theorem wit_MemoryBlocksAreSpared :
    -- the last spare of class 7, and many of class 4
    (let s := withRegs [(marginFld 7, 1), (marginFld 4, 64)]
     s.dom 0 = 2 ∧ s.margin 7 = 1 ∧ 0 < s.margin 4 ∧ s.margin 4 < 2 ^ 15 ∧ s.sup.tally.length < 8192 ∧ s.sup.rowMap = []) ∧
    -- TALLY_READ
    Takes tallied 0x0110 ∧ ¬(1 ≤ 8 ∧ 8 ≤ 7) ∧ ¬(1 ≤ 0 ∧ 0 ≤ 7) ∧ (tallied.sup.tally = [] ++ subst1 :: [] ∧ subst1.tseq = 1 ∧
      ¬(0 < toS 24 (1 + 2 ^ 24 - tallied.sup.tseq))) := by
  unfold Takes; decide +kernel

/-! ### Domains, outputs, field, supply, starts -/

/-- `loaded` in IN_STEP, half `h` not leading, the other half leading. -/
def stepped (h : Nat) (l : List (Fld × Nat)) : State := loaded.wrs ([(braceFld h, 2), (braceFld (1 - h), 2), (Reg.BRC_STAT_LEASH, 2 - h)] ++ l)

theorem loaded_roomy : Roomy loaded := by unfold Roomy; decide +kernel

theorem wit_DomainWatchdogsAndCores :
    (loaded.sup.attempt = false ∧ loaded.runs 5 = true ∧ loaded.runs 6 = true ∧ loaded.runs 1 = true ∧ rereadFails loaded = none ∧
      loaded.sup.tally.length < 8192) ∧
    (∀ h, h < 2 → let s := stepped h [(marginFld (1 + h), 2)]
      s.runs (2 + h) = true ∧ s.lead = some (1 - h) ∧ s.brace h ≠ 0 ∧ (s.hf (1 - h)).hist = [] ∧ s.brc.req = none ∧ s.rd Reg.BRC_HO_PHASE = 0 ∧
        s.sup.attempt = false ∧ Roomy s ∧ (s.hf h).cores.get? 7 = none ∧ (s.hf h).cores = [] ∧ 0 < s.margin (1 + h) ∧ s.margin (1 + h) ≤ 2) ∧
    (let s := stepped 1 []; s.margin 2 = 0 ∧ s.runs 3 = true ∧ s.lead = some 0 ∧ s.brace 1 ≠ 0) ∧
    (let s := loaded.wr (marginFld 3) 2
     s.runs 1 = true ∧ s.sup.appCores.get? 11 = none ∧ s.sup.appCores = [] ∧ 0 < s.margin 3 ∧ s.margin 3 ≤ 2 ∧ rereadFails s = none) := by
  unfold Roomy; decide +kernel

/-- A section 0x0F: output 31 of PULSE, 100 ms; spare line 39 of output 31; backup element 7 on line 3. -/
def fieldSec : Sec0F := ⟨[(31, 100)], [(39, 31)], [], [], [(7, [3])], 0, [], [], 2000, 0, 56, 0, 0⟩
/-- The outputs in service, half 0 leading. -/
def outState : State :=
  { withRegs [(Reg.BRC_STAT_LEASH, 1), (Reg.BRC_STAT_LSHOUT, 1), (Reg.OUT_WEAR_OPS 31, 9), (Reg.OUT_RATED_RATED 31, 10)] with
      sup := { base.sup with inServ := true }, cfg := { base.cfg with secs := { base.cfg.secs with s0f := some fieldSec } },
      pwr := { base.pwr with ticks := 400000000 }, pins := { base.pins with cmd := 2 ^ 31 }, wear := { base.wear with quiet := [(31, 0)] } }

theorem wit_OutputVectors :
    outState.fuses.suiteP = true ∧ outState.pins.moved = [] ∧ outState.lead = some 0 ∧ outState.lead ≠ some 1 ∧ outState.runs 2 = true ∧
    outState.pwr.quiesced = false ∧ outState.pins.limited = 0 ∧ outState.bk = [] ∧ outEn base = false ∧ sec0F outState = some fieldSec ∧ fieldSec.pulse.get? 31 = some 100 ∧
    bit outState.pins.cmd 31 = true ∧ outState.pins.rose.getD 31 0 + 100 * 1000000 ≤ outState.up := by decide +kernel

theorem wit_ReadbackAndSpares :
    outEn outState = true ∧ Roomy outState ∧
    (bit outState.pins.cmd 39 ≠ true ∧ bit (outState.rd (Reg.OUT_RBMIS_MIS (39 / 32))) (39 % 32) = false ∧ spareOf outState 39 = none) ∧
    (bit outState.pins.cmd 31 ≠ false ∧ bit (outState.rd (Reg.OUT_RBMIS_MIS (31 / 32))) (31 % 32) = false ∧ outState.pins.moved = [] ∧
      spareOf outState 31 = some 39 ∧ outState.sup.tally.length < 8000) ∧
    (outState.wear.quiet.get? 31 = some 0 ∧ 0 + 1000000000 ≤ outState.up ∧
      9 ≤ wearTenths (outState.rd (Reg.OUT_WEAR_OPS 31)) (outState.rd (Reg.OUT_RATED_RATED 31))) ∧
    Writable outState 0 11 := by unfold Roomy Writable; decide +kernel

/-- Loop 7 enabled, its set point 4,049 µA. -/
def loopState (hold src : Nat) : State :=
  (withRegs [(Reg.OUT_LPCFG_EN 7, 1), (Reg.OUT_LPCFG_MODE 7, 1), (Reg.OUT_LPSET_SET 7, 4049), (Reg.OUT_LPSTAT_HOLDING 7, hold), (Reg.OUT_LPCFG_SRC 7, src)]).setLoop 7
    { ask := 4049 }

theorem wit_FieldInputsAndLoops :
    (63 < 64 ∧ base.dom 0 = 2 ∧ bit base.pins.bi 63 ≠ (true != decide (base.rd (Reg.OUT_BICFG_INV 63) = 1)) ∧
      bit base.pins.bi 63 = (false != decide (base.rd (Reg.OUT_BICFG_INV 63) = 1))) ∧
    (let s := loopState 0 0
     s.dom 0 = 2 ∧ Roomy s ∧ s.rd (Reg.OUT_LPCFG_EN 7) = 1 ∧ s.rd (Reg.OUT_LPSTAT_HOLDING 7) = 0 ∧ (s.loop 7).low = false ∧
       4000 + 48 < (s.loop 7).ask ∧ Writable s 0 11 ∧ s.rd (Reg.OUT_LPCFG_SRC 7) ≠ 1) ∧
    (let s := (loopState 0 0).setLoop 7 { loss := true }; (s.loop 7).low = false ∧ (s.loop 7).loss = true ∧ (1#32).getLsbD 0 = true) ∧
    (let s := (loopState 0 0).setLoop 7 { ask := 4049, deliv := 4000, low := true }
     (s.loop 7).low = true ∧ (s.loop 7).deliv + 48 < (s.loop 7).ask ∧ s.rd (Reg.OUT_LPCFG_MODE 7) = 1 ∧ Roomy s ∧ Writable s 0 11) ∧
    (let s := (loopState 1 0).setDom 1 1; Writable s 0 11 ∧ s.rd (Reg.OUT_LPSTAT_HOLDING 7) = 1 ∧ s.runs 1 = false ∧ s.rd (Reg.OUT_LPCFG_SRC 7) ≠ 1) ∧
    (loopState 0 1).rd (Reg.OUT_LPCFG_SRC 7) = 1 := by unfold Roomy Writable; decide +kernel

/-- A 10 F bank at 24 V, warning at 10.0 V. -/
def supply : State :=
  { withRegs [(Reg.PWR_HOLD_VSET, 1), (Reg.PWR_HOLD_CAP, 10000), (Reg.PWR_STAT_VINA_OK, 1), (Reg.PWR_STAT_VINB_OK, 1), (Reg.PWR_CFG_WARN, 100)] with
      pwr := { base.pwr with holdSw := true } }

theorem wit_SupplyAndQuiesce :
    (let s := { supply with pwr := base.pwr }; s.dom 0 = 2 ∧ s.pwr.holdSw = false ∧ holdSmall s = false ∧ 99 < s.rd Reg.PWR_CFG_WARN) ∧
    (let s := withRegs [(Reg.PWR_CFG_WARN, 100)]; s.dom 0 = 2 ∧ s.pwr.holdSw = false ∧ holdSmall s = true ∧ 99 < s.rd Reg.PWR_CFG_WARN ∧ s.pwr.quiesced = false) ∧
    (supply.dom 0 = 2 ∧ supply.pwr.holdSw = true ∧ supply.pwr.quiesced = false ∧ Roomy supply ∧ belowVq supply 59 = true) ∧
    (supply.rd Reg.PWR_STAT_VINA_OK = 1 ∧ supply.rd Reg.PWR_STAT_VINB_OK = 1 ∧ 99 < supply.rd Reg.PWR_CFG_WARN) ∧
    (let s := { supply with pwr := { supply.pwr with quiesced := true, thermal := true } }
     s.dom 0 = 2 ∧ s.pwr.holdSw = true ∧ s.pwr.quiesced = true ∧ s.pwr.thermal = true) ∧
    ((supply.regs.map Prod.fst).Nodup ∧
      outState.regs.get? (Reg.OUT_WEAR_OPS 31).key = some 9 ∧ (Reg.OUT_WEAR_OPS 31).key ∈ mramKeys ∧ (outState.regs.map Prod.fst).Nodup) := by
  unfold Roomy; decide +kernel

theorem wit_ThermalReferenceAndTick :
    (base.dom 0 = 2 ∧ Roomy base ∧ base.rd Reg.PWR_STAT_THROTTLE = 0 ∧ (withRegs [(Reg.PWR_STAT_THROTTLE, 1)]).rd Reg.PWR_STAT_THROTTLE = 1 ∧
      base.runs 4 = true ∧ base.pwr.thermal = false ∧ base.pwr.quiesced = false ∧ base.rd Reg.SUP_DOMSTAT_OCXO_LOST = 0 ∧ base.rd Reg.UPD_STAT_RCV = 0) ∧
    (let s := { supply with pwr := { supply.pwr with quiesced := true, thermal := true } }
     Roomy s ∧ s.dom 0 = 2 ∧ s.pwr.thermal = true ∧ s.pwr.holdSw = true ∧ s.pwr.quiesced = true ∧ s.rd Reg.SUP_DOMSTAT_OCXO_LOST = 0) ∧
    (let s := withRegs [(Reg.SUP_DOMSTAT_OCXO_LOST, 1), (Reg.UPD_STAT_RCV, 1)]
     s.dom 0 = 2 ∧ s.rd Reg.SUP_DOMSTAT_OCXO_LOST = 1 ∧ s.rd Reg.UPD_STAT_RCV = 1) ∧
    (∀ n, n < 8 → base.rd (Reg.OUT_LPCFG_SRC n) = 0 ∧ (base.loop n).loss = false) ∧ base.hbr.waiting = [] ∧ (2 < 3 ∧ 3 ≤ 3 ∧ base.rd Reg.UPD_STAT_RCV ≠ 1) := by
  unfold Roomy; decide +kernel

/-- A section 0x08 with backup element 7 on channel 3. -/
def bkSec : Sec08 := ⟨4000, 50, 0, 3, [], [], [], [], [], [(7, ⟨true, true, 1, 8, 100, 5, 5⟩)], [], 0⟩
/-- It in force, with the element as given. -/
def bkState (b : BkSt) : State :=
  { base with cfg := { base.cfg with secs := { base.cfg.secs with s08 := some bkSec, s0f := some fieldSec } }, bk := [(7, b)],
              pwr := { base.pwr with ticks := 20000000 }, pins := { base.pins with first := true } }

theorem wit_BackupElements :
    bkCfg (bkState {}) 7 = some ⟨true, true, 1, 8, 100, 5, 5⟩ ∧
    (let s := bkState {}
     atThreshold ⟨true, true, 1, 8, 100, 5, 5⟩ (List.replicate 254 true) = true ∧ s.fuses.suiteP = true ∧ s.runs 6 = true ∧ (s.bk.getD 7 {}).picked = false ∧ bit 8 3 = true ∧ bit (s.rd Reg.MTR_STUCK_STUCK) (4 * 7 + 3) = false) ∧
    (let s := bkState { picked := true }
     bkCfg s 7 = some ⟨true, true, 1, 8, 100, 5, 5⟩ ∧ (s.bk.getD 7 {}).picked = true ∧ (s.bk.getD 7 {}).req = false ∧
       (s.bk.getD 7 {}).since + 5 * 1000000 ≤ s.up ∧ (s.bk.getD 7 {}).since + 12000000 ≤ s.up ∧ s.pins.first = true ∧ s.pwr.quiesced = false ∧ s.lead = none ∧ Roomy s ∧ sec0F s = some fieldSec ∧ s.pins.moved = [] ∧ s.pins.limited = 0 ∧
       3 ∈ fieldSec.bkmap.getD 7 []) ∧
    (let s := bkState { req := true }
     (s.bk.getD 7 {}).picked = false ∧ (s.bk.getD 7 {}).req = true ∧ (s.bk.getD 7 {}).since + 5 * 10000000 ≤ s.up) := by
  unfold Roomy; decide +kernel

/-- A restart with cause `c` is due. -/
def due (s : State) (c : Nat) : State := { s with sup := { s.sup with due := some c } }

theorem wit_Starts :
    (State.reset.dom 0 ≠ 2 ∧ 1 ≤ 3 ∧ 3 ≤ 3 ∧ 3 < 4 ∧ helperSrc [0, 10] ≠ none ∧ helperSrc [0, 10, 11] = none) ∧ NoDevice base ∧
    ((due base 8).dom 0 = 2 ∧ NoDevice (due base 8) ∧ (due base 8).sup.due = some 8 ∧ (due base 8).rd Reg.SUP_DOMSTAT_OCXO_LOST = 0) ∧
    (let s := { withRegs [(Reg.SUP_BOOT_DEV, 2)] with sup := { base.sup with attempt := true }, pwr := { base.pwr with ticks := 16000000000 } }
     s.dom 0 = 2 ∧ NoDevice s ∧ s.sup.attempt = true ∧ s.sup.attemptAt + 40000000000 ≤ s.up ∧ s.rd Reg.SUP_BOOT_DEV = 1 + 1) ∧
    (let s := { supply with pwr := { supply.pwr with quiesced := true } }
     s.dom 0 = 2 ∧ NoDevice s ∧ s.rd Reg.SUP_DOMSTAT_OCXO_LOST = 0 ∧ s.pwr.holdSw = true ∧ s.pwr.quiesced = true ∧ s.pwr.thermal = false) ∧
    (let s := { base with pwr := { base.pwr with thermal := true } }
     s.dom 0 = 2 ∧ NoDevice s ∧ s.pwr.thermal = true ∧ s.pwr.holdSw = false ∧ s.rd Reg.SUP_DOMSTAT_OCXO_LOST = 0) ∧
    (let s := withRegs [(Reg.SUP_DOMSTAT_OCXO_LOST, 1)]
     s.dom 0 = 2 ∧ NoDevice s ∧ s.rd Reg.SUP_DOMSTAT_OCXO_LOST = 1 ∧ s.pwr.quiesced = false ∧ s.rd Reg.UPD_STAT_RCV = 0 ∧ s.rd Reg.SUP_BOOT_DEV = 0) := by
  unfold NoDevice; decide +kernel

theorem wit_RestartLoadsTheGoodDevice :
    let s := due loaded 5
    s.dom 0 = 2 ∧ s.sup.due = some 5 ∧ s.rd Reg.SUP_DOMSTAT_OCXO_LOST = 0 ∧ s.plate 0 = some plate ∧ s.plate 1 = none ∧
    plate.cst = 0x0F ∧ plate.bst = 0x0F ∧ s.rd (failFld 0) < 2 ∧ s.cfg.devA.billet = some billet ∧ s.cfg.devA.image = some image ∧
    s.key.slots = [] ∧ s.key.store = [] ∧ billetCheck s plate.bilLen billet = none ∧ imageCheck s billet.fmttab false true plate.cfgLen image = none := by
  decide +kernel

/-! ### Start-up commands, staging, the mailbox, windows, time -/

/-- The faceplate with the billet's confirm state as given, its CRC-32 formed again. -/
def bootPlate (bst : Nat) : Plate :=
  let p : Plate := { plateHead with bstate := bst }
  { p with crc := crc32 p.head }

/-- A boot attempt whose milestones are met, with the billet's confirm state and SVN and the floor as given. -/
def booting (bst floor trial : Nat) : State :=
  { (loaded.wr Reg.UPD_FLOOR_FLOOR floor) with
      sup := { base.sup with attempt := true, inServ := true },
      cfg := { loaded.cfg with devA := { device with p0 := some (bootPlate bst) } }, upd := { loaded.upd with trial := trial } }

theorem wit_BootOkAndItsCommands :
    (let s := booting 0x0F 3 0
     s.sup.attempt = true ∧ bootReady s = true ∧ ((s.plate s.cfg.dev).map (·.bst)) = some 0x0F ∧ (s.upd.run.map (·.svn)).getD 0 ≤ s.rd Reg.UPD_FLOOR_FLOOR) ∧
    (let s := booting 0x0F 2 0
     s.sup.attempt = true ∧ bootReady s = true ∧ s.upd.run = some billet ∧ s.rd Reg.UPD_FLOOR_FLOOR < billet.svn ∧ billet.svn < 2 ^ 32 ∧ Roomy s) ∧
    (let s := booting 0x7F 3 60
     s.sup.attempt = true ∧ bootReady s = true ∧ ((s.plate s.cfg.dev).map (·.bst)) = some 0x7F ∧ s.upd.trial ≠ 0) ∧
    (Takes base 0x0101 ∧ base.sup.due = none ∧ Takes base 0x0207 ∧ Takes base 0x0205) := by
  unfold Takes Roomy; decide +kernel

/-- An image of another type, staged or being applied. -/
def alien : Image := { image with typ := 0 }
/-- `loaded` with SUP_CFGSTAT.STATE as given. -/
def cfgAt (n : Nat) : State := loaded.wr Reg.SUP_CFGSTAT_STATE n
/-- An apply AT_RESTART whose flash write goes on, TAG 7. -/
def writing : State :=
  { cfgAt 3 with cfg := { loaded.cfg with apply := some { mode := 2, tag := 7, img := image, raw := image } }, mbx := { base.mbx with prog := [(0x0202, 7)] } }

theorem wit_StagingAnImage :
    (Takes loaded 0x0201 ∧ loaded.rd Reg.SUP_CFGSTAT_STATE = 0 ∧ updBusy loaded = false ∧ loaded.cfg.win7 ≠ 1 ∧ fabWaits loaded = false) ∧
    (Takes (cfgAt 1) 0x0201 ∧ (cfgAt 1).rd Reg.SUP_CFGSTAT_STATE ≠ 0) ∧
    (Takes loaded 0x0202 ∧ updBusy loaded = false) ∧
    (let s := cfgAt 1
     Takes s 0x0202 ∧ updBusy s = false ∧ s.rd Reg.SUP_CFGSTAT_STATE = 1 ∧ (2 < 3 ∧ trialOk 59 = false ∧ 0x2000000 < 0x2000001) ∧ trialOk 60 = true ∧
       Roomy s ∧ imageCheck s (fmtTab s) true true 0x2000000 alien = some St.BIND_FAIL ∧ St.BIND_FAIL ≠ 0 ∧
       imageCheck s (fmtTab s) true true 120 image = none ∧ s.cfg.dev < 2) ∧
    (∃ a, writing.cfg.apply = some a ∧ a.phase = 1 ∧ a.mode = 2 ∧ writing.rd Reg.SUP_CFGSTAT_STATE = 3 ∧ (0x0202, a.tag) ∈ writing.mbx.prog ∧ Roomy writing ∧
      writing.sup.due = none ∧ writing.cfg.dev < 2 ∧ a.raw.total ≤ 0x2000000 ∧ (writing.upd.run.map (·.total)).getD 0 ≤ 0x4000000 ∧
      WriteEnd.copy0 ≠ WriteEnd.ok) := by
  unfold Takes Roomy
  exact ⟨by decide +kernel, by decide +kernel, by decide +kernel, by decide +kernel, _, rfl, by decide +kernel⟩

/-- An apply of the same image with every step made, 60 s of probation. -/
def applied : State :=
  { cfgAt 4 with cfg := { loaded.cfg with apply := some { mode := 1, prob := 60, tag := 7, img := image, raw := image, phase := 3, frm := some (image, {}) } } }
/-- Probation after it. -/
def probation : State := { cfgAt 5 with cfg := { loaded.cfg with image := some image, before := some (image, {}) } }
/-- A bulk read of the older epoch 0 while epoch 1 is in force. -/
def draining : State := { withRegs [(Reg.SUP_FEPOCH_FEPOCH, 1)] with hbr := { base.hbr with sides := [(0, { txns := [⟨some 5, 0, 0, 0, 0, 0, 64⟩] })] } }

theorem wit_ApplyProbationAndEpochs :
    (∃ a, applied.cfg.apply = some a ∧ a.kind = 0 ∧ a.phase = 3 ∧ applied.rd Reg.SUP_CFGSTAT_STATE = 4 ∧ applied.cfg.dev < 2 ∧ a.prob ≠ 0 ∧ applied.cfg.due = [] ∧ applied.cfg.old03 = none ∧
      a.frm = some (image, {}) ∧ a.edits = [] ∧ image.dir = a.img.dir ∧ applied.fuses.suiteP = true ∧
      (applied.cfg.secs.s0f.map (·.outCrc)).getD 0 = ((({} : Secs)).s0f.map (·.outCrc)).getD 0 ∧ Roomy applied) ∧
    (Takes loaded 0x0203 ∧ loaded.rd Reg.SUP_CFGSTAT_STATE ≠ 5) ∧
    (Takes probation 0x0203 ∧ Takes probation 0x0204 ∧ probation.rd Reg.SUP_CFGSTAT_STATE = 5 ∧ probation.cfg.dev < 2 ∧ Roomy probation ∧
      probation.cfg.before = some (image, {}) ∧ probation.cfg.image = some image ∧ probation.cfg.edited = [] ∧ probation.cfg.due = [] ∧ probation.cfg.probEnd.getD 0 ≤ probation.up ∧
      (probation.cfg.secs.s0f.map (·.outCrc)).getD 0 = ((({} : Secs)).s0f.map (·.outCrc)).getD 0) ∧
    (draining.key.engs = [] ∧ draining.hbr.waiting = [] ∧ draining.rd Reg.HBR_CNT2_EPAB < 2 ^ 8) ∧
    (let s := { base with hbr := { base.hbr with waiting := [.win7 1] } }
     s.key.engs = [] ∧ s.hbr.waiting = [.win7 1] ∧ oldFabric s = false) := by
  unfold Takes Roomy
  exact ⟨⟨_, rfl, by decide +kernel⟩, by decide +kernel, by decide +kernel, by decide +kernel, by decide +kernel⟩

/-- One command slot at CI 255. -/
def slotAt (c : CmdSlot) : State := { withRegs [(Reg.MBX_CMDPI, 256), (Reg.MBX_CMDCI, 255)] with mbx := { base.mbx with cmds := [(255, c)] } }

theorem wit_MailboxRegisters :
    (Writable base 0 20 ∧ base.rd Reg.MBX_OWNER_PATH = 0 ∧ (256 + 2 ^ 32 - base.rd Reg.MBX_CMDCI) % 2 ^ 32 ≤ 256 ∧
      256 < (257 + 2 ^ 32 - base.rd Reg.MBX_CMDCI) % 2 ^ 32 ∧ (withRegs [(Reg.MBX_OWNER_PATH, 4)]).rd Reg.MBX_OWNER_PATH ≠ 0) ∧
    (∀ ring ∈ [Ring.rsp, Ring.rpt, Ring.ev], let s := withRegs [((ringRegs ring).1, 2)]
      Writable s 0 20 ∧ (2 + 2 ^ 32 - s.rd (ringRegs ring).2) % 2 ^ 32 ≤ unread s (ringRegs ring).1 (ringRegs ring).2 ∧ s.mbx.ovfl = [] ∧
        unread s (ringRegs ring).1 (ringRegs ring).2 < (3 + 2 ^ 32 - s.rd (ringRegs ring).2) % 2 ^ 32) ∧
    ((4#32).toNat % 8 < 5 ∧ 5 ≤ (5#32).toNat % 8) ∧
    (∀ c ∈ [(⟨0x0101, 1, 0, 0, 2, []⟩ : CmdSlot), ⟨0x0101, 1, 249, 0, 1, []⟩, ⟨0x0101, 1, 0, 1, 1, []⟩, ⟨0x00FF, 1, 248, 0, 1, []⟩, ⟨0x0101, 1, 248, 0, 1, []⟩],
      (slotAt c).canTake = true ∧ (slotAt c).rd Reg.MBX_CMDPI ≠ (slotAt c).rd Reg.MBX_CMDCI ∧
        (slotAt c).mbx.cmds.get? ((slotAt c).rd Reg.MBX_CMDCI % 256) = some c) ∧
    0x00FF ∉ codes ∧ 0x0101 ∈ codes := by
  unfold Writable; decide +kernel

/-- Window 7 of 4 KiB in lane mode 2, open to path 0, lockable. -/
def windowed : State :=
  withRegs [(Reg.HBR_WIN_POL_EN 7, 1), (Reg.HBR_WIN_POL_RD 7, 1), (Reg.HBR_WIN_POL_WR 7, 1), (Reg.HBR_WIN_POL_LOCK 7, 1), (Reg.HBR_WIN_POL_LANE 7, 2),
    (Reg.HBR_WIN_POL_PATH 7, 1), (Reg.HBR_WIN_MAP_BASE 7, 1), (Reg.HBR_LKADDR_WIN, 7), (Reg.HBR_LKADDR_LINE, 63)]
/-- Its last line locked, with one held byte. -/
def locked : State := { windowed with hbr := { base.hbr with sides := [(0, { lock := some ⟨0, 127, [(0, 8191, 0xAB)]⟩ })] } }
/-- Crossing windows 2 (to half A's LPDDR5) and 6 (to half B's) of 4 KiB, writable and lockable. -/
def crossed : State :=
  withRegs ([2, 6].flatMap fun w => [(Reg.BRC_XWIN_POL_EN w, 1), (Reg.BRC_XWIN_POL_WR w, 1), (Reg.BRC_XWIN_POL_LOCK w, 1)])

theorem wit_WindowsAndLock :
    (windowed.runs 1 = true ∧ Mem.wf 0 windowed.hbr.ddr = true ∧ windowed.hbr.lp = [] ∧ windowed.hbr.sides = [] ∧ pathOpen windowed 0 = true ∧ pathOpen windowed 1 = true ∧
      winVerdict windowed 0 7 4080 16 false = 0 ∧ winVerdict windowed 0 7 4081 16 false = 2 ∧
      winVerdict windowed 0 6 0 4 false = 2 ∧ winVerdict windowed 0 7 0 4096 true = 0 ∧ (windowed.side 0).lock = none ∧ 9 ≤ 16 ∧ 7 < 8 ∧
      winVerdict windowed 1 7 0 4 true = 1 ∧ Roomy windowed ∧ windowed.hbr.denyAt.get? 7 ≠ some windowed.sec) ∧
    (locked.runs 1 = true ∧ Mem.wf 0 locked.hbr.ddr = true ∧ winVerdict locked 0 7 4032 64 true = 0 ∧
      locked.hbr.sides = [(0, { lock := some ⟨0, 127, [(0, 8191, 0xAB)]⟩ })] ∧ locked.hbr.late = [] ∧ (locked.side 0).lock = some ⟨0, 127, [(0, 8191, 0xAB)]⟩ ∧
      ∀ i, i < 64 → (winBase locked 7 + laneMap (locked.rd (Reg.HBR_WIN_POL_LANE 7)) (4032 + i)) / 64 = 127) ∧
    (Writable windowed 0 19 ∧ winOpen windowed (windowed.rd Reg.HBR_LKADDR_WIN) = true ∧ windowed.rd (Reg.HBR_WIN_POL_LOCK (windowed.rd Reg.HBR_LKADDR_WIN)) = 1) ∧
    (Writable base 0 19 ∧ winOpen base (base.rd Reg.HBR_LKADDR_WIN) = false) ∧ (Writable locked 0 19 ∧ (locked.side 0).lock.isSome = true) ∧
    ∀ side, side = 1 ∨ side = 2 → crossed.runs (side + 1) = true ∧ crossed.runs (4 - side) = true ∧ crossed.hbr.sides = [] ∧ 2 ^ 35 - 8 + 8 ≤ 2 ^ 35 ∧
      (let w := 4 * (2 - side) + 2
       w < 8 ∧ xVerdict crossed side w 4092 4 true = 0 ∧ (crossed.side side).lock = none ∧ xwinOpen crossed w = true ∧ w / 4 = 2 - side ∧
         crossed.rd (Reg.BRC_XWIN_POL_LOCK w) = 1) := by
  unfold Writable Roomy
  refine ⟨by decide +kernel, by decide +kernel, by decide +kernel, by decide +kernel, by decide +kernel, ?_⟩
  rintro side (rfl | rfl) <;> decide +kernel

/-- Window 7 open to path 4, tunnel slot 3 enabled with key slot 9 of unlimited use. -/
def tunnelled : State :=
  { windowed.wrs [(Reg.HBR_WIN_POL_PATH 7, 16), (Reg.HBR_TUN_EN 3, 1), (Reg.HBR_TUN_KSLOT 3, 9)] with
      key := { base.key with slots := [(9, ⟨0xFFFF, 3, 0xFFFF, 0xFFFFFFFF, false, 1, 7⟩)] } }
/-- A datagram of one record, its MAC under key 9. -/
def tunReq (r : TunRec) : TunReq :=
  let q : TunReq := ⟨0x0A000001, 5000, 1, 3, 1, [r], true, false, []⟩
  { q with mac := hmac (be 32 7) (requestBytes q) }
/-- A read of the last four bytes of window 7, and a write of no defined space. -/
def tunRead : TunReq := tunReq ⟨3, 4, 4, 7 * 0x2000000 + 4092, []⟩
def tunBad : TunReq := tunReq ⟨2, 3, 4, 0, []⟩
/-- A register-class read that holds the channel of the host bridge, another and a write of address 8 behind it in the far queue. -/
def farRead : BrRead := ⟨none, 0, 0, 0, 0, 0, 8⟩
def queued : State :=
  { base with hbr := { base.hbr with sides := [(0, { chan := some farRead, txns := [⟨some 7, 0, 0, 0, 0, 0, 64⟩], far := [.read farRead, .write 0 0 [(8, 1)]] })] } }

theorem wit_RegisterWritesAndTunnel :
    (0x14FFFF < 0x150000 ∧ 0x150000 % 4 = 0 ∧ 2 % 4 ≠ 0 ∧ pathOpen base 0 = true ∧ base.pwr.perst = false) ∧
    ((queued.side 0).chan = some farRead ∧ (queued.side 0).wait = [] ∧ queued.runs 1 = true ∧
      (∃ x, queued.hbr.sides = [(0, x)] ∧ x.far = [.read farRead, .write 0 0 [(8, 1)]] ∧ x.lock = none) ∧ Mem.wf 0 queued.hbr.ddr = true ∧
      (queued.side 0).txns.find? (·.tag = some 6) = none ∧ (queued.side 0).txns.find? (·.tag = some 7) = some ⟨some 7, 0, 0, 0, 0, 0, 64⟩) ∧
    (0x14FFFC ≤ 0x14FFFF ∧ 0x14FFFC % 4 = 0 ∧ pathOpen base 4 = true ∧ blockRuns base (0x14FFFC / 0x10000) = true ∧ pathMay base 4 (0x14FFFC / 0x10000) = false) ∧
    (Writable base 0 10 ∧ Writable base 0 3 ∧ Writable base 0 0 ∧ base.runs 1 = true ∧ 0x14FFFC / 0x10000 ≤ 20 ∧ blockDom (0x14FFFC / 0x10000) ≠ 0) ∧
    (tunCheck base tunRead = some 2 ∧ base.runs 1 = true ∧ tunnelled.runs 1 = true ∧ tunCheck tunnelled { tunRead with mac := [] } = some 5 ∧ Roomy base ∧ Roomy tunnelled ∧
      tunnelled.hbr.rejAt.get? 3 ≠ some tunnelled.sec) ∧
    (tunCheck tunnelled tunRead = none ∧ ((tunnelled.key.slots.get? (tunnelled.rd (Reg.HBR_TUN_KSLOT 3))).map (·.uses)) = some 0xFFFFFFFF ∧ tunRead.recs.length = 1 ∧
      recWellFormed (tunRead.recs.getD 0 ⟨0, 0, 0, 0, []⟩) = true ∧ winVerdict tunnelled (3 + 1) 7 4092 4 false = 0) ∧
    (tunCheck tunnelled tunBad = none ∧ tunBad.recs = [⟨2, 3, 4, 0, []⟩] ∧ recWellFormed ⟨2, 3, 4, 0, []⟩ = false ∧ 2 % 2 = 0) := by
  unfold Writable Roomy
  exact ⟨by decide +kernel, ⟨by decide +kernel, by decide +kernel, by decide +kernel, ⟨_, rfl, by decide +kernel⟩, by decide +kernel, by decide +kernel,
    by decide +kernel⟩, by decide +kernel, by decide +kernel, by decide +kernel, by decide +kernel, by decide +kernel⟩

theorem wit_TimebaseCompareAndPps :
    (Writable base 0 2 ∧ base.rd Reg.RTC_CTL_ARM = 0 ∧ 3 < 4 ∧ 4 ≤ 4) ∧
    (let s := withRegs [(Reg.TB_CMP_CTL_ARM 3, 1)]; Writable s 0 2 ∧ s.rd Reg.RTC_CTL_ARM = 0 ∧ s.rd (Reg.TB_CMP_CTL_ARM 3) = 1) ∧
    (blockRuns base 2 = true ∧ base.pwr.perst = false ∧ base.tb.ppsFrozen = none ∧ { base.tb with ppsFrozen := some 1 }.ppsFrozen = some 1) ∧
    (let s := withRegs [(Reg.TB_CMP_CTL_ARM 31, 1)]
     s.runs 5 = true ∧ s.rd (Reg.TB_CMP_CTL_ARM 31) = 1 ∧ cmpReached s 31 = true) ∧
    (let s := withRegs [(Reg.TB_CMP_CTL_ARM 3, 1), (Reg.RTC_CTL_ARM, 1), (Reg.RTC_CTL_RELSRC, 1), (Reg.RTC_CTL_RELCMP, 3)]
     s.runs 5 = true ∧ s.rd (Reg.TB_CMP_CTL_ARM 3) = 1 ∧ cmpReached s 3 = true ∧ s.rd Reg.RTC_CTL_ARM = 1 ∧ s.rd Reg.RTC_CTL_RELSRC = 1 ∧
       s.rd Reg.RTC_CTL_RELCMP = 3) ∧
    (999 < 1000 ∧ base.rd Reg.TB_PPSCFG_INDLY ≤ 0 ∧ base.tb.setPps = none ∧ base.rd Reg.TB_CFG_SRC ≠ 1) ∧
    (let s := withRegs [(Reg.RTC_CTL_ARM, 1), (Reg.RTC_CTL_RELSRC, 2)]
     s.runs 5 = true ∧ s.rd Reg.TB_CFG_SRC ≠ 1 ∧ s.rd Reg.RTC_CTL_ARM = 1 ∧ s.rd Reg.RTC_CTL_RELSRC = 2 ∧ s.tb.setPps = none) ∧
    (let s := { withRegs [(Reg.TB_CFG_SRC, 1)] with tb := { base.tb with ppsIn := some 0, q := 2, lockRun := 7 } }
     s.runs 5 = true ∧ s.rd Reg.TB_CFG_SRC = 1 ∧ s.rd Reg.RTC_CTL_ARM = 0 ∧ s.tb.ppsIn = some 0 ∧ Roomy s ∧ s.tb.setPps = none ∧
       10000 < ((1000010001 : Int) - s.rd Reg.TB_PPSCFG_INDLY - 0 - 1000000000).natAbs ∧
       ((1000000200 : Int) - s.rd Reg.TB_PPSCFG_INDLY - 0 - 1000000000).natAbs ≤ 10000 ∧ s.tb.q = 2 ∧ s.tb.lockRun = 7 ∧ s.tb.lockOmit = false ∧
       (ppsOffset (1000000200 - s.rd Reg.TB_PPSCFG_INDLY)).natAbs ≤ 200) ∧
    (let s := { withRegs [(Reg.TB_CFG_SRC, 1)] with tb := { base.tb with ppsIn := some 0, q := 4, ns := 1500000000 } }
     s.runs 5 = true ∧ s.rd Reg.TB_CFG_SRC = 1 ∧ s.tb.ppsIn = some 0 ∧ 0 + 1500000000 ≤ s.tb.ns ∧ s.tb.q = 4 ∧ Roomy s) ∧
    (base.runs 5 = true ∧ base.tb.ns % 1000000000 < 3 ∧ base.cfg.due = []) := by
  unfold Writable Roomy; decide +kernel

theorem wit_ServoMasterAndQuality :
    (base.runs 5 = true ∧ base.rd Reg.TB_CFG_SRC = 0 ∧ base.cfg.due = [] ∧ ∀ p ∈ base.tb.ann, p.1 = base.tb.port) ∧
    (let s := { base with tb := { base.tb with port := 4, q := 2, lockRun := 7, lockOmit := false } }
     s.runs 5 = true ∧ s.rd Reg.TB_CFG_SRC = 0 ∧ s.tb.port = 4 ∧ Roomy s ∧ s.tb.q = 2 ∧ s.tb.lockRun = 7 ∧ s.tb.lockOmit = false ∧
       (ptpOffset s 4 1000000 0 1000000 200).natAbs ≤ 200 ∧ 200 < (ptpOffset s 4 1000000 0 1000000 201).natAbs) ∧
    (let s := { base with tb := { base.tb with port := 4, q := 1, lockRun := 7, lockOmit := true, lastOff := some 1000200, ns := 1000000 } }
     s.runs 5 = true ∧ s.rd Reg.TB_CFG_SRC = 0 ∧ s.tb.port = 4 ∧ Roomy s ∧ s.tb.q ≤ 1 ∧ s.tb.lockRun = 7 ∧ s.tb.lockOmit = true ∧
       s.tb.lastOff = some 1000200 ∧
       (let off := ptpOffset s 4 1000000 0 0 0
        1000000 ≤ off.natAbs ∧ (off - 1000200).natAbs ≤ 200 ∧ off ≤ s.tb.ns ∧ (s.tb.ns : Int) - off < 2 ^ 64)) ∧
    (let s := { base with tb := { base.tb with port := 4, q := 4, lossRun := 7 } }
     s.runs 5 = true ∧ s.rd Reg.TB_CFG_SRC = 0 ∧ s.tb.port = 4 ∧ Roomy s ∧ s.tb.q = 4 ∧ s.tb.lossRun = 7 ∧ 1000 < (ptpOffset s 4 1001 0 0 0).natAbs) ∧
    (let s := { withRegs [(Reg.TB_CFG_HOLDLIM, 60)] with tb := { base.tb with q := 3, ns := 60000000000 } }
     s.runs 5 = true ∧ s.tb.q = 3 ∧ s.tb.qSince + s.rd Reg.TB_CFG_HOLDLIM * 1000000000 ≤ s.tb.ns ∧ Roomy s) ∧
    (let s := base.setDom 5 1; mayRun s = true ∧ s.dom 5 = 1 ∧ s.cfg.due = [] ∧ s.runs 1 = true ∧ Roomy s) ∧
    (let s := (base.setDom 5 1).setDom 1 1; mayRun s = true ∧ s.dom 5 = 1 ∧ s.cfg.due = [] ∧ s.runs 1 = false) := by
  unfold Roomy; decide +kernel

/-! ### RTC and UTC, radio, air -/

theorem wit_RtcUtcAndTimeCommands :
    (Writable base 0 3 ∧ base.rd Reg.RTC_CTL_HALT = 0 ∧
      (let s := withRegs [(Reg.RTC_CTL_ARM, 1)]; s.rd Reg.RTC_CTL_ARM = 1 ∧ Writable s 0 3) ∧
      (let s := withRegs [(Reg.RTC_STAT_HALTED, 1), (Reg.RTC_CTL_HALT, 1), (Reg.RTC_CTL_RELSRC, 2)]
       base.pwr.perst = false ∧ s.rd Reg.RTC_STAT_HALTED = 1 ∧ s.rd Reg.RTC_CTL_HALT = 1 ∧ s.rd Reg.RTC_CTL_RELSRC = 2 ∧ Writable s 0 3)) ∧
    (Roomy base ∧ base.tb.rtcEpoch.valid = false ∧ { base.tb with q := 4 }.q = 4 ∧
      ((base.wr Reg.RTC_OPSEC_OPSEC 10).tb.opsecSaved + 10 ≤ (base.wr Reg.RTC_OPSEC_OPSEC 10).opsec)) ∧
    (base.runs 5 = true ∧ 1000000000 < 2 ^ 64) ∧
    (let s := { withRegs [(Reg.TB_QUAL_LEAP, 1), (Reg.TB_QUAL_UTCOFF, 37)] with tb := { base.tb with ns := (86400 * 20000 + 38) * 1000000000 } }
     s.runs 5 = true ∧ s.rd Reg.TB_QUAL_LEAP = 1 ∧ ((s.sec : Int) - (toS 16 (s.rd Reg.TB_QUAL_UTCOFF) + 1)) % 86400 = 0 ∧
       -32768 ≤ toS 16 (s.rd Reg.TB_QUAL_UTCOFF) + 1 ∧ toS 16 (s.rd Reg.TB_QUAL_UTCOFF) + 1 ≤ 32767) ∧
    (let s := { withRegs [(Reg.TB_QUAL_LEAP, 2), (Reg.TB_QUAL_UTCOFF, 37)] with tb := { base.tb with ns := (86400 * 20000 + 36) * 1000000000 } }
     s.runs 5 = true ∧ s.rd Reg.TB_QUAL_LEAP = 2 ∧ ((s.sec : Int) - (toS 16 (s.rd Reg.TB_QUAL_UTCOFF) + -1)) % 86400 = 0) ∧
    (let s := { base with cfg := { base.cfg with secs := { s02 := some { sec02 base with validUntil := 5184000 } } } }
     s.runs 5 = true ∧ (sec02 s).validUntil ≠ 0 ∧ ((sec02 s).validUntil : Int) ≤ utcSec s + 5184000) ∧
    (Takes base 0x0301 ∧ Takes base 0x0302 ∧ base.tb.setPps = none ∧ 1 % 1000000000 ≠ 0 ∧ base.tb.q < 3 ∧ 1000000000 % 1000000000 = 0 ∧ (0 ≠ 1 ∧ 0 ≠ 2)) ∧
    (let s := { base with tb := { base.tb with q := 3 } }; Takes s 0x0302 ∧ s.tb.setPps = none ∧ 3 ≤ s.tb.q) ∧
    (let s := { base with tb := { base.tb with setPps := some (9, 1000000000, 0), ns := 2000000000 }, mbx := { base.mbx with prog := [(0x0302, 9)] } }
     s.tb.setPps = some (9, 1000000000, 0) ∧ (0x0302, 9) ∈ s.mbx.prog ∧ 0 + 2000000000 ≤ s.tb.ns) := by
  unfold Writable Takes Roomy; refine ⟨?_, ?_, ?_, ?_, ?_, ?_, ?_, ?_, ?_⟩ <;> decide +kernel

/-- Every channel allowed. -/
def radioSec : Sec03 := ⟨1, 2 ^ 512 - 1, 0, 400, 4, 8, 60, 160, -95, 0, 10, 100, 3, [], 0, [(1, 3)]⟩
def rosterRec : RosterRec := ⟨99, 5, false, true, false, 0, 0xFF, 100, 200, 0xFFFF, 0, [], []⟩
/-- A node of home channel 100 that shares a link key. -/
def node5 : Node := { rcd := rosterRec, home := 100, alt := 200, howl := none, rchs := [], tsc := 0, lkey := some ⟨7, 7, 0⟩ }
/-- A module on air with node 5 on its roster. -/
def segment : State :=
  { withRegs [(Reg.RAD_STAT_CH0OK, 1), (Reg.RAD_STAT_CH1OK, 1), (Reg.RAD_STAT_TXON, 1), (Reg.RAD_TXLIM_CCAP, 400), (Reg.RAD_TXLIM_RSVACK, 4), (Reg.RAD_TXLIM_TRAINMAX, 8)] with
      rad := { base.rad with grid := true }, lnt := { base.lnt with nodes := [(5, node5)] },
      cfg := { base.cfg with secs := { base.cfg.secs with s03 := some radioSec } }, tb := { base.tb with ns := 1000000000000 } }
/-- Node 5 as given. -/
def withNode (d : Node) : State := { segment with lnt := { segment.lnt with nodes := [(5, d)] } }
/-- A frame of node 5 of the given type that passes every check, its stamp 1000 s. -/
def frameOf (typ : Nat) : RxFrame :=
  { chan := 100, rssi := 60, t := 1000000183024, phrResv := false, len := 40, fcsOk := true, typ := typ, pver := 1, sec := true, ar := true, rt := false,
    up := true, resv := false, seq := 3, dst := 0xFFFFFE, src := 5, fcnt := 1, keyid := 0, hops := 0, idx := 0, relays := [], orig := 0xFFFFFE, euiOk := true, micOk := true }
/-- A transmit request at channel 511, from 10 to 20. -/
def txReq (c : TxCls) : TxReq := ⟨1, 511, c, 10, 20, 1000, 0, []⟩

theorem wit_EnginesAndTransmission :
    (segment.runs 4 = true ∧ Roomy segment ∧ segment.rad.air = [] ∧ segment.rd (chainOk 0) ≠ 0 ∧ segment.rd (chainOk 1) ≠ 0) ∧
    (segment.rad.grid = true ∧ slotOf segment 541 = some 31 ∧ isDark segment (32 * (541 / 34) + 31) = false ∧ freeSpares segment (541 / 34) = [542, 543] ∧
      segment.sup.tally.length < 8000 ∧ 543 < 544 ∧ 543 ∈ freeSpares segment (543 / 34)) ∧
    (let s := { segment with rad := { segment.rad with failed := [542, 543] } }
     s.rad.grid = true ∧ slotOf s 541 = some 31 ∧ isDark s (32 * (541 / 34) + 31) = false ∧ freeSpares s (541 / 34) = [] ∧ Roomy s) ∧
    (segment.rd (Reg.PACK_CL_CCMFAIL 15) = 0 ∧ segment.rd (Reg.PACK_CL_CCMFAIL (15 ^^^ 1)) = 0 ∧
      (segment.wr (Reg.PACK_CL_CCMFAIL 14) 1).rd (Reg.PACK_CL_CCMFAIL (15 ^^^ 1)) = 1) ∧
    (let s := { segment with rad := { segment.rad with pend := [txReq .train] } }
     s.runs 4 = true ∧ QuietLink s ∧ s.rad.pend = [txReq .train] ∧ 9 < (txReq .train).earliest ∧ (txReq .train).latest < 21 ∧ (txReq .train).earliest ≤ 20 ∧
       20 ≤ (txReq .train).latest ∧ s.fuses.region = 1 ∧ s.rd Reg.RAD_STAT_SETTLE = 0 ∧ s.rd Reg.RAD_STAT_CAL = 0 ∧ s.rd Reg.RAD_STAT_DRAIN = 0 ∧
       s.rd Reg.RAD_STAT_THROT = 0 ∧ s.rad.air.length < maxCar s ∧
       s.rad.air.length - (s.rad.air.filter fun c => c.req.cls = .ack).length < maxCar s - min (s.rd Reg.RAD_TXLIM_RSVACK) (maxCar s / 2) ∧
       (s.rad.air.filter fun c => c.req.cls = .train).length < s.rd Reg.RAD_TXLIM_TRAINMAX ∧ (∀ c ∈ s.rad.air, c.req.chan ≠ (txReq .train).chan) ∧
       bit (sec03 s).mask (txReq .train).chan = true) ∧
    (let s := { segment.wr Reg.RAD_STAT_SETTLE 1 with rad := { segment.rad with pend := [txReq .ack] } }
     s.runs 4 = true ∧ QuietLink s ∧ s.rad.pend = [txReq .ack] ∧ s.rd Reg.RAD_STAT_SETTLE = 1) ∧
    (let s := { segment with rad := { segment.rad with air := [⟨txReq .sync, 1020, 200, 0⟩] } }
     s.runs 4 = true ∧ QuietLink s ∧ s.rad.air.find? (·.req.id = 1) = some ⟨txReq .sync, 1020, 200, 0⟩ ∧ s.rad.air.length ≤ 32) := by
  unfold Roomy QuietLink; refine ⟨?_, ?_, ?_, ?_, ?_, ?_, ?_⟩ <;> decide +kernel

/-- `segment` with the given radio registers, CAL_NOW with TAG 9 waiting or not. -/
def calState (l : List (Fld × Nat)) (tag : Option Nat) : State :=
  { segment.wrs l with rad := { segment.rad with calTag := tag, calBad := [(0, 2)] }, mbx := { base.mbx with prog := [(0x0403, 9)] } }

theorem wit_CalibrationAndRadioCommands :
    (segment.runs 4 = true ∧ QuietLink segment ∧ Roomy segment) ∧
    (let s := calState [(Reg.RAD_STAT_SETTLE, 1)] none
     s.runs 4 = true ∧ s.rd Reg.RAD_STAT_SETTLE = 1 ∧ s.rad.calWant = false ∧ s.rad.calTag = none ∧
       s.rad.calFrom + s.rd Reg.RAD_CAL_CALPER * 1000000000 ≤ 1000000000000 ∧ Takes s 0x0403) ∧
    (let s := calState [(Reg.RAD_STAT_SETTLE, 1)] (some 9); s.runs 4 = true ∧ s.rd Reg.RAD_STAT_SETTLE = 1 ∧ s.rad.calTag ≠ none ∧ Takes s 0x0403) ∧
    (segment.rad.calFrom + segment.rd Reg.RAD_CAL_CALPER * 1000000000 ≤ 1000000000000 ∧ segment.rd Reg.RAD_STAT_SETTLE = 0 ∧
      segment.rd Reg.RAD_STAT_DRAIN = 0 ∧ segment.rd Reg.RAD_STAT_CAL = 0 ∧ segment.rad.calTag = none) ∧
    (let s := calState [(Reg.RAD_STAT_DRAIN, 1)] none; s.runs 4 = true ∧ s.rd Reg.RAD_STAT_DRAIN = 1 ∧ s.rad.horizon ≤ 0 ∧ s.rad.air = []) ∧
    (let s := calState [(Reg.RAD_STAT_CAL, 1)] none
     s.rad.calAt + 180000 ≤ 1000000000000 ∧ s.runs 4 = true ∧ s.rd Reg.RAD_STAT_CAL = 1 ∧ s.rad.calTag = none ∧ s.rad.calBad.getD 0 0 = 2 ∧ s.rd Reg.RAD_STAT_CH0OK = 1 ∧ Roomy s) ∧
    (let s := calState [(Reg.RAD_STAT_CAL, 1)] (some 9)
     s.rd Reg.RAD_STAT_CAL = 1 ∧ s.rad.calTag = some 9 ∧ (0x0403, 9) ∈ s.mbx.prog) ∧
    (Takes segment 0x0403 ∧ Takes segment 0x0401 ∧ Takes segment 0x0402 ∧ (1 ≤ 120 ∧ 120 ≤ 120 ∧ 392 + 120 ≤ 512) ∧ 120 < 121 ∧ 512 < 393 + 120) := by
  unfold QuietLink Takes Roomy; refine ⟨?_, ?_, ?_, ?_, ?_, ?_, ?_, ?_⟩ <;> decide +kernel

def bark5 : Bark := ⟨1000000000 % 2 ^ 48, 100, 0, 0, false, false, true, false, false, 1, 0, 0, 0, 0⟩
/-- A frame of the host under TAG 77 that waits for its ACK on channel 100. -/
def sent : DlFrame := { src := .host 77, cmd := false, op := 0x10, body := [], stage := .ack, seq := some 3, chan := 100, tries := 4, stop := 999999000000 }
def ack5 : AckFrame := ⟨100, 60, 1000000183024, false, 9, true, 1, true, false, false, 3, 1000000000 % 2 ^ 32⟩

theorem wit_AirReception :
    (QuietLink segment ∧ hears segment 100 (stamped segment (frameOf 0)).t = true ∧ hears base 100 0 = false ∧ ∃ a b c, uplinkRow (.uplinkStatus (frameOf 0) a b c) = some (frameOf 0)) ∧
    (255 < 256 ∧ 5 ≤ (frameOf 0).len ∧ (frameOf 0).phrResv = false ∧ (frameOf 0).fcsOk = true ∧ headerOk (frameOf 0) 0 = true ∧ headerOk { frameOf 0 with keyid := 1 } 0 = false ∧
      segment.node 6 = none ∧ headerOk { frameOf 0 with src := 6 } 0 = true ∧ headerOk { frameOf 0 with euiOk := false } 0 = true ∧ segment.lnt.unkAt = none ∧ Roomy segment) ∧
    ((let f := stamped segment (frameOf 0); rxNode segment f 0 = (segment, some node5) ∧ rxNode segment { f with fcnt := 0 } 0 = (segment, some node5)) ∧ (frameOf 0).micOk = true ∧ node5.lkey ≠ none ∧ node5.authAt = none ∧ node5.lastRx ≠ some (3, 0) ∧ 0 ≤ node5.rx) ∧
    (let d := { node5 with lastRx := some (3, 1), rx := 1 }
     let f := stamped (withNode d) { frameOf 0 with rt := true, hops := 1, idx := 1, relays := [7] }
     rxNode (withNode d) f 0 = (withNode d, some d) ∧ QuietLink (withNode d) ∧ f.micOk = true ∧ d.lastRx = some (f.seq, f.fcnt) ∧ f.rt = true ∧
       bit (sec03 (withNode d)).mask f.chan = true) ∧
    (Accepted segment (stamped segment (frameOf 2)) 2 node5 ∧ bark5.tsc ≤ 6 ∧ node5.due = [] ∧ luxNode segment 5 = none ∧ bit node5.lux.faults 16 = false ∧ node5.slost = false ∧
      node5.unreach = false ∧ bark5.tunk = false ∧ bark5.tsc = node5.rcd.tsc ∧ max 1 bark5.pvmax = node5.pvmax ∧ node5.seenAt = none ∧ Reportable segment ∧
      (toS 48 ((bark5.ntime48 + 2 ^ 48 - (stamped segment (frameOf 2)).t / 1000 % 2 ^ 48) % 2 ^ 48)).natAbs ≤ (sec03 segment).timeTol * 1000) ∧
    (let d := { node5 with q := [sent] }
     let s := withNode d
     let a : AckFrame := { ack5 with t := rxStamp s ack5.t }
     OneFrame s 5 d sent ∧ sent.stage = .ack ∧ sent.src = .host 77 ∧ sent.cmd = false ∧ d.rcd.hops = 0 ∧ Reportable s ∧ hears s a.chan a.t = true ∧
       sent.chan = a.chan ∧ sent.seq = some a.seq ∧ a.phrResv = false ∧ a.len = 9 ∧ a.fcsOk = true ∧ a.pver = 1 ∧ a.up = true ∧ a.resv = false ∧
       a.t + (2 + a.len) * dataByte s / 3 ≤ sent.stop + 1400000 + ackNs s true ∧ d.slost = false ∧ bit d.lux.faults 16 = false ∧ d.due = [] ∧ luxNode s 5 = none ∧ sent.mode = .rxon ∧ sent.limit ≤ sent.tries ∧ d.unreach = false ∧
       (d.offs + toS 32 (ofS 32 ((a.ntime : Int) - ((a.t / 1000 : Nat) : Int) - d.offs))).natAbs ≤ (sec03 s).timeTol * 1000) ∧
    (let d := { node5 with q := [sent], unreach := true }
     OneFrame (withNode d) 5 d sent ∧ Reportable (withNode d) ∧ d.unreach = true) ∧
    (let c : Carrier := ⟨txReq .sync, 1020, 200, 0⟩
     let s := { segment with rad := { segment.rad with air := [c] } }
     QuietLink s ∧ s.fuses.region = 1 ∧ s.rad.air.find? (·.req.id = 1) = some c ∧ c.req.cls ≠ .ack ∧ c.req.nb < 4 ∧ 20 ≤ c.req.latest ∧ c.req.latest < 21) ∧
    (let c : Carrier := ⟨{ txReq .sync with nb := 4 }, 1020, 200, 0⟩
     let s := { segment with rad := { segment.rad with air := [c] } }
     QuietLink s ∧ s.rad.air.find? (·.req.id = 1) = some c ∧ 4 ≤ c.req.nb) ∧
    (segment.runs 1 = true ∧ (segment.lnt.nodes.map Prod.fst).Nodup ∧ segment.lnt.savedUp = none ∧
      (let s := { segment with lnt := { segment.lnt with savedUp := some 0 } }; s.lnt.savedUp = some 0 ∧ s.up < 0 + 10000000000)) ∧
    (let f := stamped segment { frameOf 3 with dst := 0xFFFFFF, ar := false, up := false }
     let s := { segment with lnt := { segment.lnt with seen := [(8, 400000000001)] } }
     rxNode s f 3 = (s, some node5) ∧ (8, 400000000001) ∈ s.lnt.seen ∧ f.micOk = true ∧ f.t < 400000000001 + 600000000000 ∧
       rxNode segment f 3 = (segment, some node5) ∧ segment.lnt.seen = []) := by
  unfold QuietLink Roomy Accepted Reportable OneFrame QuietLink
  refine ⟨⟨by decide +kernel, by decide +kernel, by decide +kernel, 0, 0, 0, rfl⟩, ?_⟩; refine ⟨?_, ?_, ?_, ?_, ?_, ?_, ?_, ?_, ?_, ?_⟩ <;> decide +kernel

/-! ### Roster, uplinks, lighting -/

/-- `segment` with an empty roster. -/
def alone : State := { segment with lnt := { segment.lnt with nodes := [] } }
/-- A howl of the host that waits for its window, and the key it goes out under. -/
def howl0 : Howl := { msgid := 8, origin := 0, tag := 77, scope := 1, group := 0, ttl := 3, deadline := none, op := 0x10, body := [], seq := 1, fcnt := 1, todo := [511], stop := 0 }
def howling (h : Howl) : State :=
  { segment with lnt := { segment.lnt with howls := [h] }, key := { base.key with slots := [(3, ⟨0xFFFF, 1, 0xFFFF, 0xFFFFFFFF, false, 1, 7⟩)] } }
/-- Frames of the host and of the module, at their stages. -/
def respFrame (rep : Bool) : DlFrame := { src := .host 77, cmd := false, op := 0x10, body := [], stage := .resp, repeated := rep }
def idleFrame : DlFrame := { src := .host 77, cmd := false, op := 0x10, body := [], deadline := some 5 }
def modFrame : DlFrame := { src := .module, cmd := false, op := 0x10, body := [] }
def retryFrame : DlFrame := { src := .host 77, cmd := false, op := 0x10, body := [], stage := .retry, again := 5 }

theorem wit_RosterAndDelivery :
    (Takes alone 0x0501 ∧ alone.lnt.nodes = [] ∧ rosterOk (sec04 alone).hchan [rosterRec] = true ∧ 5 < 6) ∧
    rosterOk (sec04 segment).hchan ([{ rosterRec with alt := 100 }].foldl (fun l r => l.filter (fun q => q.ln != r.ln) ++ [r]) (roster segment)) = false ∧
    (Takes segment 0x0502 ∧ QuietLink segment ∧ segment.node 5 = some node5 ∧ (∀ r ∈ roster segment, 5 ∉ r.relays) ∧ 80 < 81 ∧
      ∃ ln ∈ [6], segment.lnt.nodes.has ln = false) ∧
    (Takes segment 0x0503 ∧ Takes segment 0x0504 ∧ segment.node 6 = none) ∧
    (let d := { node5 with unreach := true }
     Takes (withNode d) 0x0505 ∧ (withNode d).node 6 = none ∧ (withNode d).node 5 = some d ∧ d.rcd.hops = 0 ∧ uniVer (withNode d) 5 = 1 ∧ QuietLink (withNode d) ∧
       1 ≤ (sec04 (withNode d)).dldepth ∧ (0x20 ≤ 0x24 ∧ 0x10 ≤ 0x18 ∧ 86400 ≤ 86400 ∧ 229 < 230 ∧ 229 ≤ 255)) ∧
    (let d := { node5 with q := List.replicate 16 modFrame }
     Takes (withNode d) 0x0505 ∧ (withNode d).node 5 = some d ∧ uniVer (withNode d) 5 = 1 ∧ (sec04 (withNode d)).dldepth ≤ d.q.length) ∧
    (Takes segment 0x0506 ∧ segment.lnt.howls = [] ∧ segment.lnt.used = [] ∧ ∀ p ∈ segment.lnt.nodes, p.2.tsc = 0) ∧
    (let d := { node5 with q := [modFrame] }
     Takes (withNode d) 0x0507 ∧ OneFrame (withNode d) 5 d modFrame ∧ modFrame.aired = false ∧ modFrame.stage = .idle ∧ modFrame.src = .module) ∧
    (let s := howling howl0
     s.runs 1 = true ∧ s.runs 4 = true ∧ s.lnt.howls = [howl0] ∧ howl0.todo = [511] ∧ howl0.asked = [] ∧ howl0.sent = 0 ∧ howl0.origin ≠ 2 ∧
       howl0.deadline = none ∧ mayUse s 511 = true ∧ frameNs s 4 (howlLen s howl0) + 2 * tolNs s ≤ (sec04 s).hwin * 1000000 ∧
       (sec03 s).gkeys.find? (fun g => g.1 = (sec04 s).hkey) = some (1, 3) ∧ (s.key.slots.get? 3).map (·.uses) = some 0xFFFFFFFF ∧
       keyServes s 0 3 1 .encrypt = true) ∧
    (let h := { howl0 with deadline := some (7 * (sec04 segment).hper * 1000000) }
     (howling h).lnt.howls = [h] ∧ 7 * (sec04 segment).hper * 1000000 ≤ 7 * (sec04 (howling h)).hper * 1000000) ∧
    (let h := { howl0 with todo := [] }; (howling h).lnt.howls.find? (·.msgid = h.msgid) = some h ∧ h.origin = 0 ∧ h.asked = [] ∧ h.stop + 600000000000 ≤ (howling h).tb.ns ∧ Reportable (howling h)) ∧
    (let h := { howl0 with todo := [], origin := 1 }; h.asked = [] ∧ h.stop + 600000000000 ≤ (howling h).tb.ns ∧ (howling h).lnt.howls.find? (·.msgid = h.msgid) = some h ∧ h.origin ≠ 0) ∧
    (∀ f ∈ [respFrame false, respFrame true, idleFrame, retryFrame], let d := { node5 with q := [f], unreach := true }
      OneFrame (withNode d) 5 d f ∧ f.stop + (3 + 2 * d.rcd.hops) * 1000000000 ≤ 3000000000 ∧ f.again ≤ 5) := by
  unfold Takes QuietLink OneFrame Reportable
  refine ⟨?_, ?_, ?_, ?_, ?_, ?_, ?_, ?_, ?_, ?_, ?_, ?_, ?_⟩ <;> decide +kernel

/-- A profile that switches off at noon, kept on every day by group 0; node 6 follows it. Path 0: a vehicle at node 5 lights node 6. -/
def lightSec : Sec05 :=
  ⟨-833, 180, 50, 60, 60, 1800, 0x1FFF, [(0, [⟨0, -720, 0, 0⟩])], [(0, ⟨List.replicate 7 0, []⟩)], [(6, ⟨0, 0, [0], none, 0, 0⟩)], [], [],
   [(0, ⟨[(6, 0)], [(5, 0)], 900, 0, 0, 0, 50, 0xFF, true⟩)]⟩
/-- Nodes 5 and 6, the lighting section in force. -/
def street : State :=
  { segment with lnt := { segment.lnt with nodes := [(5, node5), (6, { node5 with rcd := { rosterRec with ln := 6, eui := 98 }, unreach := true })] },
                 cfg := { segment.cfg with secs := { segment.cfg.secs with s05 := some lightSec } } }

theorem street_offset (u : Int) : localOffset street u = 0 := rfl
theorem street_local (l : Int) : utcOfLocal street l = l := by
  have h : utcOfLocal street l = l - 0 * 60 := rfl
  omega

/-- The schedule of node 6 is dark at every time. -/
theorem street_dark (t : Nat) : schedLevel street 6 t = 0 := by
  have hd : (luxDay street t) * 86400 + 43200 ≤ utcAt street t := by
    simp only [luxDay, localAt, street_offset]; omega
  have hw : dayPid ⟨List.replicate 7 0, []⟩ (luxDay street t) = some 0 := by
    simp only [dayPid, List.find?_nil]
    rw [List.getElem?_replicate, if_pos (by omega)]
  have hs : daySteps street ⟨0, 0, [0], none, 0, 0⟩ (luxDay street t) [⟨0, -720, 0, 0⟩] =
      [((luxDay street t) * 86400 + 43200, ⟨0, -720, 0, 0⟩)] := by
    have h : (luxDay street t + 1) * 86400 + -720 * 60 = luxDay street t * 86400 + 43200 := by omega
    simp only [daySteps, street_local, stepLocal, List.filterMap_cons, List.filterMap_nil, Option.map_some, h]
    rw [List.filter_cons_of_pos (by simp <;> omega)]
    rfl
  have hx : luxNode street 6 = some ⟨0, 0, [0], none, 0, 0⟩ := rfl
  have hg : primary street ⟨0, 0, [0], none, 0, 0⟩ = some ⟨List.replicate 7 0, []⟩ := rfl
  have hp : (sec05 street).profiles.get? 0 = some [⟨0, -720, 0, 0⟩] := rfl
  have hu : ¬ utcAt street t * 10 + ((t / 100000000 % 10 : Nat) : Int) < (luxDay street t * 86400 + 43200) * 10 := by omega
  simp only [schedLevel, hx, hg, levelOn, hw, Option.bind_some, hp, hs, List.head?_cons, hu, decide_false, Bool.false_eq_true, if_false, runSteps,
    List.foldl_cons, List.foldl_nil, rampAt]
  rfl

/-- A frame of node 5 that meets a feeder in the state given, the node with the lighting state given. -/
def lit (x : NodeLux) (f : Feeder) (feeder : Nat) : Node × State :=
  let d : Node := { node5 with rcd := { rosterRec with feeder := feeder }, lux := x }
  (d, { withNode d with lux := { base.lux with feeders := [(feeder, f)] } })

theorem wit_UplinkPayloads :
    (let p := lit {} {} 0xFFFF
     Accepted p.2 (stamped p.2 (frameOf 0)) 0 p.1 ∧ Reportable p.2 ∧ Roomy p.2 ∧ (p.2.feeder (feederOf p.2 5)).st = 0 ∧ (p.2.feeder (feederOf p.2 5)).lossAt = none ∧ p.1.lux.faults = 0 ∧ 12 < 13) ∧
    (let p := lit {} { st := 1 } 31
     Accepted p.2 (stamped p.2 (frameOf 0)) 0 p.1 ∧ Reportable p.2 ∧ Roomy p.2 ∧ 6 < 13 ∧ supplyDep p.1 6 = true ∧ (p.2.feeder (feederOf p.2 5)).st ≠ 0 ∧ bit p.1.lux.faults 6 = false) ∧
    (let p := lit { base := some 100 } {} 31; Accepted p.2 (stamped p.2 (frameOf 0)) 0 p.1 ∧ p.1.lux.base = some 100 ∧ 100 ≤ 100 ∧ 99 < 100) ∧
    (let p := (lit {} {} 31).2.setDom 2 1 |>.setDom 3 1
     Accepted p (stamped p (frameOf 0)) 0 (lit {} {} 31).1 ∧ Reportable p ∧ Roomy p ∧ p.runs 2 = false ∧ p.runs 3 = false ∧ (p.feeder (feederOf p 5)).uv = none) ∧
    (let p := (lit {} {} 0xFFFF).2.setDom 2 1 |>.setDom 3 1
     Accepted p (stamped p (frameOf 0)) 0 (lit {} {} 0xFFFF).1 ∧ p.runs 2 = false ∧ p.runs 3 = false ∧ 32 ≤ feederOf p 5 ∧ (p.feeder (feederOf p 5)).st = 0) ∧
    (∀ c ∈ (sec05 segment).paths.vals, ∀ x ∈ c.sensors, x.1 ≠ 5) ∧
    (Accepted street (stamped street (frameOf 0)) 0 node5 ∧ Reportable street ∧ Roomy street ∧ (sec05 street).paths.vals = [⟨[(6, 0)], [(5, 0)], 900, 0, 0, 0, 50, 0xFF, true⟩] ∧
      bit 0xFF (8 - 1) = true ∧ 6 ≠ 5 ∧ (street.node 6).map (·.unreach) = some true ∧ (street.node 6).map (·.lux.wave) = some none ∧ hushed street 6 = false ∧
      topOverride street 6 = none) ∧
    (∀ t, schedLevel street 6 t < 900) ∧
    (let d : Node := { node5 with tags := [(9, some 77)] }
     Accepted (withNode d) (stamped (withNode d) (frameOf 0)) 0 d ∧ d.tags.get? 9 = some (some 77)) ∧
    (let s := { segment with upd := { segment.upd with running := true, camp := { no := 4, members := [5], phase := 2 } } }
     Accepted s (stamped s (frameOf 0)) 0 node5 ∧ Reportable s ∧ Roomy s ∧ s.upd.running = true ∧ s.camp.no = 4 ∧ 5 ∈ s.camp.members ∧ s.camp.phase ≠ 3) := by
  unfold Reportable Roomy Accepted QuietLink
  refine ⟨?_, ?_, ?_, ?_, ?_, ?_, ?_, fun t => by rw [street_dark]; decide, ?_, ?_⟩ <;> decide +kernel

/-- An override of lantern 5, with an end or without. -/
def ovr (stop : Option Nat) : Override := ⟨0, 5, 500, 10, stop, 0, 0⟩
def overridden (stop : Option Nat) : State :=
  { withNode { node5 with unreach := true } with lux := { base.lux with ovr := [(1, ovr stop)] } }
/-- A section 0x0C. -/
def archiveSec : Sec0C := ⟨[1], 0, 1000, 0, 1, 100, 100, 100, true, true, true, 0, 10⟩

theorem wit_LightingCommands :
    (segment.runs 1 = true ∧ Takes segment 0x0601 ∧ (3 < 4 ∧ 1000 < 1001 ∧ 600 < 601 ∧ 2592000 < 2592001) ∧ 6 ∉ lanterns segment ∧ 5 ∈ lanterns segment) ∧
    (let s := { segment with lux := { base.lux with ovr := List.replicate 256 (1, ovr none) } }
     Takes s 0x0601 ∧ 5 ∈ lanterns s ∧ 256 ≤ s.lux.ovr.length) ∧
    (let d := { node5 with unreach := true }
     let s := withNode d
     s.runs 1 = true ∧ Takes s 0x0601 ∧ QuietLink s ∧ s.lux.ovr = [] ∧ (s.lnt.nodes.map Prod.fst).Nodup ∧ s.node 5 = some d ∧ d.rcd.sensor = false ∧
       hushed s 5 = false) ∧
    (Takes alone 0x0601 ∧ alone.lnt.nodes = [] ∧ alone.lux.ovr = [] ∧ alone.lnt.used = []) ∧
    (Takes alone 0x0602 ∧ (1 ≠ 0xFFFF) ∧ alone.lux.ovr.has 1 = false ∧
      let s := { alone with lux := { base.lux with ovr := [(1, ovr none)] } }
      Takes s 0x0602 ∧ s.lux.ovr = [(1, ovr none)] ∧ s.lnt.nodes = [] ∧ s.cfg.old03 = none) ∧
    (let s := overridden (some 9)
     s.runs 1 = true ∧ QuietLink s ∧ s.lux.ovr = [(1, ovr (some 9))] ∧ (ovr (some 9)).kind = 0 ∧ (s.lnt.nodes.map Prod.fst).Nodup ∧ hushed s 5 = false ∧
       (ovr (some 9)).stop = some 9) ∧
    (segment.node 6 = none ∧ Takes segment 0x0603 ∧ Takes segment 0x0606 ∧ segment.node 5 = some node5 ∧ (lit { base := some 100 } {} 31).1.lux.base = some 100 ∧
      node5.contact = none ∧ bit node5.lux.faults 16 = false ∧ (segment.feeder (feederOf segment 5)).st = 0 ∧ (segment.feeder (feederOf segment 5)).lossAt = none ∧ Roomy segment ∧
      Reportable segment) ∧
    (Takes segment 0x0604 ∧ (31 < 32) ∧ (sec05 segment).feeders.has 31 = false ∧
      (let s := { segment with cfg := { segment.cfg with secs := { segment.cfg.secs with s05 := some { lightSec with feeders := [(31, ⟨100, 0, 1, 0⟩)] } } } }
       Takes s 0x0604 ∧ (sec05 s).feeders.has 31 = true) ∧ Takes segment 0x0605 ∧ 33 < 34) ∧
    (QuietLink segment ∧ 10 ∉ segment.cfg.due ∧ ∀ p ∈ segment.lnt.nodes, p.2.lux.base = none) ∧
    (let d := { node5 with lux := { base := some 100 } }
     let s := { withNode d with cfg := { segment.cfg with secs := { segment.cfg.secs with s0c := some archiveSec } } }
     QuietLink s ∧ s.lnt.nodes = [(5, d)] ∧ d.rcd.sensor = false ∧ s.fuses.arch = true ∧ s.cfg.secs.s0c.isSome = true) ∧
    ∀ ln, luxNode segment ln = none := by
  unfold Takes QuietLink Roomy Reportable
  refine ⟨?_, ?_, ?_, ?_, ?_, ?_, ?_, ?_, ?_, ?_, fun ln => by unfold luxNode; split <;> rfl⟩ <;> decide +kernel

/-! ### The switch, its tables, subscriptions -/

/-- Ports 0, 1, 5 enabled, 1 and 5 learning; VLAN 1 has all ports, VLAN 2 none. -/
def switchSec : Sec06 :=
  ⟨[(0, ⟨true, 0, false, 0, 1⟩), (1, ⟨true, 0, true, 0, 1⟩), (5, ⟨true, 0, true, 0, 1⟩)], [(1, ⟨0x7F, 0x02, false⟩), (2, ⟨0, 0, false⟩)], [], 300, [], [1], 0xABC⟩
/-- The switch with that section and the forwarding state given. -/
def switched (f : Fwd) : State := { base with cfg := { base.cfg with secs := { base.cfg.secs with s06 := some switchSec } }, fwd := f }
/-- A frame of VLAN `v` from station 16 to `dst`, entering at port `p`. -/
def frameTo (p v dst : Nat) : SwFrame := ⟨p, true, some (v, 7), 16, dst, 0x86DD, none, false, false, 0, 2⟩
/-- The bucket of station 16 in VLAN 1, filled with the entries given. -/
def bucket (es : List MacE) : KMap MacE := es.zipIdx.map fun e => (4 * (Config.macBucket 1 16 % 16384) + e.2, e.1)
/-- Station 16 at port 5. -/
def mac16 (fixed : Bool) : MacE := ⟨1, 16, 5, fixed, 0, 0⟩
/-- Four static entries of other stations. -/
def full : List MacE := [⟨1, 17, 5, true, 0, 0⟩, ⟨1, 18, 5, true, 0, 0⟩, ⟨1, 19, 5, true, 0, 0⟩, ⟨1, 20, 5, true, 0, 0⟩]

theorem find_bucket (b : Bool) : macFind (switched { mac := bucket [mac16 b] }) 1 16 = some (4 * (Config.macBucket 1 16 % 16384), mac16 b) := by
  cases b <;> simp [macFind, macWays, ways, switched, bucket, KMap.get?, mac16, macLive, portGen, KMap.getD]

theorem find_full : macFind (switched { mac := bucket full }) 1 16 = none ∧ macFree (switched { mac := bucket full }) (macWays 1 16) = none ∧
    oldestLearned (switched { mac := bucket full }) (macWays 1 16) = none := by
  simp [macFind, macFree, oldestLearned, macWays, ways, switched, bucket, full, KMap.get?, macLive]

/-- A next hop and a prefix of length 0 that leads to it. -/
def routes : Fwd :=
  { nh := [(1, ⟨1, 5, 99⟩)], pfx := [(4 * (Config.pfxBucket 0 0 % 4096), ⟨0, 0, 1⟩)], filt := [(filtKey 0 0, 1)], lens := [(0, 1)] }

theorem find_route : lpm (switched routes) [] 0 (lensDown (switched routes)) = some (4 * (Config.pfxBucket 0 0 % 4096), ⟨0, 0, 1⟩) := by
  simp [lensDown, switched, routes, KMap.keys, lpm, topBits, pfxFind, pfxWays, ways, KMap.get?, KMap.getD]

theorem wit_SwitchingAndLinks :
    ((switched {}).runs 5 = true ∧ { frameTo 0 1 17 with fcsOk := false }.fcsOk = false ∧ (frameTo 0 1 17).fcsOk = true ∧ 0 < 6 ∧ (portCfg (switched {}) 0).en = true ∧
      partnerFrame { frameTo 5 1 0xFFFFFFFFFFFF with tag := none, etype := 0x88B5 } = true ∧ (portCfg (switched {}) 4).en = false ∧ (sec06 (switched {})).boxes = []) ∧
    (vlanRefuses (switched {}) (frameTo 0 2 17) = true ∧ (switched { mac := [(65535, mac16 true)] }).fwd.mac.has 65535 = true ∧ Roomy (switched {})) ∧
    (vlanRefuses (switched {}) (frameTo 0 1 16) = false ∧ (portCfg (switched {}) 0).learn = false ∧ 16 ≠ (sec06 (switched {})).rmac ∧ isGroup 16 = false ∧
      (mac16 true).port ≠ 0 ∧ bit (vlan (switched {}) 1).member (mac16 true).port = true ∧ (portCfg (switched {}) (mac16 true).port).en = true) ∧
    (vlanRefuses (switched {}) (frameTo 1 1 0xFFFFFFFFFFFF) = false ∧ 0xFFFFFFFFFFFF ≠ (sec06 (switched {})).rmac ∧ (portCfg (switched {}) 1).learn = true ∧
      macFind (switched {}) 1 16 = none ∧ (macFree (switched {}) (macWays 1 16)).isSome = true ∧ (mac16 true).port ≠ 1) ∧
    (let f := frameTo 0 1 0xABC
     vlanRefuses (switched routes) f = false ∧ (portCfg (switched routes) 0).learn = false ∧ f.dst = (sec06 (switched routes)).rmac ∧ f.etype = 0x86DD ∧
       1 ∈ (sec06 (switched routes)).routed ∧ 1 < f.hop ∧ (switched routes).fwd.nh.get? 1 = some ⟨1, 5, 99⟩) ∧
    (let s := { base with cfg := { base.cfg with secs := { base.cfg.secs with s06 := some { switchSec with boxes := [(0, ⟨1, 400⟩)] } } },
                          fwd := { dup := [(0, [(16, 7, 0)])] }, tb := { base.tb with ns := 399999999 } }
     boxOf s 0 = some (0, ⟨1, 400⟩) ∧ (portCfg s 0).en = true ∧ (16, 7, 0) ∈ s.fwd.dup.getD 0 [] ∧ s.tb.ns < 0 + 400 * 1000000) ∧
    ((switched {}).rd (Reg.FWD_PORTSTAT_LINK 5) = 0 ∧ (portCfg (switched {}) 5).en = true ∧
      ((switched {}).wr (Reg.FWD_PORTSTAT_LINK 5) 1).rd (Reg.FWD_PORTSTAT_LINK 5) = 1 ∧ (switched {}).fwd.sweeps.has 5 = false ∧ portGen (switched {}) 5 < 16) ∧
    (let s := { switched { sweeps := [(5, ⟨0, some 9, [3]⟩)] } with mbx := { base.mbx with prog := [(0x0705, 9)] } }
     s.runs 5 = true ∧ s.fwd.sweeps.get? 5 = some ⟨0, some 9, [3]⟩ ∧ s.fwd.waiting = [] ∧ (0x0705, 9) ∈ s.mbx.prog) ∧
    ((switched { sweeps := [(5, ⟨0, none, [3]⟩)] }).fwd.sweeps.get? 5 = some ⟨0, none, [3]⟩) ∧
    (let s := { switched { mac := [(3, mac16 false)] } with tb := { base.tb with ns := 300000000000 } }
     s.runs 5 = true ∧ s.fwd.mac.get? 3 = some (mac16 false) ∧ (mac16 false).at_ + s.rd Reg.FWD_AGE_AGE * 1000000000 ≤ s.tb.ns) ∧
    (let s := switched { shMac := [(3, mac16 true)], shMc := [(4, ⟨1, 5, 1⟩)], shPfx := [(5, ⟨0, 0, 1⟩)], shNh := [(1, ⟨1, 5, 99⟩)] }
     s.fwd.shMac.get? 3 = some (mac16 true) ∧ s.fwd.shMc.get? 4 = some ⟨1, 5, 1⟩ ∧ s.fwd.shPfx.get? 5 = some ⟨0, 0, 1⟩ ∧ s.fwd.shNh.get? 1 = some ⟨1, 5, 99⟩) := by
  unfold Roomy
  refine ⟨?_, ?_, ?_, ?_, ?_, ?_, ?_, ?_, ?_, ?_, ?_⟩ <;> decide +kernel

theorem wit_ForwardingTableCommands :
    (Takes (switched {}) 0x0703 ∧ entTable (.eui 0) ≠ 0 ∧ entOk (.mac 4095 0 0) = false ∧ entOk (.mac 1 16 6) = true ∧
      (macFree (switched {}) (macWays 1 16)).isSome = true) ∧
    (entOk (.mc 4094 (2 ^ 48 - 1) 127) = true ∧ entOk (.pfx 0 0 1) = true ∧ (switched routes).fwd.lens.has 0 = true ∧ entOk (.nh 1023 4094 5 0) = true) ∧
    ((∃ c ∈ mcWays 4094 (2 ^ 48 - 1), (switched {}).fwd.mc.has c = false) ∧ ∃ c ∈ pfxWays 0 0, (switched {}).fwd.pfx.has c = false) ∧
    (let s := switched { lens := (List.range 32).map fun i => (i + 1, 1) }
     Takes s 0x0703 ∧ s.fwd.lens.has 0 = false ∧ 32 ≤ s.fwd.lens.length ∧ pfxFind s 0 0 = none) ∧
    (Takes (switched {}) 0x0704 ∧ macFind (switched {}) 1 16 = none ∧ (switched {}).fwd.nh.has 1 = false ∧ (switched routes).fwd.nh.has 1 = true) ∧
    ((4 * (Config.pfxBucket 0 0 % 4096), (⟨0, 0, 1⟩ : PfxE)) ∈ (switched routes).fwd.pfx) ∧
    (Takes (switched {}) 0x0701 ∧ searchEnt (switched {}) (.nh 1 0 0 0) = none ∧ (searchEnt (switched routes) (.nh 1 0 0 0)).isSome = true ∧ entTable (.nh 1 0 0 0) = 3) ∧
    (Takes (switched {}) 0x0702 ∧ (4 < 5 ∧ nextLimit 0 < 15 ∧ 14 ≤ nextLimit 1 ∧ 11 ≤ nextLimit 2 ∧ 19 ≤ nextLimit 4)) ∧
    (Takes (switched {}) 0x0705 ∧ (5 < 6 ∧ 4094 < 4095) ∧ (switched {}).fwd.sweeps.has 5 = false ∧
      (switched { sweeps := [(5, ⟨0, none, []⟩)] }).fwd.sweeps.has 5 = true) := by
  unfold Takes
  refine ⟨?_, ?_, ⟨⟨_, List.mem_cons_self, rfl⟩, ⟨_, List.mem_cons_self, rfl⟩⟩, ?_, ?_, List.mem_singleton.mpr rfl, ?_, ?_, ?_⟩ <;> decide +kernel

/-- A stream and a GOOSE subscription, each authenticated or not. -/
def svSub (auth : Option (Nat × Bool)) : SvSub := ⟨5, 0x4000, 1, [65], 1, 4000, 4, 1, auth⟩
def goSub (auth : Option (Nat × Bool)) : GoSub := ⟨6, 1, 1, [66], 1, 1, auth, false⟩
/-- Both in force, the halves' domains in reset, key slot 3 without limit. -/
def subscribed (auth : Option (Nat × Bool)) (f : Fwd) : State :=
  { ((base.setDom 2 1).setDom 3 1) with
      cfg := { base.cfg with secs := { base.cfg.secs with s07 := some ⟨[(127, svSub auth)], [(255, goSub auth)], 0⟩ } }, fwd := f,
      key := { base.key with slots := [(3, ⟨0xFFFF, 3, 0xFFFF, 0xFFFFFFFF, false, 1, 7⟩)] }, tb := { base.tb with ns := 1000000000 } }
def asdu (confrev smp : Nat) : SvAsdu := ⟨1, 0, 5, 0x4000, 1, [65], confrev, 0, smp, 2, 5, 100, false, []⟩
def goMsg (seen : Bool) (confrev st sq : Nat) (macOk : Bool) : GoMsg := ⟨0, true, seen, 6, 1, 1, [66], confrev, st, sq, false, 100, 488, true, macOk, 5, [true], []⟩
def svWait : SvCopy := ⟨1, 0, 1, 5, none, false, false, none⟩

theorem wit_SubscriptionsAndGoose :
    (let s := subscribed none {}
     s.runs 5 = true ∧ s.runs 2 = false ∧ s.runs 3 = false ∧ Roomy s ∧ s.fwd.parAt = [] ∧
       (∀ a ∈ [asdu 2 0, asdu 1 4000, asdu 1 3999], (sec07 s).sv.find? (fun p => p.2.dmac = a.dmac && p.2.appid = a.appid && p.2.vid = a.vid &&
         inPorts s p.2.ports a.port && p.2.svid = a.svid) = some (127, svSub none)) ∧
       (asdu 2 0).confrev ≠ (svSub none).confrev ∧ (svSub none).rate ≤ (asdu 1 4000).smp ∧ (asdu 1 3999).smp < (svSub none).rate ∧ (svRun s 127).last = none ∧
       (∀ w ∈ (svRun s 127).wait, w.smp ≠ 3999)) ∧
    (let s := subscribed none { sv := [(127, { last := some 3999, done := [2001] })] }
     (svRun s 127).last = some 3999 ∧ 2001 ∈ (svRun s 127).done ∧ 2002 ∉ (svRun s 127).done ∧ 4000 / 2 < (2001 + 4000 - 3999) % 4000 ∧ 4000 / 2 < (2002 + 4000 - 3999) % 4000 ∧ (3999 + 4000 - 3999) % 4000 = 0 ∧ 0 < (0 + 4000 - 3999) % 4000 ∧ (1999 + 4000 - 3999) % 4000 ≤ 4000 / 2 ∧
       4000 / 2 < (2000 + 4000 - 3999) % 4000) ∧
    (let s := { (subscribed none { sv := [(127, { wait := [svWait] })] }) with
                  cfg := { base.cfg with secs := { base.cfg.secs with s07 := some ⟨[(127, svSub none)], [], 0⟩ } } }
     s.runs 5 = true ∧ s.runs 2 = false ∧ s.runs 3 = false ∧ (sec07 s).sv = [(127, svSub none)] ∧ (svSub none).auth = none ∧ (svRun s 127).wait = [svWait] ∧
       svWait.held = none ∧ s.fwd.svOld = [] ∧ 127 < 128 ∧ Roomy s) ∧
    (let s := subscribed none { go := [(255, { last := some (1, 1), ttl := 100 })] }
     s.runs 5 = true ∧ Roomy s ∧ (sec07 s).sv.has 127 = true ∧ (svRun s 127).lost = false ∧ (svRun s 127).since + 10000000 ≤ s.tb.ns ∧ s.runs 2 = false ∧
       s.runs 3 = false ∧ (s.knl 47).pkts = [] ∧ (s.knl 63).pkts = [] ∧ (sec07 s).goose.has 255 = true ∧ (goRun s 255).lost = false ∧
       (goRun s 255).last = some (1, 1) ∧ (goRun s 255).since + (goRun s 255).ttl * 1000000 ≤ s.tb.ns) ∧
    (let s := subscribed none { go := [(255, { last := some (1, 1) })] }
     (∀ m ∈ [goMsg true 1 1 2 true, goMsg false 2 1 2 true, goMsg false 1 1 1 true, goMsg false 1 1 2 true], m.fcsOk = true ∧
       (sec07 s).goose.find? (fun p => p.2.dmac = m.dmac && p.2.appid = m.appid && p.2.vid = m.vid && inPorts s p.2.ports m.port && p.2.gocb = m.gocb) = some (255, goSub none)) ∧
       (goRun s 255).last = some (1, 1) ∧ (goSub none).auth = none ∧ (goMsg false 1 1 2 true).len ≤ 488) ∧
    (let s := subscribed (some (3, true)) {}
     (goSub (some (3, true))).auth = some (3, true) ∧ keyServes s 2 3 3 .verify = true ∧ (goMsg false 1 1 2 false).macOk = false ∧
       (s.key.slots.get? 3).map (·.uses) = some 0xFFFFFFFF ∧ (goRun s 255).last = none) ∧
    (let s := subscribed none {}
     Takes s 0x0706 ∧ (1 < 2 ∧ 255 < 256 ∧ 127 < 128) ∧ (sec07 s).sv.has 126 = false ∧ (sec07 s).sv.has 127 = true ∧ (sec07 s).goose.has 255 = true) := by
  unfold Takes Roomy
  refine ⟨?_, ?_, ?_, ?_, ?_, ?_, ?_⟩ <;> decide +kernel

/-! ### Protection, the brace, leadership -/

/-- A stream input 127 of instance 191, which picks up and operates at once; a publication; feeder 31 with fault location. -/
def inst0 : Inst := ⟨1, 0, [(127, 1)], 0, 1, 0, true, [], []⟩
def floc0 : FlocCfg := ⟨[(none, 100)], [(5, 0)], 50, 2300⟩
def pub0 : PubCfg := ⟨5, 1, 1, [65], [66], 1, 1000, none, []⟩
def feedP : FeedP := ⟨0, 0, none, none, some floc0, 0⟩
def protSec : Sec08 := ⟨4000, 50, 100, 3, [(191, inst0)], [], [], [], [], [], [], 0⟩
def pubSec : Sec08 := { protSec with pubs := [(7, pub0)], feeders := [(31, feedP)] }
/-- Half 0 in IN_STEP on section `c`, leading when `lead`, with the half state given; key slot 3 serves all. -/
def halfState (c : Sec08) (lead : Bool) (x : Half) : State :=
  { withRegs [(braceFld 0, 2), (Reg.BRC_STAT_LEASH, if lead then 1 else 0)] with
      cfg := { base.cfg with secs := { base.cfg.secs with s08 := some c, s07 := some ⟨[(127, svSub (some (3, false)))], [], 0⟩ } }, half := [(0, x)],
      key := { base.key with slots := [(3, ⟨0xFFFF, 3, 0xFFFF, 0xFFFFFFFF, false, 1, 7⟩)] }, tb := { base.tb with ns := 1000000000 } }
def sample (k : Nat) : HalfSample := ⟨127, k, 1, 2, 5, []⟩
def buffered (chk : Nat) (hmac : Bool) : BufSmp := ⟨1, 0, chk, hmac, false, 5, [], []⟩
def streamAt (k chk : Nat) (hmac : Bool) : Stream := { buf := [(k, buffered chk hmac)], newest := some k }
def passRec (prov : Bool) : PassRec := ⟨9, 0, 0, [], [(191, 3, prov)], [], [], [], false, [], false⟩

theorem wit_PassesOfAHalf :
    (let s := halfState protSec false { next := some 5 }
     passing s 0 = true ∧ s.s08For 0 = some protSec ∧ 200 ≤ protSec.prate ∧ (sample 5).stream < 128 ∧ (sample 3999).smp < protSec.prate ∧
       (s.hf 0).next = some (sample 5).smp ∧ ((s.hf 0).stream 127).newest = none ∧ badChans (sample 5).chans = 0 ∧ (sample 5).synch = 2 ∧ (∀ q ∈ (s.hf 0).streams, ∀ b ∈ (q.2.buf.get? 5).toList, b.syn = 0xFFFF) ∧
       64 ≤ (69 + protSec.prate - 5) % protSec.prate ∧ (69 + protSec.prate - 5) % protSec.prate < protSec.prate / 2) ∧
    (let s := halfState protSec false { next := some 5, streams := [(127, streamAt 4 1 false)] }
     passing s 0 = true ∧ (sample 6).smp = 5 + 1 ∧ ((s.hf 0).stream 127).newest = some (5 - 1) ∧ ((s.hf 0).stream 127).buf.has 5 = false ∧
       s.rd (Reg.PR_CNT0_SYNTH 0) < 2 ^ (Reg.PR_CNT0_SYNTH 0).w - 1) ∧
    (let s := halfState protSec false { next := some 5, streams := [(127, streamAt 5 0 false)] }
     ((s.hf 0).stream 127).buf.get? 5 = some (buffered 0 false) ∧ (buffered 0 false).syn ≠ 0xFFFF ∧ (buffered 0 false).chk = 0 ∧ (∀ p ∈ (s.hf 0).hist, p.k ≠ 5) ∧
       ((sec07 s).sv.get? 126).bind (·.auth) = none ∧ ((sec07 s).sv.get? 127).bind (·.auth) = some (3, false) ∧ keyLost s 0 3 = false ∧
       keyLost { s with key := base.key } 0 3 = true) ∧
    (let s := halfState protSec false { next := some 5, streams := [(127, streamAt 5 0 true)] }
     ((s.hf 0).stream 127).buf.find? (fun p => p.2.deliv = 1 && p.2.hmac) = some (5, buffered 0 true) ∧ keyLost s 0 3 = false ∧
       (s.key.slots.get? 3).map (·.uses) = some 0xFFFFFFFF ∧ (svRun s 127).authAt = none ∧ Roomy s) ∧
    (let s := halfState protSec false { next := some 5, streams := [(127, streamAt 5 1 false)] }
     (s.hf 0).next = some 5 ∧ (s.hf 0).running = none ∧ ∀ i ∈ expected protSec, ((s.hf 0).stream i).buf.has 5 = true) ∧
    (let s := halfState protSec false { next := some 5, tk := 990000000 }
     127 ∈ expected protSec ∧ ((s.hf 0).stream 127).buf.has 5 = false ∧ (s.hf 0).tk + protSec.palign * 100000 ≤ s.tb.ns) ∧
    (let s := halfState protSec false { next := some 5, tk := 990000001 }
     ((s.hf 0).stream 127).buf.has 5 = false ∧ s.tb.ns < (s.hf 0).tk + protSec.palign * 100000) ∧
    (let s := halfState protSec false { running := some (5, 0), streams := [(127, streamAt 5 1 false)] }
     passing s 0 = true ∧ (s.hf 0).running = some (5, 0) ∧ 5 < protSec.prate ∧ (protSec.insts.map Prod.fst).Nodup ∧ s.isLead 0 = false ∧
       (elemsNext inst0 [] (s.hf 0).tk ⟨191, [], 3, none⟩).2 = 3 ∧ blockOf (s.hf 0) 191 inst0 = 0 ∧ inputsPass (s.hf 0) inst0 5 = true ∧ protSec.insts.get? 191 = some inst0 ∧ inst0.en = true) ∧
    (let s := halfState protSec false { running := some (5, 0), streams := [(127, streamAt 5 0 false)] }
     blockOf (s.hf 0) 191 inst0 = 0 ∧ inputsPass (s.hf 0) inst0 5 = false ∧
       blockOf ((halfState protSec false { running := some (5, 0), hostBlk := [191] }).hf 0) 191 inst0 ≠ 0) ∧
    (let s := halfState protSec true { running := some (5, 0), streams := [(127, streamAt 5 1 false)] }
     s.lead = some 0 ∧ passing s 0 = true ∧ protSec.insts = [(191, inst0)] ∧ protSec.outs = [] ∧ protSec.pubs = [] ∧ protSec.feeders = [] ∧ inst0.en = true ∧
       (elemsNext inst0 ((s.hf 0).insts.getD 191 {}).up (s.hf 0).tk ⟨191, [], 3, none⟩).2 = 3 ∧ blockOf (s.hf 0) 191 inst0 = 0 ∧ inputsPass (s.hf 0) inst0 5 = true ∧ inst0.nconf ≤ 1 ∧ (s.hf 0).hist = [] ∧ (s.hf 0).told.getD 191 0 = 0 ∧
       ((s.hf 0).insts.getD 191 {}).run < 16 ∧ Roomy s ∧ 3 % 4 = 3) ∧
    (∀ b, b = true ∨ b = false → let s := halfState protSec false { hist := [passRec b] }
      passing s 0 = true ∧ (s.hf 0).hist.find? (fun p => p.k = 9) = some (passRec b) ∧ (passRec b).expired = false ∧
        (passRec b).start + 2 * periodNs s ≤ s.tb.ns ∧ s.isLead 0 = false ∧ (s.hf 0).streams = []) ∧
    (let s := halfState protSec false { hist := [passRec true], streams := [(127, { buf := [(9, { buffered 1 false with late := true })] })] }
     passing s 0 = true ∧ (s.hf 0).hist.find? (fun p => p.k = 9) = some (passRec true) ∧ replaced (s.hf 0) (passRec true) ≠ [] ∧ s.isLead 0 = false) := by
  unfold Roomy
  refine ⟨?_, ?_, ?_, ?_, ?_, ?_, ?_, ?_, ?_, ?_, ?_, ?_⟩ <;> decide +kernel

def flocSt : FlocSt := { tf := 500000000, trip := some 900000000 }

theorem wit_PublicationsFaultLocationAndCommands :
    (let s := halfState pubSec true { pubs := [(7, { started := true, intv := 1 })], floc := [(31, flocSt)] }
     passing s 0 = true ∧ s.s08For 0 = some pubSec ∧ pubSec.pubs.get? 7 = some pub0 ∧ pub0.auth = none ∧ s.lead = some 0 ∧
       ((s.hf 0).pubs.get? 7).map (·.next) = some 0 ∧ 1 ≤ pub0.maxt ∧
       pubSec.feeders = [(31, feedP)] ∧ feedP.floc = some floc0 ∧ (s.hf 0).floc.get? 31 = some flocSt ∧ floc0.lns.find? (fun q => q.1 = 5) = some (5, 0) ∧
       (550000000 ≤ flocSt.tf + 50000000 ∧ flocSt.tf ≤ 450000000 + 50000000 ∧ s.tb.ns ≤ 900000000 + 35000000000) ∧ flocSt.tf + 50000000 < 550000001) ∧
    (let s := { halfState pubSec true { floc := [(31, flocSt)] } with tb := { base.tb with ns := 35900000000 } }
     passing s 0 = true ∧ pubSec.feeders.get? 31 = some feedP ∧ (s.hf 0).floc.get? 31 = some flocSt ∧ 900000000 + 35000000000 ≤ s.tb.ns ∧ s.lead = some 0 ∧
       Reportable s ∧ Roomy s) ∧
    ((halfState pubSec false { floc := [(31, flocSt)] }).isLead 0 = false) ∧
    (base.sup.inServ = false ∧ Takes base 0x0801 ∧ Takes base 0x0802 ∧ Takes base 0x0803 ∧ Takes base 0x0804 ∧ Takes base 0x0805 ∧ (1 < 2 ∧ 191 < 192 ∧ 31 < 32)) ∧
    (let s := { halfState pubSec true { floc := [(31, { last := some [1] })] } with sup := { base.sup with inServ := true } }
     s.sup.inServ = true ∧ Takes s 0x0801 ∧ Takes s 0x0802 ∧ Takes s 0x0803 ∧ Takes s 0x0804 ∧ Takes s 0x0805 ∧
       (s.s08For 0).bind (fun c => c.insts.get? 190) = none ∧ (s.s08For 0).bind (fun c => c.insts.get? 191) = some inst0 ∧
       (s.s08).bind (fun c => c.insts.get? 190) = none ∧ (s.s08).bind (fun c => c.insts.get? 191) = some inst0 ∧
       ((s.hf (s.lead.getD 0)).floc.get? 30).bind (·.last) = none ∧ ((s.hf (s.lead.getD 0)).floc.get? 31).bind (·.last) = some [1]) := by
  unfold Roomy Reportable Takes
  refine ⟨?_, ?_, ?_, ?_, ?_⟩ <;> decide +kernel

/-- Output 31 of policy DEPEND. -/
def outSec : Sec08 := { protSec with outs := [(31, ⟨0, true, false, 0, 0⟩)] }
/-- Both halves in IN_STEP, half 0 leading; its vector of pass 5 was formed at 1 ns. -/
def comparing (b : Brace) : State :=
  { withRegs [(braceFld 0, 2), (braceFld 1, 2), (Reg.BRC_STAT_LEASH, 1)] with
      cfg := { base.cfg with secs := { base.cfg.secs with s08 := some outSec } }, half := [(0, { vecK := 5, vecAt := 1 })], brc := b,
      tb := { base.tb with ns := 10001 } }
def heelVec (val : Nat) : VecPkt := ⟨false, 5, 0, val, 0, 0, 0, (ownVec (comparing {}) 0).dig⟩

theorem wit_VectorsAreCompared :
    (comparing {}).lead = some 0 ∧ (comparing {}).fuses.suiteP = true ∧ (comparing {}).brace 0 = 2 ∧ (comparing {}).brace 1 = 2 ∧
    (comparing {}).cfg.secs.s08 = some outSec ∧ ((comparing {}).hf 0).vecK = (heelVec 0).smp ∧ ((comparing {}).hf 0).vecAt ≠ 0 ∧
    (comparing {}).now ≤ ((comparing {}).hf 0).vecAt + 10000 ∧ (comparing {}).brc.cmpK = none ∧ (ownVec (comparing {}) 0).dig = (heelVec 0).dig ∧
    (comparing {}).brc = {} ∧ (comparing {}).rd Reg.BRC_HO_PHASE = 0 ∧ (comparing {}).rd Reg.BRC_STAT_SPLIT = 0 ∧ 1 < (sec09 (comparing {})).disn ∧
    (∀ q ∈ outSec.outs, effPolicy (comparing {}) q.1 q.2 ≠ 2) ∧ disagreeMask outSec (ownVec (comparing {}) 0) (heelVec 0) = (0, 2 ^ 31) ∧
    disagreeMask outSec (ownVec (comparing {}) 0) (heelVec (2 ^ 31)) = (2 ^ 31, 0) ∧ Roomy (comparing {}) := by
  unfold Roomy; decide +kernel

theorem wit_SilentHalves :
    (let s := comparing {}
     s.lead = some 0 ∧ s.brace (1 - 0) = 2 ∧ (s.hf 0).vecK = 5 ∧ (∀ x ∈ s.brc.vecs.getD (1 - 0) [], x.smp ≠ 5) ∧ (s.hf 0).vecAt + 10000 ≤ s.now ∧ s.brc.await = none ∧
       s.brc.lateK ≠ some 5 ∧ s.brc.lateRun + 1 < (sec09 s).hmiss) ∧
    (let s := { comparing { arr := [(1, (5, 0))] } with tb := { base.tb with ns := 20000 } }
     Roomy s ∧ s.brc.arr.get? (1 - 0) = some (5, 0) ∧ (∀ x ∈ s.brc.vecs.getD 0 [], x.smp ≠ 5) ∧ s.brace 0 = 2 ∧ 0 + 20000 ≤ s.now ∧ (s.hf (1 - 0)).hist = [] ∧
       s.brc.req = none ∧ s.rd Reg.BRC_HO_PHASE = 0 ∧ s.sup.attempt = false ∧ s.runs (2 + 0) = true) := by
  unfold Roomy; refine ⟨?_, ?_⟩ <;> decide +kernel

theorem wit_HalvesRejoin :
    (let s := (comparing {}).setDom 3 1
     s.fuses.suiteP = true ∧ s.dom (2 + 1) = 1 ∧ s.pwr.quiesced = false ∧ s.pwr.thermal = false ∧ s.rd Reg.SUP_DOMSTAT_OCXO_LOST = 0 ∧ s.rd Reg.UPD_STAT_RCV = 0 ∧
       1 + 2 ∉ s.brc.held ∧ (s.s08For 1).isSome = true ∧ coreDefault s = false ∧ s.lead = some (1 - 1)) ∧
    (((comparing {}).setDom 3 1).wr Reg.BRC_STAT_LEASH 0).lead = none ∧
    (let s := (comparing {}).wr (braceFld 1) 1
     s.brace 1 = 1 ∧ s.runs (2 + 1) = true ∧ s.lead = some (1 - 1) ∧ s.rd Reg.BRC_HO_PHASE ≠ 4 ∧ (s.wr Reg.BRC_HO_PHASE 4).rd Reg.BRC_HO_PHASE = 4 ∧
       Roomy (s.wr Reg.BRC_HO_PHASE 4)) ∧
    (let s := comparing {}; (s.hf 0).stOut = none ∧ s.runs (2 + 1) = true ∧ s.lead ≠ some 1 ∧ s.runs (2 + 0) = true ∧ s.lead = some 0) ∧
    (let p : StatePkt := ⟨3, [(7, 2, 1, 5, 10)], 0, []⟩
     let s := { comparing {} with half := [(0, { stOut := some p }), (1, { stOut := some p, pubs := [(7, { started := true, st := 2 })] })] }
     s.runs 3 = true ∧ s.runs 2 = true ∧ (s.hf 0).stOut = some p ∧ (s.hf 1).stOut = some p ∧ s.lead = some 0 ∧
       ((s.hf 1).pubs.get? 7).map (fun x => (x.started, x.st)) = some (true, 2)) ∧
    (let s := ((comparing {}).setDom 3 1).wr Reg.BRC_STAT_LEASH 0
     s.lead = none ∧ s.dom 3 = 1 ∧ (s.s08For 1).isSome = true ∧ s.bk = []) := by
  unfold Roomy; refine ⟨?_, ?_, ?_, ?_, ?_, ?_⟩ <;> decide +kernel

/-- A partner in section 0x09, DISN 2, HOWARM 1 s, HOWAIT 10 s, without a key slot; PARTNER ready as given. -/
def partnerSec (p : Bool) : Sec09 := ⟨p, 77, 0, 0xFF, false, 2, 2, 60, 1000, 10000, [], []⟩
def withPartner (p : Bool) (lshOut : Nat) (b : Brace) : State :=
  { (comparing b).wr Reg.BRC_STAT_LSHOUT lshOut with
      cfg := { (comparing b).cfg with secs := { (comparing b).cfg.secs with s09 := some (partnerSec p) } }, sup := { base.sup with inServ := true },
      tb := { base.tb with ns := 100000000000 }, pwr := { base.pwr with ticks := 4000000000 } }
def partnerUp : Brace := { partner := { lost := false, seen := true, st := 2 } }

theorem wit_BraceCommands :
    (Takes (comparing {}) 0x0902 ∧ Takes (comparing {}) 0x0903 ∧ Takes (comparing {}) 0x0904 ∧ Takes (comparing {}) 0x0901 ∧ braceBusy (comparing {}) = false ∧
      (comparing {}).lead = some 0 ∧ (comparing {}).brace (1 - 0) = 2 ∧ (comparing {}).brc.req = none) ∧
    (let s := (comparing {}).wr (braceFld 1) 1; Takes s 0x0902 ∧ Takes s 0x0903 ∧ braceBusy s = true) ∧
    (let s := (comparing {}).wr Reg.BRC_STAT_LEASH 0; braceBusy s = false ∧ s.lead = none) ∧
    (let s := (comparing {}).wr (braceFld 1) 0; braceBusy s = false ∧ s.lead ≠ some 1 ∧ s.brace 1 = 0 ∧ 1 < 2) ∧
    (let s := { comparing { req := some ⟨0, 7, 0, 0⟩ } with tb := { base.tb with ns := 10000000000 }, mbx := { base.mbx with prog := [(0x0902, 7)] } }
     s.brc.req = some ⟨0, 7, 0, 0⟩ ∧ 0 + 10000000000 ≤ s.now ∧ (0x0902, 7) ∈ s.mbx.prog) ∧
    ((sec09 (withPartner false 0 {})).partner = false ∧ Takes (withPartner false 0 {}) 0x0904) ∧
    (let s := withPartner true 0 partnerUp
     Takes s 0x0904 ∧ (sec09 s).partner = true ∧ braceBusy s = false ∧ partnerReady s = true ∧ s.rd Reg.BRC_STAT_LSHOUT = 0) ∧
    (let s := withPartner true 1 partnerUp
     (sec09 s).partner = true ∧ braceBusy s = false ∧ partnerReady s = true ∧ s.rd Reg.BRC_STAT_LSHOUT = 1 ∧ s.brc.req = none) := by
  unfold Takes; refine ⟨?_, ?_, ?_, ?_, ?_, ?_, ?_, ?_⟩ <;> decide +kernel

theorem wit_ModuleLeadership :
    moduleReady base = false ∧ partnerCfg (withPartner false 0 {}) = false ∧
    (let s := withPartner true 0 { lshLow := some 5 }
     partnerCfg s = true ∧ moduleReady s = true ∧ roleMayTake s = true ∧ s.rd Reg.BRC_STAT_LSHOUT = 0 ∧ Roomy s ∧ s.brc.lshLow.isSome = true ∧ s.rd Reg.BRC_STAT_LSHIN = 0) ∧
    (let s := withPartner true 1 { tie := some 9999995000 }
     s.brc.tie = some 9999995000 ∧ 9999995000 + 5000 ≤ s.up ∧ { s with pwr := { s.pwr with ticks := 3999999999 } }.up < 9999995000 + 5000 ∧ partnerCfg s = true ∧ s.rd Reg.BRC_STAT_LSHOUT = 1 ∧ effRole s = 1 ∧ Roomy s) := by
  unfold Roomy; refine ⟨?_, ?_, ?_, ?_⟩ <;> decide +kernel

theorem wit_PartnerFrames :
    (let s := withPartner true 1 partnerUp
     partnerDue s = true ∧ s.brc.partner.savedUp + 10000000000 ≤ s.up ∧ { s with pwr := base.pwr }.up < s.brc.partner.savedUp + 10000000000 ∧
       s.cfg.secs.s09 = some (partnerSec true) ∧ (partnerSec true).pkslot = 0xFF ∧ s.runs 5 = true ∧ s.brc.partner.txSeq + 1 < 2 ^ 64 ∧
       s.brc.partner.txSeq ≤ s.brc.partner.ceil ∧ s.brc.partner.rxSeq < 1 ∧ Roomy s ∧ (partnerSec true).puid = 77 ∧ 76 ≠ 77 ∧ s.brc.partner.foreignAt = none ∧
       s.brc.partner.seen = true ∧ s.brc.partner.lost = false ∧ s.brc.partner.at_ + 30000000 ≤ s.now) ∧
    (let s := withPartner true 1 { partner := { foreignAt := some 40000000001 } }
     s.brc.partner.foreignAt = some 40000000001 ∧ s.now < 40000000001 + 60000000000 ∧ Roomy s) ∧
    (let s := withPartner true 1 { partner := { sent := some ⟨1, 1, 77, 0, stateByte (withPartner true 1 {}), 0, 0, 0, 0, 0, 0, 100000000000, 1, []⟩ } }
     partnerDue s = false ∧ s.cfg.secs.s09 = some (partnerSec true) ∧ s.runs 5 = true) := by
  unfold Roomy; refine ⟨?_, ?_, ?_⟩ <;> decide +kernel

theorem wit_HandoverPhases :
    (let s := { (comparing { ho := some (1, 5, 0) }).wr Reg.BRC_HO_PHASE 1 with
                  cfg := { base.cfg with apply := some { mode := 1, tag := 7, img := image, raw := image, phase := 2 } } }
     s.brc.ho = some (1, 5, 0) ∧ s.cfg.apply.isSome = true ∧ s.rd Reg.BRC_HO_PHASE = 1 ∧ s.brace 1 = 2 ∧ Roomy s) ∧
    (let s := { (comparing { ho := some (1, 5, 0) }).wr Reg.BRC_HO_PHASE 2 with tb := { base.tb with ns := 1000000000 } }
     s.brc.ho = some (1, 5, 0) ∧ s.rd Reg.BRC_HO_PHASE = 2 ∧ 0 + (sec09 s).howarm * 1000000 ≤ s.now) ∧
    (let s := { (comparing { ho := some (1, 5, 0) }).wr Reg.BRC_HO_PHASE 3 with tb := { base.tb with ns := 10000000000 } }
     s.brc.ho = some (1, 5, 0) ∧ s.rd Reg.BRC_HO_PHASE = 3 ∧ 0 + (sec09 s).howait * 1000000 ≤ s.now ∧ s.cfg.apply = none) ∧
    (let s := { comparing {} with fuses := { base.fuses with suiteP := false } }
     (s.setDom 3 1).runs 3 = false ∧ (s.setDom 2 1).runs 2 = false ∧ s.runs 1 = true ∧ 1 < 2 ∧ QuietLink s ∧ luxNode s 5 = none ∧
       s.fuses.suiteP = false ∧ [1] ≠ [2] ∧ s.runs 2 = true ∧ s.runs 3 = true ∧ s.lead = some 0 ∧ Roomy s ∧ s.brc.luxDiff = none) ∧
    (let s := { comparing { luxDiff := some 0 } with fuses := { base.fuses with suiteP := false }, tb := { base.tb with ns := 3599999999999 } }
     s.brc.luxDiff = some 0 ∧ s.sec < 0 + 3600 ∧ s.brace (1 - 0) = 2 ∧ s.brc.req = none ∧ s.rd Reg.BRC_HO_PHASE = 0 ∧ s.sup.attempt = false ∧ (s.hf 0).hist = []) := by
  unfold Roomy QuietLink; refine ⟨?_, ?_, ?_, ?_, ?_⟩ <;> decide +kernel

/-- Node 5 on feeder 31, which is in the state given. -/
def fed (f : Feeder) : State := (lit {} f 31).2

/-- That with half 0 leading, its last state of feeder 31 as given, and a notice dropped. -/
def underLead (x : Nat) (f : Feeder) : State :=
  { (fed f).wrs [(Reg.BRC_STAT_LEASH, 1), (Reg.KNL_STAT_DROPCNT 65, 1)] with
      cfg := { (fed f).cfg with secs := { (fed f).cfg.secs with s08 := some pubSec }, image := some image }, half := [(0, { feeders := [(31, x)] })] }

theorem wit_FeederSupplyAndAppReturn :
    (let s := fed {}
     s.runs 1 = true ∧ QuietLink s ∧ Roomy s ∧ (s.knl 64).pkts = [] ∧ (s.knl 65).pkts = [] ∧ 0 ≤ s.lux.nseq ∧ s.lux.nseq < 1 ∧ 31 < 32 ∧ (s.feeder 31).st ≠ 1) ∧
    (let s := fed { st := 1 }
     s.runs 1 = true ∧ QuietLink s ∧ Roomy s ∧ (s.knl 64).pkts = [] ∧ (s.knl 65).pkts = [] ∧ s.lux.nseq < 1 ∧ (s.feeder 31).st = 1 ∧ releaseOrder s 31 = [5]) ∧
    (let s := underLead 0 {}
     s.lead = some 0 ∧ leadFeeders s = [(31, 0)] ∧ (s.wr Reg.BRC_STAT_LEASH 0).lead = none ∧ s.runs 1 = true ∧ QuietLink s ∧ s.rd (Reg.KNL_STAT_DROPCNT 65) ≠ s.lux.drops.getD 65 0 ∧ (s.feeder 31).st ≠ 1) ∧
    (let s := fed { st := 4 }
     s.runs 1 = true ∧ QuietLink s ∧ (s.feeder 31).st = 4 ∧ (s.feeder 31).graceAt + (sec05 s).supGrace * 1000000000 ≤ s.tb.ns ∧ ∀ p ∈ s.lnt.nodes, p.2.lux.suppr = false) ∧
    (let s := fed { st := 3 }
     s.runs 1 = true ∧ QuietLink s ∧ (s.feeder 31).st = 3 ∧ (s.feeder 31).batch = [] ∧ (s.feeder 31).batches = 0 ∧ (s.feeder 31).waiting = [] ∧
       (s.feeder 31).pickAt + (feederCfg s 31).start * 1000000 ≤ 10 ^ 12) ∧
    (let d := { node5 with unreach := true, rcd := { rosterRec with feeder := 31 } }
     let s := { withNode d with lux := { base.lux with feeders := [(31, { st := 3, waiting := [5] })] } }
     s.runs 1 = true ∧ QuietLink s ∧ (s.feeder 31).st = 3 ∧ (s.feeder 31).batch = [] ∧ (s.feeder 31).batches = 0 ∧ (s.feeder 31).waiting = [5] ∧
       (s.feeder 31).tries = [] ∧ (s.feeder 31).pickAt + (feederCfg s 31).start * 1000000 ≤ 80000000000 ∧
       80000000000 ≤ (s.feeder 31).pickAt + (feederCfg s 31).start * 1000000 + 80000000000 ∧ s.node 5 = some d ∧ d.unreach = true ∧
       min (s.rd Reg.RAD_TXLIM_RSVACK) (maxCar s / 2) < maxCar s ∧ topOverride s 5 = none ∧ s.fuses.suiteP = true ∧
       (let u := { s with fuses := { base.fuses with suiteP := false }, lux := { s.lux with agreed := [(31, [5])] } }
        u.fuses.suiteP = false ∧ u.lux.agreed.get? 31 = some [5] ∧ { u with lux := s.lux }.lux.agreed.get? 31 = none)) ∧
    (let s := fed { uv := some ⟨0, 1, 0, 200, 5, 0, 0⟩ }; (s.feeder 31).uv = some ⟨0, 1, 0, 200, 5, 0, 0⟩ ∧ 0 + 30000000000 ≤ s.tb.ns ∧ Reportable s) ∧
    (let s := { loaded.setDom 1 1 with cfg := { loaded.cfg with image := some image }, lux := { base.lux with feeders := [(31, { st := 1 })] } }
     mayRun s = true ∧ s.dom 1 = 1 ∧ s.cfg.image = some image ∧ s.cfg.apply = none ∧ (s.feeder 31).st ≠ 0) ∧
    (let s := (underLead 1 { st := 1 }).setDom 1 1
     leadFeeders s = [(31, 1)] ∧ s.cfg.image = some image ∧ s.cfg.apply = none ∧ mayRun s = true ∧ s.dom 1 = 1 ∧ (s.feeder 31).st ≠ 0) := by
  unfold QuietLink Roomy Reportable
  refine ⟨?_, ?_, ?_, ?_, ?_, ?_, ?_, ?_, ?_⟩ <;> decide +kernel

/-! ### Metering -/

/-- Point 0 is a CURRENT point with its voltage at point 1, which gives the frequency; points 2 and 3 carry protection. -/
def meterSec : Sec0A := ⟨[(0, 1), (1, 2), (2, 3)], [(0, 1)], [], [], [], 10, 1, [2, 3]⟩
/-- The back end on that section, at 1000 s, FNOM 50 Hz, the modulator clock slow. -/
def metering (m : Meter) : State :=
  { base.wr Reg.OUT_MCLK_FREQ 1 with
      cfg := { base.cfg with secs := { base.cfg.secs with s0a := some meterSec, s08 := some protSec } }, mtr := m, tb := { base.tb with ns := 10 ^ 12 } }
/-- The bits of a channel over 200 ms, no level of them twice in a row; and of the channels of circuit 0. -/
def span (ch : Nat) : ModSpan := ⟨ch, (List.range 2240).map fun i => i % 2 == 0, 0, 31, 0, true⟩
def spans0 : List ModSpan := [0, 1, 2, 4, 5, 6].map span

/-- A window that ends, from its kind. -/
theorem formed {s : State} {dur freq : Nat} {spans : List ModSpan} {k : Bool} (h : windowKind s dur freq spans = some k) :
    ∃ x, formWin s dur freq spans = some x ∧ x.locked = k ∧ x.circs = (circuits s).map (formCirc s dur spans) ∧
      x.pts = ((List.range 8).filter fun p => mpKind s p != 0).map (formPoint s freq spans) ∧ x.meas = s.mtr.meas.map (formMeas s dur freq spans) := by
  simp [formWin, h]

/-- A locked window, every sample of its circuit valid. -/
theorem window_valid (m : Meter) (hw : m.winUp = none) (ht : m.trial = []) :
    ∃ x w, formWin (metering m) 200000000 50000 spans0 = some x ∧ x.circs = [w] ∧ w.ok = true := by
  have e : metering m = { metering {} with mtr := m } := rfl
  have k : windowKind (metering {}) 200000000 50000 spans0 = some true := by decide +kernel
  have o : (formCirc (metering {}) 200000000 spans0 0).ok = true := by decide +kernel
  have c (ch : Nat) : chanOk (metering m) 200000000 spans0 ch = chanOk (metering {}) 200000000 spans0 ch := by
    simp only [chanOk, calOf, e, ht]; rfl
  obtain ⟨x, hx, -, hc, -⟩ := formed (s := metering m) (dur := 200000000) (freq := 50000) (spans := spans0) (k := true) (by
    have w : (metering m).mtr.winUp = (metering {}).mtr.winUp := hw
    have f : fnom (metering m) = fnom (metering {}) := rfl
    have y : winCycles (metering m) = winCycles (metering {}) := rfl
    have z : sec0A (metering m) = sec0A (metering {}) := rfl
    have u : (metering m).up = (metering {}).up := rfl
    rw [← k]; simp only [windowKind, c, w, f, y, z, u])
  have hcs : circuits (metering m) = [0] := rfl
  refine ⟨x, _, hx, by rw [hc, hcs]; rfl, ?_⟩
  rw [← o]; simp only [formCirc, c]; rfl

/-- A window of nothing: no circuit valid. -/
theorem window_invalid : ∃ x w, formWin (metering {}) 200000000 0 [] = some x ∧ x.circs = [w] ∧ w.ok = false := by
  obtain ⟨x, hx, -, hc, -⟩ := formed (s := metering {}) (dur := 200000000) (freq := 0) (spans := []) (k := false) (by decide +kernel)
  exact ⟨x, _, hx, hc, by decide +kernel⟩

def slot0 : SaveSlot := ⟨[], 0, 3, 1, 0, [(0, 3600000)], 7⟩
/-- The same section without a CURRENT point, and a measurement that has seen and got windows. -/
def measuring (m : Meas) : State :=
  let s := metering { meas := some m }
  { s with cfg := { s.cfg with secs := { s.cfg.secs with s0a := some { meterSec with kind := [(1, 2)] } } }, mbx := { s.mbx with prog := [(0x0A05, 77)] } }
def measWin : MeasWin := ⟨true, -3, 100, 0, 50000⟩

/-- The measurement's window: valid where its channel's bits are there. -/
theorem measured (m : Meas) (hc : m.ch = 0) (hm : m.mode = 1) (b : Bool) :
    ∃ x w, formWin (measuring m) 200000000 50000 (if b then [span 0] else []) = some x ∧ x.meas = some w ∧ w.ok = b := by
  obtain ⟨x, hx, -, -, -, h⟩ := formed (s := measuring m) (dur := 200000000) (freq := 50000) (spans := if b then [span 0] else []) (k := false) (by
    cases b <;> rfl)
  refine ⟨x, _, hx, h, ?_⟩
  have ok : chanOk (measuring ⟨77, 0, 1, 0, 10, 0, []⟩) 200000000 [span 0] 0 = true := by decide +kernel
  cases b
  · simp only [formMeas, hc, hm]; rfl
  · have e : chanOk (measuring m) 200000000 [span 0] 0 = true := by rw [← ok]; simp only [chanOk, calOf]; rfl
    simp only [formMeas, hc, hm, if_true, e]; rfl

/-- A voltage point's window. -/
theorem window_point : ∃ x w, formWin { measuring ⟨77, 0, 1, 0, 10, 0, []⟩ with mtr := {} } 200000000 0 [] = some x ∧ x.pts = [w] ∧ w.mp = 1 := by
  obtain ⟨x, hx, -, -, hp, -⟩ := formed (s := { measuring ⟨77, 0, 1, 0, 10, 0, []⟩ with mtr := {} }) (dur := 200000000) (freq := 0) (spans := [])
    (k := false) (by decide +kernel)
  exact ⟨x, _, hx, hp, rfl⟩

theorem wit_MeteringWindows :
    (base.runs 6 = true ∧ 31 < 32 ∧ bit (base.rd Reg.MTR_RUN_RUN) 31 = false ∧
      stood20 base 31 = false ∧ stood20 { base with pwr := { base.pwr with ticks := 8000000 } } 31 = true ∧
      let s := { withRegs [(Reg.MTR_RUN_RUN, 2 ^ 31)] with pwr := { base.pwr with ticks := 8000000 } }
      stood20 s 31 = true ∧ s.runs 6 = true ∧ bit (s.rd Reg.MTR_RUN_RUN) 31 = true ∧ bit (s.rd Reg.MTR_STUCK_STUCK) 31 = false ∧ Roomy s) ∧
    (let s := metering {}
     let vals := [span 8, span 15]
     s.runs 6 = true ∧ vals ≠ [] ∧ (∀ p ∈ vals, p.ch / 16 = 0 ∧ p.ch / 4 ∈ (sec0A s).protmp) ∧ s.runs 2 = true ∧ s.runs 3 = true ∧
       (s.knl 76).used + 1 + vals.length ≤ kDepth ∧ (s.knl 78).used + 1 + vals.length ≤ kDepth) ∧
    (let s := withRegs [(Reg.MTR_STAT_UNCAL, 1)]
     s.runs 1 = true ∧ s.rd Reg.MTR_STAT_UNCAL = 1 ∧ s.mtr.saveTags = [] ∧ 5 ∉ s.cfg.due ∧ 5 ∈ { s with cfg := { s.cfg with due := [5] } }.cfg.due ∧
       let t := { s with mtr := { saveTags := [9] }, mbx := { s.mbx with prog := [(0x0A07, 9)] } }
       t.rd Reg.MTR_STAT_UNCAL = 1 ∧ t.mtr.saveTags = [9] ∧ (0x0A07, 9) ∈ t.mbx.prog) ∧
    (let s := metering {}
     backEnd s = true ∧ s.mtr.saveTags = [] ∧ s.mtr.meas = none ∧ circuits s = [0] ∧ 5 ∉ s.cfg.due ∧ formWin s 1 0 [] = none ∧ (0 ∉ s.mtr.gapDue ∨ s.mtr.restored = none) ∧ s.mtr.inval.get? 0 = none ∧
       s.mtr.inval.getD 0 (s.now - 200000000, 0) = (999800000000, 0)) ∧
    (∀ m : Meter, m.winUp = none → m.trial = [] → ∃ x w, formWin (metering m) 200000000 50000 spans0 = some x ∧ x.circs = [w] ∧ w.ok = true) ∧
    (∃ x w, formWin (metering {}) 200000000 0 [] = some x ∧ x.circs = [w] ∧ w.ok = false) ∧
    (let s := metering { inval := [(0, (5, 200000000))], slots := [(1, slot0)] }
     backEnd s = true ∧ circuits s = [0] ∧ Reportable s ∧ Roomy s ∧ 0 ∉ s.mtr.gapDue ∧ s.mtr.inval.get? 0 = some (5, 200000000) ∧ 200000000 < 2 ^ 50 ∧
       newestSlot s.mtr = some (1, slot0)) ∧
    (let s := metering { restored := some slot0, gapDue := [0] }
     backEnd s = true ∧ circuits s = [0] ∧ Reportable s ∧ Roomy s ∧ s.mtr.restored = some slot0 ∧ 0 ∈ s.mtr.gapDue ∧ s.mtr.inval.get? 0 = none ∧
       ((slot0.qual == 0 || s.qual == 0) = true) ∧ (s.opsec - slot0.opsec) * 1000 < 2 ^ 32) ∧
    (let s := { measuring ⟨77, 0, 1, 0, 10, 0, []⟩ with mtr := {} }
     backEnd s = true ∧ s.mtr.saveTags = [] ∧ s.mtr.meas = none ∧ circuits s = [] ∧ mpKind s 1 = 2 ∧ s.mtr.lastWin / 10000000000 ≠ s.now / 10000000000) ∧
    (∃ x w, formWin { measuring ⟨77, 0, 1, 0, 10, 0, []⟩ with mtr := {} } 200000000 0 [] = some x ∧ x.pts = [w] ∧ w.mp = 1) ∧
    (let s := metering { lastSave := 10 ^ 12 }
     s.now < s.mtr.lastSave + (sec0A s).saveper * 1000000000) ∧
    (let s := metering { slots := [(1, slot0)], winUp := some 0 }
     s.mtr.winUp = some s.up ∧ ({} : Meter).winUp ≠ some s.up ∧
     backEnd s = true ∧ s.mtr.saveTags = [] ∧ s.mtr.meas = none ∧ s.mtr.lastSave + (sec0A s).saveper * 1000000000 ≤ s.now ∧ newestSlot s.mtr = some (1, slot0)) ∧
    (let a : MtrAgg := { n := 3, freq := 150000, rms := [300, 0, 0, 0], p := [-30, 0, 0] }
     let s := metering { agg := [(16, a)] }
     tenMin s ≠ s.mtr.intAt ∧ tenMin { s with mtr := { intAt := 1 } } = 1 ∧ s.mtr.supAt < s.now / 200000000 ∧ s.now / 200000000 ≤ 5000 ∧ (span 7).ch < 32 ∧
     backEnd s = true ∧ circuits s = [0] ∧ Reportable s ∧ s.mtr.agg.get? (16 + 0) = some a ∧ a.n ≠ 0 ∧ s.mtr.agg.get? (8 + 0) = none) ∧
    mpKind (metering {}) (7 / 4) ≠ 0 := by
  unfold Roomy Reportable
  refine ⟨?_, ?_, ?_, ?_, window_valid, window_invalid, ?_, ?_, ?_, window_point, ?_, ?_, ?_, ?_⟩ <;> decide +kernel

theorem wit_MeteringCommands :
    (let s := metering { bands := [(3, (9, 1, [4, 5]))] }
     (Takes s 0x0A01 ∧ Takes s 0x0A02 ∧ Takes s 0x0A03 ∧ Takes s 0x0A04 ∧ Takes s 0x0A05 ∧ Takes s 0x0A06 ∧ Takes s 0x0A07) ∧ mpKind s 7 ≠ 1 ∧ mpKind s 0 = 1 ∧
       mpKind s 7 = 0 ∧ mpKind s 1 ≠ 0 ∧ (0 < 112 ∧ 628 + 112 ≤ 740 ∧ 3 < 4) ∧ s.mtr.bands.get? (32 * 0 + 4 * 0 + 3) = some (9, 1, [4, 5]) ∧
       mpKind s (31 / 4) = 0 ∧ mpKind s (7 / 4) ≠ 0 ∧ s.mtr.meas = none) ∧
    (∀ m : Meas, m = ⟨77, 0, 1, 0, 10, 8, [measWin]⟩ ∨ m = ⟨77, 0, 1, 0, 10, 10, List.replicate 9 measWin⟩ ∨ m = ⟨77, 0, 1, 0, 10, 29, []⟩ →
      let s := measuring m
      s.mtr.meas = some m ∧ (0x0A05, m.tag) ∈ s.mbx.prog ∧ s.runs 6 = true ∧ backEnd s = true ∧ circuits s = [] ∧ s.mtr.saveTags = []) ∧
    (∀ m : Meas, m.ch = 0 → m.mode = 1 → ∀ b : Bool, ∃ x w, formWin (measuring m) 200000000 50000 (if b then [span 0] else []) = some x ∧ x.meas = some w ∧ w.ok = b) ∧
    (let m : Meas := ⟨77, 0, 1, 0, 10, 8, [measWin]⟩
     m.got.length + 1 < m.windows ∧ m.seen + 1 < 3 * m.windows ∧ 0 < m.windows ∧ 5 ∉ (measuring m).cfg.due) ∧
    (let m : Meas := ⟨77, 0, 1, 0, 10, 10, List.replicate 9 measWin⟩; m.windows = m.got.length + 1) ∧
    (let m : Meas := ⟨77, 0, 1, 0, 10, 29, []⟩; 3 * m.windows ≤ m.seen + 1) ∧
    (-2 ^ 23 ≤ (-2 ^ 23 : Int) ∧ (-2 ^ 23 : Int) < 2 ^ 23 ∧ 0x20000000 ≤ 0x60000000 ∧ -50000 ≤ (50000 : Int)) := by
  unfold Takes
  refine ⟨?_, ?_, measured, ?_, ?_, ?_, ?_⟩
  · decide +kernel
  · rintro m (rfl | rfl | rfl) <;> decide +kernel
  all_goals decide +kernel

/-! ### Records and the archive -/

/-- A record, the same on its way to a log, and `base` with the given recorder parts. -/
def rec0 (code seq : Nat) : Rec := ⟨code, 16384, seq, .op 1 1 0, 0, 0, 0, 1, false, false, false⟩
def posted (log code : Nat) : Posted := ⟨log, rec0 code 0, 5, none⟩
def recorded (f : Recs → Recs) : State := { base with recs := f base.recs }
/-- `base` with log `n` as given. -/
def logged (n : Nat) (g : Log) : State := recorded fun r => { r with logs := r.logs.set n g }
/-- A log that coalesces over 3 s, and its entry of code 0xF001 with `count` further records. -/
def coalLog : Log := { coalw := 3 }
def coal0 (count : Nat) : Coal := ⟨9, 0xF001, 16384, 0, count, 10, rec0 0xF001 0⟩
def coalescing (coal : List Coal) : State :=
  recorded fun r => { r with logs := r.logs.set 9 coalLog, ingress := [posted 9 0xF001], coal := coal }

theorem wit_RecorderWorks :
    (6 < 7 ∧ base.runs 6 = true ∧ 0xF001 ∉ laneCodes ∧ (base.log 1).defd = true ∧ base.runs 2 = true ∧ base.lead ≠ some 0 ∧
      ((withRegs [(Reg.BRC_STAT_LEASH, 1)]).lead = some (2 - 2)) ∧ base.recs.ingress.length < 1008) ∧
    (let s := recorded fun r => { r with ingress := List.replicate 1008 (posted 0 0) }
     s.runs 6 = true ∧ (s.log 0).defd = true ∧ 1008 ≤ s.recs.ingress.length) ∧
    (Ev.POWER_FAIL ∈ laneCodes ∧ base.recs.lane.length < 64 ∧
      (let p := posted 0 Ev.POWER_FAIL
       let s := recorded fun r => { r with lane := [] ++ p :: List.replicate 63 (posted 0 0) }
       s.recs.lane.length = 64 ∧ s.recs.lane = [] ++ p :: List.replicate 63 (posted 0 0) ∧ p.rcd.code = Ev.POWER_FAIL ∧ p.rcd.source = 16384) ∧
      (let s := recorded fun r => { r with lane := List.replicate 64 (posted 0 0) }
       s.recs.lane.length = 64 ∧ ∀ q ∈ s.recs.lane, ¬(q.rcd.code = Ev.POWER_FAIL ∧ q.rcd.source = 16384))) ∧
    (let s := recorded fun r => { r with lane := [posted 0 Ev.POWER_FAIL] }
     NoneLost s ∧ s.recs.lane = [posted 0 Ev.POWER_FAIL] ∧ (s.log 0).defd = true) ∧
    (let s := recorded fun r => { r with ingress := [posted 2 7] }
     NoneLost s ∧ s.recs.lane = [] ∧ s.recs.ingress = [posted 2 7] ∧ (s.log 2).defd = true ∧ (s.log 2).coalw = 0 ∧ (posted 2 7).tag = none) ∧
    (let p : Posted := { posted 2 0xF001 with tag := some 77 }
     let s : State := { (recorded fun r => { r with ingress := [p] }) with mbx := { base.mbx with prog := [(0x0B04, 77)] } }
     NoneLost s ∧ s.recs.lane = [] ∧ s.recs.ingress = [p] ∧ (s.log 2).defd = true ∧ (s.log 2).coalw = 0 ∧ p.tag = some 77 ∧ (0x0B04, 77) ∈ s.mbx.prog) ∧
    (let p := posted 9 0xF001
     let s := coalescing []
     NoneLost s ∧ s.recs.lane = [] ∧ s.recs.ingress = [p] ∧ (s.log 9).defd = true ∧ (s.log 9).coalw ≠ 0 ∧ p.rcd.code ≠ Ev.LOST ∧ p.tag = none ∧
       coalFind s p.log p.rcd.code p.rcd.source p.rcd.par0 = none ∧ s.recs.coal.length < 256) ∧
    (let s := coalescing (List.replicate 256 { coal0 0 with code := 5 })
     NoneLost s ∧ coalFind s 9 0xF001 16384 0 = none ∧ 256 ≤ s.recs.coal.length) ∧
    (let s := coalescing [coal0 0xFFFD]
     NoneLost s ∧ coalFind s 9 0xF001 16384 0 = some (coal0 0xFFFD) ∧ (posted 9 0xF001).time < (coal0 0).stop ∧ (coal0 0xFFFD).count + 1 < 0xFFFF) ∧
    (let s := recorded fun r => { r with lostLog := [(2, (5, 7, 6))] }
     s.recs.lostLog = [(2, (5, 7, 6))] ∧ s.recs.lostDom = [] ∧ s.recs.laneLost = (0, 0) ∧ s.recs.lane = [] ∧ s.recs.ingress = [] ∧ (s.log 2).defd = true) ∧
    (∀ n, n < 2 → ∀ ns, ns < 20 →
      let s := { coalescing [coal0 n] with tb := { base.tb with ns := ns } }
      coalFind s 9 0xF001 16384 0 = some (coal0 n) ∧ (s.log 9).defd = true ∧ (ns = 9 → s.now < (coal0 n).stop) ∧ (ns = 10 → (coal0 n).stop ≤ s.now) ∧
        (coal0 n).count = n ∧ (coal0 n).last.code ≠ Ev.LOST) ∧
    (base.margin 8 = 0 ∧ (base.log 0).defd = true ∧ 2048 < (base.log 0).ringCap ∧
      let s := withRegs [(marginFld 8, 4)]
      0 < s.margin 8 ∧ s.margin 8 ≤ 4 ∧ s.sup.tally.length < 8192 ∧ s.recs.lane.length < 64) := by
  unfold NoneLost
  refine ⟨?_, ?_, ?_, ?_, ?_, ?_, ?_, ?_, ?_, ?_, ?_, ?_⟩ <;> decide +kernel

theorem wit_LogCommands :
    ((Takes base 0x0B01 ∧ Takes base 0x0B02 ∧ Takes base 0x0B03 ∧ Takes base 0x0B04) ∧ 15 < 16 ∧ (base.log 0).defd = true ∧ (logged 9 { defd := false }).rd Reg.MBX_RSPPI = 0 ∧
      ((logged 9 { defd := false }).log 9).defd = false) ∧
    (let s := logged 9 { firsts := [rec0 5 1], ring := [rec0 6 2, rec0 7 3] }
     Takes s 0x0B02 ∧ (s.log 9).bad = [] ∧ (s.log 9).defd = true ∧ ((s.log 9).firsts ++ (s.log 9).ring).Pairwise (fun a b => seqGe b.seq a.seq = true)) ∧
    (let s := logged 9 { ring := [rec0 6 2], bad := [2] }
     Takes s 0x0B02 ∧ (s.log 9).firsts = [] ∧ (s.log 9).ring = [rec0 6 2] ∧ (s.log 9).bad = [2] ∧ (s.log 9).crcSeen = [] ∧ seqGe 2 2 = true ∧ Roomy s) ∧
    (let s := logged 9 { seq := 3, firsts := [rec0 5 1], ring := [rec0 6 2, rec0 7 3] }
     Takes s 0x0B03 ∧ seqGe (s.log 9).seq 4 = false ∧ seqGe (s.log 9).seq 3 = true ∧ Roomy s ∧ (s.log 9).auth = false) ∧
    (let s := { logged 3 { seq := 3, auth := true, ring := [rec0 6 2, rec0 7 3] } with key := { base.key with owner := [(0, 7)] } }
     Takes s 0x0B03 ∧ Roomy s ∧ (s.log 3).defd = true ∧ seqGe (s.log 3).seq 3 = true ∧ (s.log 3).auth = true ∧ s.key.owner ≠ [] ∧ 1 = ((s.log 3).ccnt + 1) % 2 ^ 32 ∧
       0 < (s.log 3).firstsCap ∧ (∀ r ∈ (s.log 3).firsts ++ (s.log 3).ring, seqGe 3 r.seq = true) ∧ 2 ≠ ((s.log 3).ccnt + 1) % 2 ^ 32) ∧
    ((logged 15 {}).log 15 = {} ∧ (logged 15 {}).recs.ingress.length < 1008 ∧ 0xF000 ≤ 0xFFFF ∧
      let s := recorded fun r => { r with logs := r.logs.set 15 {}, ingress := List.replicate 1008 (posted 0 0) }
      Takes s 0x0B04 ∧ (s.log 15).defd = true ∧ 1008 ≤ s.recs.ingress.length) := by
  unfold Takes Roomy
  refine ⟨?_, ?_, ?_, ?_, ?_, ?_⟩ <;> decide +kernel

def shelfSec : Sec0C := { archiveSec with svMask := 4 }
/-- An archive X module on section `shelfSec`, its shelf started in the state given, with its key or without. -/
def archSlot : KeySlot := ⟨3, 2, 2, 0xFFFFFFFF, false, 1, 7⟩
def shelf (st : Nat) (key : Bool) (a : Arc) : State :=
  { withRegs [(Reg.ARC_STAT_STATE, st), (Reg.ARC_STAT_KEYOK, 1), (Reg.BRC_STAT_LEASH, 1), (Reg.HBR_WIN_POL_EN 6, 1), (Reg.HBR_WIN_MAP_SIZE 6, 3)] with
      fuses := { base.fuses with arch := true }, cfg := { base.cfg with secs := { base.cfg.secs with s0c := some shelfSec, s08 := some protSec } },
      key := { base.key with slots := if key then [(0, archSlot)] else [] }, arc := a, tb := { base.tb with ns := 10 ^ 19 } }
def extent (cls tier : Nat) (isSealed : Bool) : Extent := ⟨1, cls, tier, 9, 1, 0, 0, 2, isSealed, false, 1, 4000, 1, 2, []⟩
def arcItem (t : Nat) : ArcItem := ⟨0, 9, 9, t, [(5, 0)], []⟩
def distWin (closed : Bool) : DistWin := ⟨1, 5, 0, 10 ^ 10, 1, closed⟩
/-- The same with sample 5 of subscription 2 checked in both halves. -/
def shelfPost (a : Arc) : State :=
  let x : Half := { streams := [(2, { buf := [(5, buffered 1 false)], sync := true })] }
  { shelf 2 true a with half := [(0, x), (1, x)] }
def postItem : ArcItem := ⟨0, 2, 2, 5, [], []⟩

/-- `ArchiveWorks`: samples. -/
theorem wit_archive_sample :
    (let s := shelf 2 true {}
     s.fuses.arch = true ∧ s.cfg.secs.s0c = some shelfSec ∧ s.runs 1 = true ∧ s.rd Reg.ARC_STAT_STATE ≠ 0 ∧ (∀ h, h < 2 → ((s.hf h).stream 127).buf.get? 5 = none)) ∧
    (let s := shelfPost {}
     s.rd Reg.ARC_STAT_STATE ≠ 0 ∧ s.s08For 0 = some protSec ∧ s.s08For 1 = some protSec ∧ ((s.hf 0).stream 2).buf.get? 5 = some (buffered 1 false) ∧
       ((s.hf 1).stream 2).buf.get? 5 = some (buffered 1 false) ∧ ((s.hf 0).stream 2).sync = true ∧ s.lead ≠ some 1 ∧ s.lead = some 0 ∧ s.runs 2 = true ∧
       (buffered 1 false).chk = 1 ∧ (buffered 1 false).syn ≠ 0xFFFF ∧ bit shelfSec.svMask 2 = true ∧ (∀ r ∈ s.arc.recent, r.stream = 2 → r.t ≠ postItem.t) ∧
       10 * (stagedBytes s + itemSize postItem) < 9 * 2 ^ 32 ∧ s.arc.shed = false ∧ 2 ∉ s.arc.gapSubs ∧ s.arc.resume.get? 2 = none ∧
       (∀ x ∈ s.arc.staged, x.cls = 0 → x.stream = 2 → x.t ≤ postItem.t)) ∧
    (let s := shelfPost { gapSubs := [2] }
     10 * (stagedBytes s + itemSize postItem) < 9 * 2 ^ 32 ∧ s.arc.shed = false ∧ 2 ∈ s.arc.gapSubs ∧ s.arc.resume.get? 2 = none ∧ Roomy s ∧
       (∀ r ∈ s.arc.recent, r.stream = 2 → r.t ≠ postItem.t) ∧ s.lead = some 0) ∧
    (let s := shelfPost { resume := [(2, 4)] }
     10 * (stagedBytes s + itemSize postItem) < 9 * 2 ^ 32 ∧ s.arc.shed = false ∧ 2 ∉ s.arc.gapSubs ∧ s.arc.resume.get? 2 = some 4 ∧ Roomy s ∧
       (∀ r ∈ s.arc.recent, r.stream = 2 → r.t ≠ postItem.t) ∧ s.lead = some 0) := by
  unfold Roomy
  refine ⟨?_, ?_, ?_, ?_⟩ <;> decide +kernel

/-- `ArchiveWorks`, staging at its limit: one item of 483,183,820 channels. -/
theorem wit_archive_full (n : Nat) (hn : n = 483183820) :
    let s := shelfPost { staged := [⟨1, 0, 0, 0, List.replicate n (0, 0), []⟩] }
    9 * 2 ^ 32 ≤ 10 * (stagedBytes s + itemSize postItem) ∧ 2 ∉ s.arc.gapSubs ∧ (∀ r ∈ s.arc.recent, r.stream = 2 → r.t ≠ postItem.t) := by
  refine ⟨?_, ?_, ?_⟩
  · simp [shelfPost, shelf, stagedBytes, itemSize, postItem]
    omega
  · simp [shelfPost, shelf]
  · simp [shelfPost, shelf]

/-- `ArchiveWorks`: chunks and extents. -/
theorem wit_archive_chunks :
    (∀ a ∈ [([] : List Extent), [extent 0 0 false]], ∀ key ∈ [true, false],
      let s := shelf 2 key { staged := [arcItem 100], free := 2 ^ 22, total := 2 ^ 30, extents := a }
      s.arc.staged = [arcItem 100] ∧ itemCost (arcItem 100) ≤ 2 ^ 20 - 16 ∧ s.rd Reg.ARC_STAT_STATE = 2 ∧ s.arc.nsFailed = [] ∧ shelfSec.nsids ≠ [] ∧ s.rd Reg.PWR_STAT_QUIESCE = 0 ∧
        2 ^ 20 ≤ s.arc.free ∧ (s.arc.writes.filter fun t => decide (s.up < t + 1000000000)).length < shelfSec.arcBw * 1000000 / 2 ^ 20 ∧ arcKeyOk s = key ∧
        (key = true → s.key.slots.get? shelfSec.arkSlot = some archSlot ∧ archSlot.uses = 0xFFFFFFFF) ∧ (key = false → s.key.slots.get? shelfSec.arkSlot = none) ∧
        s.arc.shed = false ∧ s.arc.total * shelfSec.reserve ≤ 2 ^ 30 * 10 ∧ s.rd Reg.ARC_STAT_KEYOK = 1 ∧ Roomy s ∧ s.arc.extents = a ∧
        (extent 0 0 false).isSealed = false ∧ (extent 0 0 false).failedNs = false ∧ (extent 0 0 false).cls = (arcItem 100).cls ∧
        (extent 0 0 false).stream = (arcItem 100).stream ∧ (extent 0 0 false).tier = 0 ∧ (extent 0 0 false).chunks < 64) ∧
    (let s := shelf 2 true { free := 2 ^ 22, total := 2 ^ 20 }
     s.arc.total * shelfSec.reserve ≤ (s.arc.free - 2 ^ 21) * 100) ∧
    (let s := shelf 2 true { staged := [arcItem 100], free := 2 ^ 22, writes := List.replicate 953 0 }
     shelfSec.arcBw * 1000000 / 2 ^ 20 ≤ (s.arc.writes.filter fun t => decide (s.up < t + 1000000000)).length) ∧
    (let s := shelf 2 true { free := 10, total := 10, extents := [extent 0 0 false] }
     s.rd Reg.ARC_STAT_STATE = 2 ∧ s.arc.stopped = false ∧ (s.arc.extents.find? fun e => e.no = 1) = some (extent 0 0 false) ∧ (extent 0 0 false).isSealed = false ∧
       (extent 0 0 false).failedNs = false ∧ s.arc.total * shelfSec.reserve ≤ s.arc.free * 100 ∧ 11 ∉ s.cfg.due ∧
       11 ∈ ({ s with cfg := { s.cfg with due := [11] } } : State).cfg.due) ∧
    (let s := shelf 2 true { free := 0, total := 2 ^ 20, extents := [{ extent 0 1 true with no := 2 }, extent 0 0 false] }
     (s.arc.extents.find? fun e => e.no = 1) = some (extent 0 0 false) ∧ 11 ∉ s.cfg.due ∧ s.arc.free * 100 < s.arc.total * shelfSec.reserve ∧
       s.arc.extents = { extent 0 1 true with no := 2 } :: [extent 0 0 false] ∧ (∀ e ∈ [extent 0 0 false], e.no ≠ 2) ∧
       s.arc.total * shelfSec.reserve ≤ min s.arc.total (s.arc.free + 2 * 2 ^ 20) * 100) ∧
    (let s := shelf 2 true { free := 0, total := 2 ^ 20, extents := [extent 0 0 false] }
     11 ∉ s.cfg.due ∧ s.arc.free * 100 < s.arc.total * shelfSec.reserve ∧ (∀ e ∈ s.arc.extents, e.tier ≠ 1 ∧ e.cls ≠ 1 ∧ e.cls ≠ 2) ∧ Roomy s) := by
  unfold Roomy
  refine ⟨?_, ?_, ?_, ?_, ?_, ?_⟩ <;> decide +kernel

/-- `ArchiveWorks`: the shelf, disturbance windows and tiers. -/
theorem wit_archive_shelf :
    (let s := shelf 1 true { extents := [extent 0 0 false] }
     s.rd Reg.ARC_STAT_STATE = 1 ∧ s.rd Reg.PWR_STAT_THROTTLE = 0 ∧ shelfSec.nsids.length ≤ 64 ∧ Roomy s ∧
       (20 * 2 ^ 20 + (s.arc.extents.map (·.chunks)).sum * 2 ^ 20) * shelfSec.reserve ≤ 20 * 2 ^ 20 * 100) ∧
    (let s := shelf 2 true { extents := [extent 0 0 false] }
     s.rd Reg.ARC_STAT_STATE = 2 ∧ 1 ∈ shelfSec.nsids ∧ s.arc.nsFailed = [] ∧ s.rd Reg.PWR_STAT_THROTTLE = 0 ∧ Roomy s) ∧
    (distCause shelfSec 1 = true ∧ shelfSec.pre * 100000000 ≤ 10 ^ 10 ∧ (∀ w ∈ (shelf 2 true {}).arc.dist, w.closed = true ∨ 10 ^ 10 < w.start ∨ w.stop < 10 ^ 10) ∧
      (shelf 2 true { dist := [distWin false] }).arc.dist = [distWin false] ∧ (distWin false).closed = false ∧ (distWin false).start ≤ 10 ^ 10 ∧ 10 ^ 10 ≤ (distWin false).stop) ∧
    (let s := shelf 2 true { dist := [distWin false] }
     (distWin false).stop ≤ s.now ∧ Roomy s ∧ ({ s with tb := { s.tb with ns := 9 } } : State).now < (distWin false).stop) ∧
    (let s := shelf 2 true { extents := [{ extent 0 0 true with data := [[arcItem 0]] }, { extent 4 0 false with no := 2, data := [[arcItem 0]] }] }
     (s.arc.extents.find? fun x => x.no = 1) = some { extent 0 0 true with data := [[arcItem 0]] } ∧ distOpen s { extent 0 0 true with data := [[arcItem 0]] } = true ∧
       ({ s with tb := { s.tb with ns := 9 } } : State).now ≤ (extent 0 0 true).tlast + shelfSec.fullYrs * 15778800 * 1000000000) ∧
    (let e : Extent := { extent 0 0 true with data := [[arcItem 0]] }
     let s := shelf 2 true { extents := [e], extno := 1, free := 2 ^ 22, total := 2 ^ 22 }
     s.arc.extents = [e] ∧ s.rd Reg.ARC_STAT_STATE = 2 ∧ e.cls = 0 ∧ e.tier = 0 ∧ e.isSealed = true ∧ e.failedNs = false ∧ e.no ≤ s.arc.extno ∧
       e.tlast + shelfSec.fullYrs * 15778800 * 1000000000 < s.now ∧ s.rd Reg.ARC_STAT_KEYOK = 1 ∧ s.rd Reg.PWR_STAT_QUIESCE = 0 ∧
       s.arc.total * shelfSec.reserve ≤ min s.arc.total (s.arc.free - 2 ^ 20 - (packChunks (resampled shelfSec.decRate e)).length * 2 ^ 20 + e.chunks * 2 ^ 20) * 100) := by
  unfold Roomy
  refine ⟨?_, ?_, ?_, ?_, ?_, ?_⟩ <;> decide +kernel

def fetchReq (maxb : Nat) : FetchReq := ⟨0, 9, 1, 0, 5, 0, 6, 0, maxb⟩
def fetched : List Byte := le 8 3 ++ le 4 5 ++ le 4 0

/-- `ArchiveWorks`: the commands. -/
theorem wit_archive_commands :
    (let s := shelf 2 true {}
     (Takes s 0x0C01 ∧ Takes s 0x0C02 ∧ Takes s 0x0C03 ∧ Takes s 0x0C04 ∧ Takes s 0x0C05) ∧ winOpen s 6 = true ∧ winOpen s 5 = false ∧ 32768 ≤ winSize s 6 ∧
       5 ≤ ({ fetchReq 16 with cls := 5 } : FetchReq).cls ∧ ({ fetchReq 16 with tier := 2 } : FetchReq).tier ≠ 0xFF ∧ winSize s 6 < ({ fetchReq 16 with wofs := winSize s 6 + 1 } : FetchReq).wofs ∧
       arcKeyOk s = true ∧ arcKeyOk (shelf 2 false {}) = false ∧ s.arc.extents = [] ∧
       (∀ e ∈ (shelf 2 true { extents := [{ extent 0 0 true with tfirst := 6, tlast := 9 }] }).arc.extents, e.cls ≠ 0 ∨ e.failedNs = true ∨ e.tlast < (fetchReq 16).tfrom ∨ (fetchReq 16).tto < e.tfirst)) ∧
    (let e : Extent := { extent 0 0 true with tlast := 3, data := [[arcItem 3]] }
     let s := shelf 2 true { extents := [e] }
     Takes s 0x0C02 ∧ arcKeyOk s = true ∧ s.rd Reg.ARC_STAT_KEYOK = 1 ∧ s.key.slots.get? shelfSec.arkSlot = some archSlot ∧ s.hbr.sides = [] ∧ s.arc.extents = [e] ∧
       e.cls = (fetchReq 16).cls ∧ e.stream = (fetchReq 16).stream ∧ e.tier = 0 ∧ (fetchReq 16).tier ≠ 1 ∧ e.failedNs = false ∧ (fetchReq 16).tfrom ≤ e.tlast ∧ e.tfirst ≤ (fetchReq 16).tto ∧
       (fetchReq 16).tfrom ≤ (arcItem 3).t ∧ (arcItem 3).t ≤ (fetchReq 16).tto ∧ (arcItem 3).body = [] ∧
       fetched = le 8 (arcItem 3).t ++ ((((arcItem 3).chans.zipIdx.filter fun c => bit (fetchReq 16).chmask c.2).map (·.1)).flatMap fun c => le 4 c.1) ++
         ((((arcItem 3).chans.zipIdx.filter fun c => bit (fetchReq 16).chmask c.2).map (·.1)).flatMap fun c => le 4 c.2) ∧
       fetched.length ≤ (fetchReq 16).maxb ∧ (fetchReq 16).wofs + fetched.length ≤ winSize s 6 ∧ (fetchReq 15).maxb < fetched.length) ∧
    (let s := shelf 2 true { dist := [distWin true] }
     shelfSec.trigMark = true ∧ s.rd Reg.ARC_STAT_STATE ≠ 0 ∧ (shelf 0 true {}).rd Reg.ARC_STAT_STATE = 0 ∧ (∀ w ∈ s.arc.dist, w.closed = true) ∧ (0 < 1 ∧ 1 ≤ 10) ∧
       (∀ w ∈ s.arc.dist, w.did ≠ 2) ∧ Takes s 0x0C05 ∧ comItems s 1 9 = []) := by
  unfold Takes
  refine ⟨?_, ?_, ?_⟩ <;> decide +kernel

/-- A module whose window 1 is in a DIST extent. -/
def comtrade : State := shelf 2 true { dist := [distWin true], extents := [{ extent 4 0 true with stream := 1, data := [[arcItem 3]] }] }

theorem comText_length (n : Nat) : (comText n).length ≤ 64 := by
  simp only [comText, List.length_map, List.length_take]
  omega

theorem comCfg_length : (comCfg comtrade 0 5 [arcItem 3]).length ≤ 1900 := by
  have h0 := comText_length 0
  have h1 := comText_length 1
  have h2 := comText_length 2
  have h3 := comText_length 3
  have h4 := comText_length 4
  have h5 := comText_length 5
  simp only [comCfg, comChannel, List.flatMap_cons, List.flatMap_nil, List.length_append, List.map_cons, List.map_nil, List.cons_append, List.nil_append,
    List.range_succ, List.head?_cons, Option.map_some, Option.getD_some, arcItem, List.length_cons, List.length_nil, List.range_zero, List.append_assoc]
  have ht : (comTime comtrade 3).length ≤ 50 ∧ (comTime comtrade 5).length ≤ 50 := by decide +kernel
  have ho : (comOffset (localOffset comtrade (utcAt comtrade 5))).length ≤ 50 ∧ (digits 1 (leapNow comtrade)).length ≤ 50 ∧
      (digits 1 (match comtrade.s08 with
        | some c => c.fnom
        | none => Config.fnomBare)).length ≤ 50 := by decide +kernel
  have ha : (ascii ",").length = 1 ∧ (ascii ",2013").length = 5 ∧ (ascii "A,0D").length = 4 ∧ (ascii ",,").length = 2 ∧ (ascii "BINARY32").length = 8 ∧
      (ascii ",+0h00").length = 6 ∧ (ascii (if 0 % 8 < 4 then "A,0.001,0" else "V,0.01,0")).length = 9 := by decide +kernel
  have hg : (digits 1 0).length ≤ 2 ∧ (digits 1 1).length ≤ 2 := by decide +kernel
  simp only [Nat.mul_zero, Nat.add_zero, Nat.zero_add] at *
  generalize (comTime comtrade 3).length = a at *
  generalize (comTime comtrade 5).length = b at *
  generalize (comOffset (localOffset comtrade (utcAt comtrade 5))).length = c at *
  generalize (digits 1 (leapNow comtrade)).length = d at *
  generalize (digits 1 (match comtrade.s08 with
    | some c => c.fnom
    | none => Config.fnomBare)).length = e at *
  omega

/-- `ArchiveWorks`: ARC_COMTRADE, whose files fit the window whatever its free texts. -/
theorem wit_comtrade (cfg dat : List Byte) (hc : cfg = comCfg comtrade 0 5 [arcItem 3]) (hd : dat = comDat [arcItem 3]) :
    (arcKeyOk comtrade = true ∧ Takes comtrade 0x0C05 ∧ comtrade.arc.dist = [distWin true] ∧ (distWin true).did = 1 ∧ (distWin true).closed = true ∧ [arcItem 3] = comItems comtrade 1 9 ∧
      (((sec07 comtrade).sv.get? 9).map (·.rate)).getD 0 = 0 ∧ (distWin true).trig = 5 ∧ comtrade.rd Reg.ARC_STAT_STATE ≠ 0 ∧ comtrade.rd Reg.ARC_STAT_KEYOK = 1 ∧
      comtrade.key.slots.get? shelfSec.arkSlot = some archSlot ∧ comtrade.hbr.sides = []) ∧
    min 0 (winSize comtrade 6 - 0) < (cfg.length + 3) / 4 * 4 + dat.length ∧
    (cfg.length + 3) / 4 * 4 + dat.length ≤ 2000 ∧ 0 + ((cfg.length + 3) / 4 * 4 + dat.length) ≤ winSize comtrade 6 := by
  have hl : dat.length = 12 := by subst hd; decide +kernel
  have hw : 32768 ≤ winSize comtrade 6 := by decide +kernel
  have hn : cfg.length ≤ 1900 := hc ▸ comCfg_length
  refine ⟨?_, by omega, by omega, by omega⟩
  unfold Takes
  decide +kernel

/-! ### Keys, updates, campaigns -/

def slotOf (uses : Nat) : KeySlot := ⟨3, 2, 2, uses, false, 1, 7⟩
/-- 77 wrapped under the KEK of a burl of zeros. -/
def wrap77 : List Byte := be 40 0x5695490e9c1c038055c0e0871e7b0ebb0ae932085a71a9ee528199a9a680d4205ecae0791c46074c
/-- A key update message of one entry as it stands in a window. -/
def messageBytes (flags ucnt : Nat) (ent wrap : List Byte) : List Byte :=
  le 4 0x4450554B ++ [1, 1] ++ le 2 flags ++ le 16 base.fuses.unitId ++ le 8 ucnt ++ ent ++ [0] ++ le 2 4 ++ le 4 9 ++ wrap ++ zeros 4 ++ zeros 64
/-- A key unit with slot 5 counted and slot 6 not, an owner, window 1 open to path 0 for reading. -/
def keyed (f : Keys → Keys) : State :=
  { withRegs [(Reg.HBR_WIN_POL_EN 1, 1), (Reg.HBR_WIN_MAP_SIZE 1, 9), (Reg.HBR_WIN_POL_RD 1, 1), (Reg.HBR_WIN_POL_PATH 1, 31)] with
      key := f { base.key with slots := [(5, slotOf 1), (6, slotOf 0xFFFFFFFF), (7, slotOf 0)], owner := [(1, 9)], burl := true } }
/-- The module above with a message in window 1. -/
def keyWindow (b : List Byte) (f : Keys → Keys) : State := { keyed f with hbr := { base.hbr with ddr := Mem.writeList 0 [] 0 b } }
def goodBytes (flags : Nat) : List Byte := messageBytes flags (2 ^ 33 + 4) [5, 1, 3, 2, 7] wrap77
def claimBytes : List Byte := messageBytes 1 4 [0, 1, 8, 4, 0] wrap77
def job (id : Nat) (rt : Bool) (pieces total mark : Nat) : CryJob := ⟨id, rt, pieces, total, true, none, 0, mark⟩
/-- Engine 3 as given. -/
def engine3 (g : CryEng) : State := keyed fun k => { k with engs := [(3, g)] }

theorem wit_KeysAndEngines :
    (let s := keyed id
     s.key.slots.get? 5 = some (slotOf 1) ∧ s.key.slots.get? 6 = some (slotOf 0xFFFFFFFF) ∧ bit (slotOf 1).usage KeyUse.encrypt.bit = true ∧ (slotOf 1).alg = 2 ∧
       bit (slotOf 1).dmask 1 = true ∧ s.key.latch = false ∧ Roomy s ∧ s.key.slots.get? 8 = none ∧ s.key.slots.get? 7 = some (slotOf 0)) ∧
    (Takes base 0x0D04 ∧ Takes base 0x0D01 ∧ Takes base 0x0D03 ∧ Roomy base ∧ base.key.tampLow = false ∧ base.key.zerLow = false ∧ 0x5A5B ≠ 0x5A5A ∧ 255 < 256) ∧
    (let s := engine3 { cur := some (job 1 false 9 20 0) }
     s.runs 1 = true ∧ s.key.slots.has 9 = false ∧ (∀ x, some 5 = some x → s.key.latch = false ∧ s.key.slots.has x = true) ∧
       (∀ e, e < 4 → (s.eng 0).pend true ≤ (s.eng e).pend true) ∧ (∀ e, e < 0 → (s.eng 0).pend true < (s.eng e).pend true) ∧ (s.eng 0).cur = none ∧ (s.eng 0).rt = [] ∧
       (s.eng 0).bulk = []) ∧
    (let s := keyed fun k => { k with engs := [(0, { cur := some (job 1 false 9 20 0) }), (1, { cur := some (job 2 false 9 20 0) }), (2, { cur := some (job 3 false 9 20 0) }), (3, { cur := some (job 4 false 8 20 0) })] }
     (∀ e, e < 4 → (s.eng 3).pend false ≤ (s.eng e).pend false) ∧ (∀ e, e < 3 → (s.eng 3).pend false < (s.eng e).pend false) ∧ (s.eng 3).cur ≠ none) ∧
    (let s := engine3 { cur := some (job 1 false 1 20 0) }
     s.hbr.waiting = [] ∧ s.key.old = [] ∧ (s.eng 3).cur = some (job 1 false 1 20 0) ∧ (s.eng 3).rt = [] ∧ (s.eng 3).bulk = [] ∧ (s.eng 0).cur = none) ∧
    (let s := engine3 { cur := some (job 1 false 9 16 0) }
     s.hbr.waiting = [] ∧ s.key.old = [] ∧ (s.eng 3).cur = some (job 1 false 9 16 0) ∧ (s.eng 3).rt = [] ∧ (s.eng 3).bulk = []) ∧
    (let s := engine3 { cur := some (job 1 false 9 20 0), rt := [job 2 true 2 2 0] }
     s.hbr.waiting = [] ∧ s.key.old = [] ∧ (s.eng 3).cur = some (job 1 false 9 20 0) ∧ (s.eng 3).rt = [job 2 true 2 2 0] ∧ (s.eng 3).bulk = []) ∧
    (let s := engine3 { cur := some (job 1 false 9 20 2) }
     s.hbr.waiting = [] ∧ s.key.old = [] ∧ (s.eng 3).cur = some (job 1 false 9 20 2) ∧ (s.eng 3).rt = [] ∧ (s.eng 3).bulk = []) := by
  unfold Takes Roomy
  refine ⟨?_, ?_, ⟨?_, ?_, ?_, ?_⟩, ?_, ?_, ?_, ?_, ?_⟩
  case refine_5 => rintro x ⟨⟩; decide +kernel
  all_goals decide +kernel

/-- The KEK of a burl of zeros, as another implementation of Table KEY-2 gives it, and what it unwraps. -/
def kek0 : Nat := 0xcc92478041b02a184e5dca928ec778d1e15cce7eef0412eb058f5810676bd834
theorem test_kek : fromBurl base "GWB-KEK" [] 256 = kek0 := by decide +kernel
theorem test_unwrap : keyUnwrap (be 32 kek0) wrap77 = some (be 32 77) := by decide +kernel
theorem test_unwrap_bad : keyUnwrap (be 32 kek0) (zeros 40) = none := by decide +kernel

/-- The entry of a message of one. -/
def entryOne (b : List Byte) : KeyEnt := entryOf (be 32 kek0) ((b.drop 32).take 56)
def badBytes : List Byte := messageBytes 0 (2 ^ 33 + 4) [5, 1, 3, 2, 7] (zeros 40)

theorem keyMsg_ents (b : List Byte) (l : List Nat) (h : fromLe ((b.drop 5).take 1) = 1) (hb : ((b.drop 32).take 56).length = 56) :
    (keyMsgOf base b l).ents = [entryOne b] := by
  simp only [keyMsgOf, entryOne, h, test_kek, Nat.mul_one]
  generalize (b.drop 32).take 56 = x at *
  cases x with
  | nil => simp at hb
  | cons y x =>
    have hx : x.length ≤ 55 := by simp at hb; omega
    simp [blocksOfBytes, List.take_of_length_le hx]

theorem entryOne_val (b w : List Byte) (ho : fromLe ((((b.drop 32).take 56).drop 1).take 1) = 1) (hw : (((b.drop 32).take 56).drop 12).take 40 = w) :
    (entryOne b).wrapOk = (keyUnwrap (be 32 kek0) w).isSome ∧ (entryOne b).key = ((keyUnwrap (be 32 kek0) w).map fromBe).getD 0 := by
  simp only [entryOne, entryOf, ho, hw, if_true, and_self]

/-- `KeysAndEngines`: the messages. -/
theorem wit_key_messages :
    (∀ f, f < 4 → let m := keyMsgOf base (goodBytes f) [3, 9]
      m.formOk = true ∧ m.unit = base.fuses.unitId ∧ m.ucnt = 2 ^ 33 + 4 ∧ m.claim = decide (f % 2 = 1) ∧ m.clearLatch = decide (2 ≤ f) ∧ m.signers = [3, 9]) ∧
    (let m := keyMsgOf base claimBytes [77]
     m.formOk = true ∧ m.unit = base.fuses.unitId ∧ m.ucnt = 4 ∧ m.claim = true ∧ m.clearLatch = false ∧ m.signers = [77]) ∧
    (let m := keyMsgOf base badBytes [3, 9]
     m.formOk = true ∧ m.unit = base.fuses.unitId ∧ m.claim = false ∧ m.signers = [3, 9] ∧ base.key.ucnt < m.ucnt) ∧
    (keyMsgOf base (zeros 5 ++ [1] ++ zeros 146) []).formOk = false ∧
    (∀ b ∈ [goodBytes 2, claimBytes, badBytes], let e := entryOne b
      e.resvOk = true ∧ e.usage < 64 ∧ 1 ≤ e.alg ∧ e.alg ≤ 4 ∧ e.dmask < 32 ∧ e.op = .write ∧ (b ≠ claimBytes → 2 ≤ e.slot ∧ e.slot < 256) ∧
        (b = claimBytes → e.slot = 0 ∧ e.alg = 4 ∧ e.usage = 8 ∧ e.dmask = 0)) := by
  refine ⟨?_, ?_, ?_, ?_, ?_⟩ <;> decide +kernel

/-- The values: `goodBytes` and `claimBytes` hold 77, which unwraps; `badBytes` holds none. -/
theorem wit_key_values :
    ((entryOne (goodBytes 2)).wrapOk = true ∧ (entryOne claimBytes).wrapOk = true ∧ (entryOne claimBytes).key ∈ [77] ∧ (entryOne badBytes).wrapOk = false) ∧
      ∀ b ∈ [goodBytes 2, claimBytes, badBytes], ∀ l, (keyMsgOf base b l).ents = [entryOne b] := by
  obtain ⟨h1, -⟩ := entryOne_val (goodBytes 2) wrap77 (by decide +kernel) (by decide +kernel)
  obtain ⟨h2, h3⟩ := entryOne_val claimBytes wrap77 (by decide +kernel) (by decide +kernel)
  obtain ⟨h4, -⟩ := entryOne_val badBytes (zeros 40) (by decide +kernel) (by decide +kernel)
  rw [test_unwrap] at h1 h2 h3
  rw [test_unwrap_bad] at h4
  refine ⟨⟨h1, h2, ?_, h4⟩, ?_⟩
  · rw [h3]; decide +kernel
  · intro b hb l
    apply keyMsg_ents
    · revert b; decide +kernel
    · revert b; decide +kernel

/-- A message depends on the burl alone. -/
theorem keyMsg_base (s : State) (b : List Byte) (l : List Nat) (h : s.fuses.burl = base.fuses.burl) : keyMsgOf s b l = keyMsgOf base b l := by
  simp [keyMsgOf, fromBurl, h]

theorem wit_key_update :
    (∀ b ∈ [goodBytes 0, goodBytes 2, goodBytes 3, badBytes, zeros 5 ++ [1] ++ zeros 146, claimBytes],
      let s := keyWindow b id
      winRead s 1 0 152 = b ∧ s.fuses.burl = base.fuses.burl ∧ Takes s 0x0D02 ∧ 152 = 96 + 56 * (b.getD 5 0).toNat ∧ winCommand s 1 0 152 = true ∧ winCommand s 2 0 152 = false ∧ Roomy s) ∧
    (let s := keyWindow (goodBytes 2) id
     base.fuses.unitId = s.fuses.unitId ∧ s.key.ucnt < 2 ^ 33 + 4 ∧ 9 ∈ ownerVals s ∧ (∀ h ∈ [3], h ∉ ownerVals s) ∧ s.key.owner ≠ [] ∧ s.key.burl = true ∧ s.key.tampLow = false ∧ s.key.zerLow = false ∧ fabWaits s = false) ∧
    (base.fuses.unitId ≠ ({ keyWindow (goodBytes 2) id with fuses := { base.fuses with unitId := 0 } } : State).fuses.unitId ∧
      2 ^ 33 + 4 ≤ (keyWindow (goodBytes 2) fun k => { k with ucnt := 2 ^ 33 + 4 }).key.ucnt ∧
      winRead (keyWindow (goodBytes 2) fun k => { k with tampLow := true }) 1 0 152 = goodBytes 2 ∧ (keyWindow (goodBytes 2) fun k => { k with tampLow := true }).key.tampLow = true ∧
      fabWaits { keyWindow (goodBytes 2) id with hbr := { base.hbr with ddr := Mem.writeList 0 [] 0 (goodBytes 2), waiting := [.win7 0] } } = true) ∧
    (let s := keyWindow claimBytes fun k => { k with owner := [] }
     winRead s 1 0 152 = claimBytes ∧ Takes s 0x0D02 ∧ Roomy s ∧ winCommand s 1 0 152 = true ∧ base.fuses.unitId = s.fuses.unitId ∧ s.key.ucnt < 4 ∧ s.key.owner = [] ∧ fabWaits s = false ∧ s.key.burl = true) := by
  unfold Takes Roomy
  refine ⟨?_, ?_, ?_, ?_⟩ <;> decide +kernel

/-- `loaded` with the update unit in the state given, its billet staged or running. -/
def updating (l : List (Fld × Nat)) (staged : Option Billet) : State :=
  { loaded.wrs l with cfg := { loaded.cfg with image := some image }, upd := { loaded.upd with staged := staged } }
/-- Recovery boot with a command of the given operation, address and length for CFG_B. -/
def recovering (op addr len : Nat) : State :=
  { withRegs [(Reg.UPD_STAT_RCV, 1), (Reg.UPD_RSTAT_BUSY, 1), (Reg.UPD_RCMD_OP, op), (Reg.UPD_RCMD_DEV, 1), (Reg.UPD_RADDR_ADDR, addr), (Reg.UPD_RLEN_LEN, len)] with
      key := { base.key with owner := [(0, 7)], burl := true } }

theorem wit_BilletsAndRecovery :
    (let s := updating [] none
     s.cfg.dev < 2 ∧ Takes s 0x0210 ∧ s.rd Reg.SUP_CFGSTAT_STATE = 0 ∧ 1 ≤ 1 ∧ s.cfg.win7 ≠ 2 + 1 ∧ fabWaits s = false ∧ Takes s 0x0211 ∧ Takes s 0x0212 ∧ Takes s 0x0213 ∧ Takes s 0x0214 ∧
       Takes s 0x0215 ∧ s.rd Reg.UPD_STAT_STATE ≠ 1 ∧ s.rd Reg.UPD_STAT_STATE ≠ 4 ∧ s.upd.staged = none ∧ fabWaits { s with hbr := { s.hbr with waiting := [.win7 0] } } = true) ∧
    (updating [(Reg.SUP_CFGSTAT_STATE, 1)] none).rd Reg.SUP_CFGSTAT_STATE ≠ 0 ∧
    (let s := updating [(Reg.UPD_STAT_STATE, 1), (Reg.UPD_FLOOR_FLOOR, 3)] none
     Takes s 0x0211 ∧ s.rd Reg.UPD_STAT_STATE = 1 ∧ 64 ≤ 700 ∧ 700 ≤ 67108864 ∧
       (billet.magic = 0x4D425456 ∧ billet.bver = 1 ∧ billet.ncomp = 6 ∧ billet.resv = 0 ∧ billet.total ≤ 700 ∧ ¬ billet.total ≤ 699) ∧
       (billet.typ = s.fuses.typ ∧ billet.hwmin ≤ s.fuses.hwrev ∧ s.fuses.hwrev ≤ billet.hwmax ∧ billet.unit = 0 ∧ ({ billet with typ := 0 } : Billet).typ ≠ s.fuses.typ) ∧
       ((∃ h ∈ billet.signers, s.fuses.vendor[billet.keyidx]? = some h) ∧ bit s.fuses.revoked billet.keyidx = false ∧ bit ({ s.fuses with revoked := 1 } : Fuses).revoked billet.keyidx = true) ∧
       (({ billet with svn := 2 } : Billet).svn < s.rd Reg.UPD_FLOOR_FLOOR ∧ s.rd Reg.UPD_FLOOR_FLOOR ≤ billet.svn) ∧
       ((∀ id, id < 7 → 1 ≤ id → (billet.dir.filter fun c => c.id = id).length = 1) ∧ (∀ c ∈ billet.dir, c.off + c.body.length ≤ billet.total ∧ sha256 c.body = c.sha) ∧
         ¬((billet.dir.drop 1).filter fun c => c.id = 1).length = 1) ∧ billet.flashOk = true) ∧
    (let s := updating [(Reg.UPD_STAT_STATE, 2)] (some billet)
     Takes s 0x0212 ∧ s.upd.staged = some billet ∧ s.rd Reg.UPD_STAT_STATE = 2 ∧ trialOk 60 = true ∧ trialOk 59 = false ∧ s.rd Reg.SUP_CFGSTAT_STATE ≠ 1 ∧ s.rd Reg.SUP_CFGSTAT_STATE = 0 ∧
       s.cfg.image = some image ∧ Roomy s ∧ imageCheck s billet.fmttab true true 0x2000000 image = none ∧ s.sup.due = none ∧ billet.total ≤ 0x4000000 ∧ MemsOk s) ∧
    (let s := { updating [(Reg.UPD_STAT_STATE, 2)] (some billet) with cfg := { loaded.cfg with image := some { image with signers := [] } } }
     s.cfg.image = some { image with signers := [] } ∧ imageCheck s billet.fmttab true true 0x2000000 { image with signers := [] } = some St.SIG_FAIL ∧ St.SIG_FAIL ≠ 0) ∧
    (let s := updating [(Reg.UPD_STAT_STATE, 4), (Reg.UPD_FLOOR_FLOOR, 2)] none
     Takes s 0x0213 ∧ Takes s 0x0214 ∧ s.rd Reg.UPD_STAT_STATE = 4 ∧ s.upd.run = some billet ∧ s.rd Reg.UPD_FLOOR_FLOOR < billet.svn ∧ billet.svn < 2 ^ 32 ∧ Roomy s ∧ s.sup.due = none ∧
       trialRem s = 0 ∧ trialRem { s with upd := { s.upd with trialEnd := some 1000000001 } } ≠ 0) ∧
    (∀ c ∈ [(1, 0x7FFFFFC, 4), (1, 0x7FFFFFD, 4), (2, 0x1000000, 0), (2, 0x7000000, 0), (3, 0x6FFFF00, 256), (3, 0x7000000, 256), (4, 0, 0), (5, 0, 0)],
      let s := recovering c.1 c.2.1 c.2.2
      s.rd Reg.UPD_STAT_RCV = 1 ∧ s.rd Reg.UPD_RSTAT_BUSY = 1 ∧ s.rd Reg.UPD_RADDR_ADDR = c.2.1 ∧ s.rd Reg.UPD_RLEN_LEN = c.2.2 ∧ s.rd Reg.UPD_RCMD_DEV = 1 ∧ MemsOk s ∧ s.rd Reg.UPD_RCMD_OP = c.1) ∧
    (let s := recovering 3 0x6FFFF00 256
     (∀ i, i < 256 → (s.dev 1).byte (0x6FFFF00 + i) = 0xFF) ∧
       let t := { s with cfg := { s.cfg with devB := { s.cfg.devB with flash := [⟨0x6FFFF00, 0xFE⟩] } }, upd := { s.upd with rbuf := [⟨0, 0xFF⟩] } }
       MemsOk t ∧ (∃ i, i < 256 ∧ Mem.read 0 t.upd.rbuf i &&& (t.dev 1).byte (0x6FFFF00 + i) ≠ Mem.read 0 t.upd.rbuf i)) ∧
    (let s := recovering 4 0 0
     billetCheck s 0x4000000 billet = none ∧ billetCheck s 0x4000000 { billet with keyidx := 4 } = some St.SIG_FAIL ∧ St.SIG_FAIL < 256 ∧
       imageCheck s billet.fmttab false false 0x2000000 image = none ∧ s.key.burl = true ∧
       let b : Billet := { billet with unit := s.fuses.unitId }
       let t : State := { s with key := { s.key with burl := false } }
       billetCheck t 0x4000000 b = none ∧ imageCheck t b.fmttab false false 0x2000000 image = none ∧ t.key.burl = false ∧ b.unit ≠ 0) ∧
    (let s := recovering 5 0 0; NoDevice s ∧ s.rd Reg.SUP_DOMSTAT_OCXO_LOST = 0) := by
  unfold Takes Roomy MemsOk NoDevice
  refine ⟨?_, ?_, ?_, ?_, ?_, ?_, ?_, ⟨?_, ?_, ⟨0, ?_, ?_⟩⟩, ?_, ?_⟩ <;> decide +kernel

def nodeBillet : NodeBillet := ⟨7, 3, 400, [], []⟩
/-- A node billet without payload, of 128 bytes, for model 7. -/
def nodeBytes (size : Nat) : List Byte := le 4 0x4E425456 ++ le 2 1 ++ le 2 0 ++ le 4 7 ++ le 4 3 ++ le 4 size ++ [1] ++ zeros 3 ++ sha256 [] ++ zeros 64 ++ zeros 8
/-- Window 1 open, a node billet loaded, and a campaign of its group as given, which runs or does not; no node. -/
def campaigning (running : Bool) (c : Camp) : State :=
  { withRegs [(Reg.HBR_WIN_POL_EN 1, 1), (Reg.HBR_WIN_MAP_SIZE 1, 9), (Reg.HBR_WIN_POL_RD 1, 1), (Reg.HBR_WIN_POL_PATH 1, 31)] with
      upd := { base.upd with nb := some nodeBillet, running := running, camp := c }, tb := { base.tb with ns := 10 ^ 12 } }
def camp (phase : Nat) : Camp := { no := 5, group := 3, ttl := 2, chgap := 4, nackwin := 77, phase := phase, nb := some nodeBillet }

theorem wit_Campaigns :
    (let s := campaigning false {}
     QuietLink s ∧ Takes s 0x0220 ∧ (128 ≤ 1572864 ∧ winCommand s 1 0 1572864 = true ∧ winCommand s 2 0 128 = false) ∧ Takes s 0x0221 ∧ s.upd.nb = some nodeBillet ∧ s.upd.running = false ∧ nbStartOk 0 4095 15 16 65535 5 86400 = true ∧
       nbStartOk 0 4095 16 16 65535 5 86400 = false ∧ Reportable s ∧ Roomy s ∧ (∀ p ∈ s.lnt.nodes, p.2.tsc = 0) ∧ s.upd.list = []) ∧
    (∀ n, n < 200 → n = 128 ∨ n = 129 →
      let s := { campaigning false {} with hbr := { base.hbr with ddr := Mem.writeList 0 [] 0 (nodeBytes n) } }
      let b := winRead s 1 0 128
      Takes s 0x0220 ∧ winCommand s 1 0 128 = true ∧
        ((fromLe ((b.drop 0).take 4) = 0x4E425456 ∧ fromLe ((b.drop 4).take 2) = 1 ∧ fromLe ((b.drop 6).take 2) = 0 ∧ fromLe ((b.drop 16).take 4) = 128 ∧ fromLe ((b.drop 21).take 3) = 0 ∧
          fromLe ((b.drop 120).take 8) = 0 ∧ sha256 (b.drop 128) = (b.drop 24).take 32) ↔ n = 128)) ∧
    (base.upd.nb = none ∧
      let d := { node5 with tsc := 1, rcd := { rosterRec with ln := 6, eui := 98 } }
      let s := { street with lnt := { street.lnt with nodes := [(6, d)] }, upd := { base.upd with nb := some nodeBillet } }
      QuietLink s ∧ Takes s 0x0221 ∧ s.upd.running = false ∧ 6 ∈ howlMembers s 0 0 ∧ s.node 6 = some d ∧ d.tsc ≠ 0) ∧
    (QuietLink segment ∧ Takes segment 0x0222 ∧ segment.upd.running = false ∧ (∀ ln ∈ [5], segment.node ln ≠ none) ∧ (∃ ln ∈ [6], segment.node ln = none) ∧
      (∀ ln ∈ [5], ln ∉ segment.upd.list) ∧ segment.upd.list.length + 1 ≤ 4096) ∧
    (let s := campaigning true (camp 4)
     QuietLink s ∧ Takes s 0x0223 ∧ Takes s 0x0222 ∧ Takes s 0x0221 ∧ s.upd.running = true ∧ s.camp.phase = 4 ∧ s.now + 3 * s.camp.chgap * (sec04 s).hper * 1000000 + 60000000000 ≤ 2 * 10 ^ 12 ∧
       s.camp.mode = 0 ∧ s.camp.uni = [] ∧ Reportable s ∧ Roomy s ∧ Takes s 0x0224 ∧ s.camp.phase ≠ 5 ∧ (∀ p ∈ s.lnt.nodes, p.2.tsc = 0) ∧ s.lnt.used = []) ∧
    (let s := campaigning true { camp 5 with act := 5 }; Takes s 0x0224 ∧ s.camp.phase = 5 ∧ s.camp.act ≤ s.now ∧ Reportable s ∧ Roomy s) ∧
    (Takes (campaigning true {}) 0x0225 ∧
      let s := campaigning true { camp 1 with slot := some 8 }
      s.runs 1 = true ∧ s.camp.slot = some 8 ∧ (9 - 8) % max 1 s.camp.chgap ≠ 0) ∧
    (let h : Howl := { howl0 with origin := 1 }
     let s := { campaigning true (camp 1) with lnt := { base.lnt with howls := [h] } }
     s.camp.slot = none ∧ s.lnt.howls = [h] ∧ h.origin ≠ 2 ∧ h.todo ≠ []) ∧
    (let s := campaigning true { camp 1 with todo := [(0x41, 1), (0x41, 2)] }
     s.lnt.howls = [] ∧ s.lnt.used = [] ∧ s.camp.slot = none ∧ s.camp.todo = (0x41, 1) :: [(0x41, 2)]) ∧
    (let s := campaigning true (camp 1)
     s.lnt.used = [] ∧ (∀ p ∈ s.lnt.nodes, p.2.tsc = 0) ∧ s.camp.todo = [] ∧ s.camp.phase = 1 ∧ s.camp.mode = 0 ∧ Reportable s ∧ Roomy s ∧ s.lnt.howls = [] ∧ s.camp.slot = none) ∧
    (let s := { campaigning true { camp 5 with acted := true, queryAt := 3 } with pwr := { base.pwr with ticks := 137 * 400000000 + 2 } }
     s.camp.todo = [] ∧ s.camp.phase = 5 ∧ s.camp.acted = true ∧ Reportable s ∧ Roomy s ∧ s.camp.queryAt + (s.camp.nackwin + 60) * 1000000000 ≤ s.up ∧ (campaigning true (camp 5)).up < 137000000000) ∧
    (let s := campaigning true { camp 2 with members := [1, 2], st := [(1, (1, [])), (2, (1, []))], answered := [2, 1], failed := [7] }
     s.camp.phase = 2 ∧ s.camp.todo = [] ∧ ∀ ln ∈ s.camp.members, s.camp.stOf ln = some 1 ∧ ln ∈ s.camp.answered) ∧
    (let s := campaigning true { camp 5 with act := 40000000000 }
     s.runs 1 = true ∧ s.camp.phase = 5 ∧ s.camp.acted = false ∧ s.camp.mode = 0 ∧ s.camp.act + 960000000000 ≤ s.now ∧ s.now < 40000000001 + 960000000000) := by
  unfold Takes Roomy QuietLink Reportable
  refine ⟨?_, ?_, ?_, ?_, ?_, ?_, ?_, ?_, ?_, ?_, ?_, ?_, ?_⟩ <;> decide +kernel

/-! ### Well-formedness: one ill-formed term for each check, and terms at the edge that it takes -/

theorem test_wf_numbers :
    (Instr.mbxOwnerWrite 5 0).wf = false ∧ (Instr.mbxOwnerWrite 4 0).wf = true ∧ (Instr.cfgStageOpen 65536).wf = false ∧ (Instr.cfgStageOpen 65535).wf = true ∧
    (Instr.domainWatchdogExpiry 0 []).wf = false ∧ (Instr.domainWatchdogExpiry 7 []).wf = false ∧ (Instr.domainWatchdogExpiry 6 []).wf = true ∧
    (Instr.mtrCalTrial 0 0 (-2 ^ 31 - 1) 0 0).wf = false ∧ (Instr.mtrCalTrial 0 0 (2 ^ 31 - 1) 0 (-2 ^ 31)).wf = true ∧ (Instr.mtrCalTrial 0 0 0 0 (2 ^ 31)).wf = false := by decide +kernel
theorem test_wf_lists :
    (Instr.warmRestart 1 (List.replicate 11 0)).wf = false ∧ (Instr.warmRestart 1 [65536]).wf = false ∧ (Instr.warmRestart 10 []).wf = false ∧
    (Instr.kennelWrite 95 []).wf = false ∧ (Instr.kennelWrite 144 []).wf = false ∧ (Instr.kennelWrite 143 [2 ^ 64]).wf = false ∧ (Instr.kennelWrite 143 [2 ^ 64 - 1]).wf = true ∧
    (Instr.mtrCntRead [0, 0, 0, 0, 0]).wf = false ∧ (Instr.mtrCntRead [2 ^ 32]).wf = false ∧ (Instr.laneEvent 0 0 [0, 0, 0, 0]).wf = false ∧
    (Instr.nbAddnodes 0 (List.replicate 81 1)).wf = false ∧ (Instr.rosterDel 0 [2 ^ 24]).wf = false ∧ (Instr.rosterPut 0 (List.replicate 6 rosterRec)).wf = false ∧
    (Instr.rosterPut 0 [{ rosterRec with feeder := 256 }]).wf = false ∧ (Instr.lockAcquire 0 0 8 0 false).wf = false ∧ (Instr.lockAcquire 2 4 7 (2 ^ 21 - 1) false).wf = true := by decide +kernel
theorem test_wf_frames :
    (Instr.mbxCmdpiDoorbell 0 1 [⟨1, 1, 249, 0, 1, List.replicate 249 0⟩]).wf = false ∧ (Instr.tunnelDatagram ⟨0, 0, 256, 0, 0, [], true, false, []⟩).wf = false ∧
    (Instr.uplinkUvolt { frameOf 0 with chan := 512 } ⟨0, 0, 0, false⟩).wf = false ∧ (Instr.uplinkUvolt (frameOf 0) ⟨0, 0, 0, false⟩).wf = true ∧ (Instr.ackReceived ⟨511, 0, 0, false, 8, true, 2, false, false, false, 256, 0⟩).wf = false ∧
    (Instr.barkReceived (frameOf 0) ⟨0, 0, 16, 0, false, false, false, false, false, 0, 0, 0, 0, 0⟩).wf = false ∧
    (Instr.fwdAdd 0 0 (.mac 0 (2 ^ 48) 0)).wf = false ∧ (Instr.fwdAdd 0 0 (.mc 65536 0 0)).wf = false ∧ (Instr.fwdAdd 0 0 (.pfx (2 ^ 128) 0 0)).wf = false ∧
    (Instr.fwdAdd 0 0 (.nh 0 0 256 0)).wf = false ∧ (Instr.fwdAdd 0 0 (.eui (2 ^ 64))).wf = false ∧ (Instr.fwdAdd 0 0 (.eui (2 ^ 64 - 1))).wf = true ∧
    (Instr.arcFetch 0 ⟨256, 0, 0, 0, 0, 0, 0, 0, 0⟩ 0).wf = false := by decide +kernel
theorem test_wf_bus :
    (Instr.switchFrameReceived ⟨7, true, none, 0, 0, 0, none, false, false, 0, 0⟩ []).wf = false ∧
    (Instr.svAsduReceived ⟨0, 7, 0, 0, 0, [], 0, 0, 0, 0, 0, 0, false, []⟩ 0).wf = false ∧
    (Instr.uplinkNbNack (frameOf 0) ⟨65536, 0, []⟩).wf = false ∧ (Instr.switchFrameReceived ⟨6, true, none, 0, 0, 0, none, false, false, 0, 0⟩ []).wf = true := by decide +kernel

/-! ### The spec's check values and single steps -/

def nine : List Byte := [0x31, 0x32, 0x33, 0x34, 0x35, 0x36, 0x37, 0x38, 0x39]
/-- R817 and R967 over "123456789". -/
theorem test_crc_check_values : crc8 nine = 0xF4 ∧ crc32 nine = 0xCBF43926 := by decide +kernel

/-- R373 over "123456789": the published check values of the two codes it names. -/
theorem test_fcs_check_values : crc16 nine = 0x29B1 ∧ crc32Air nine = 0xFC891918 := by decide +kernel
/-- R372: the PN9 generator of all ones. -/
theorem test_pn9 : bitBytes 2 (pn9 16 0x1FF) = [0xFF, 0x87] := by decide +kernel
/-- Table KEY-2 with a burl of zeros, by another implementation of AES-CMAC. -/
theorem test_unit_id : fromBe (kdf (be 32 0) (ascii "GWB-UID") [] 128) = 0x69FE51D7357EB27B668B7404A6EEFC9F := by decide +kernel
/-- The published vectors of AES-256-GCM (case 14) and of HMAC-SHA-256 (case 1). -/
theorem test_gcm : gcm (zeros 32) (zeros 12) [] (zeros 16) = be 16 0xcea7403d4d606b6e074ec5d3baf39d18 ++ be 16 0xd0d1c8a799996bf0265b98b5d48ab919 := by decide +kernel
theorem test_hmac : hmac (List.replicate 20 0x0B) (ascii "Hi There") = be 32 0xb0344c61d8db38535ca8afceaf0bf12b881dc200c9833da726e9376c2e32cff7 := by decide +kernel
/-- R781: a stream of ones, of zeros, and one of half density. -/
theorem test_decimate : decimate (List.replicate 190 true) = [2 ^ 23 - 1] ∧ decimate (List.replicate 190 false) = [-2 ^ 23] ∧
    decimate ((List.range 190).map fun i => i % 2 = 0) = [0] := by decide +kernel
/-- R860: zigzag(−1) is 1, and the Rice code of 5 with K = 1 is 110 1. -/
theorem test_rice : deltas [3, 2, 4] = [1, 4] ∧ rice 1 5 = [true, true, false, true] := by decide +kernel

/-- The command answers a next state with the property. -/
def after (c : Instr) (s : State) (p : State → Bool) : Bool :=
  match exec c s with
  | .next t => p t
  | _ => false

/-- The queue is first in, first out, and its rest stays. -/
theorem test_step_order :
    (match step { base with pending := [.cfgStatus 1, .cfgStatus 2] } with
      | .next t => decide (t.pending = [.cfgStatus 2]) && (t.mbx.rsps.vals.map (·.tag) = [1])
      | _ => false) = true := by decide +kernel
/-- With the supervisor in reset nothing happens of itself. -/
theorem test_reset_idles : (match step State.reset with | .next t => decide (t = State.reset) | _ => false) = true := by decide +kernel
/-- A packet written to an empty kennel is the one its reader meets. -/
theorem test_kennel_fifo :
    after (.kennelWrite 0 [2, 8]) base (fun t => (t.knl 0).pkts = [[2, 8]]) = true := by decide +kernel
/-- Table MTR-4, quadrants: P below 0 and Q at or above 0 counts in the fourth accumulator. -/
theorem test_acc_quadrant : accAdd (-5) 3 9 = [0, 5, 0, 3, 0, 0, 9] := by decide
/-- The highest sequence number is followed by 1 (R818), and a later number is greater across the wrap. -/
theorem test_seq_wraps : nextSeq 0xFFFFFFFF = 1 ∧ seqGe 1 0xFFFFFFFF = true ∧ seqGe 0xFFFFFFFF 1 = false := by decide
/-- R957: the announcement first and after every 64 chunks. -/
theorem test_pass_order : (passHowls 65).take 2 = [(0x40, 0), (0x41, 0)] ∧ (passHowls 65).drop 65 = [(0x40, 0), (0x41, 64)] := by decide +kernel
/-- PROGRAM only clears bits of the flash. -/
theorem test_program_ands :
    after .recoveryProgram { recovering 3 0x6FFFF00 256 with upd := { base.upd with rbuf := [⟨0, 0x5A⟩] } }
      (fun t => (t.dev 1).byte 0x6FFFF00 = 0x5A && (t.dev 0).byte 0x6FFFF00 = 0xFF) = true := by decide +kernel


end Sys2Proof.Tests
end

section
/-! SUPPORT. How a host write ends that reaches its block, and one whose block's domain does not run (R32, R204, R249); what a command
completes with that stores one register field, or that changes the data the host has read alone. -/
namespace Sys2Proof.Machine

variable {s : State} {c : Instr} {f : Fld} {v path b : Nat}

/-- A block outside AON does not answer while its own domain does not run. -/
theorem blockRuns_of_stopped (hs : s.runs (blockDom b) = false) (hb : blockDom b ≠ 0) : blockRuns s b = false := by
  simp [blockRuns, hs, hb]

/-- A write to a block that does not answer is discarded, whatever its path. -/
theorem hostWrite_of_not_blockRuns (e : State → State) (h : blockRuns s b = false) : hostWrite s path b e = s := by
  simp [hostWrite, h]

/-- A write that path, domain and policy allow has its effect. -/
theorem hostWrite_of_writable (e : State → State) (h : Writable s path b) : hostWrite s path b e = e s := by
  obtain ⟨hopen, hruns, hmay⟩ := h
  simp [hostWrite, hopen, hruns, hmay]

/-- A command without effect changes nothing. -/
theorem completes_unchanged (h : exec c s = done s s) : Completes c s fun t => Only [] [] s t :=
  completes_done h (Only.refl [] [] s).settle

/-- A command that stores in a field a value of its width: the field holds it, and nothing else changes. -/
theorem completes_wr (h : exec c s = done s (s.wr f v)) (hv : v < 2 ^ f.w) :
    Completes c s fun t => Only [] [f] s t ∧ t.rd f = v := by
  refine completes_done h ⟨((Only.refl [] [f] s).wr v (by simp)).settle, ?_⟩
  rw [settle_rd, State.rd_wr_self, Nat.mod_eq_of_lt hv]

/-- A change of the mailbox part leaves the registers and every other part. -/
theorem Only.withMbx (s : State) (m : Mbx) : Only [.mbx] [] s { s with mbx := m } := by
  refine ⟨fun p hp => ?_, fun _ _ => rfl⟩
  cases p
  case mbx => exact absurd (List.mem_singleton_self _) hp
  all_goals rfl

/-- A read answered with ones changes the data the host has read, and nothing else. -/
theorem completes_readOnes (h : exec c s = done s { s with mbx := { s.mbx with lastRead := some 0xFFFFFFFF } }) :
    Completes c s fun t => t.mbx = { s.mbx with lastRead := some 0xFFFFFFFF } ∧ Only [.mbx] [] s t :=
  completes_done h ⟨settle_mbx s _, (Only.withMbx s _).settle⟩

end Sys2Proof.Machine
end

section
/-! PROOFS. The arbiter's registers (01_architecture.md, R60, R61), and the answers for a stopped domain (R32, R204). -/
namespace Sys2Proof.Machine

variable {s : State} {path n : Nat} {space off : Nat}

theorem clamp_of_lt {lo hi m : Nat} (h : m < lo) : clamp lo hi m = lo := if_pos h

theorem clamp_of_gt {lo hi m : Nat} (hlo : lo ≤ m) (h : hi < m) : clamp lo hi m = hi := by
  rw [clamp, if_neg (by omega), if_pos h]

theorem clamp_of_mem {lo hi m : Nat} (hlo : lo ≤ m) (h : m ≤ hi) : clamp lo hi m = m := by
  rw [clamp, if_neg (by omega), if_neg (by omega)]

theorem clamp_le {lo hi m : Nat} (h : lo ≤ hi) : clamp lo hi m ≤ hi := by
  unfold clamp
  split
  · exact h
  · split <;> omega

/-- ARB_CTL_WRITE that reaches the block stores the clamped NTH. -/
theorem exec_arbCtlWrite (v : Word) (h : Writable s path 17) :
    exec (.arbCtlWrite path v) s = done s (s.wr Reg.ARB_CTL_NTH (clamp 4 64 (v.toNat % 128))) :=
  congrArg (done s) (hostWrite_of_writable _ h)

/-- ARB_WGT_WRITE that reaches the block, of a port that exists, stores the weight, 1,024 at most. -/
theorem exec_arbWgtWrite (v : Word) (h : Writable s path 17) (hn : n < 8) :
    exec (.arbWgtWrite path n v) s = done s (s.wr (Reg.ARB_WGT_W n) (min 1024 (v.toNat % 2048))) := by
  refine congrArg (done s) ((hostWrite_of_writable _ h).trans (if_neg ?_))
  omega

/-- A write of the status responder's rows is discarded. -/
theorem exec_stoppedDomainAccess_write : exec (.stoppedDomainAccess space true off) s = done s s := rfl

/-- A read of a block that does not answer, or of BAR2 or BAR4 while APP does not run, gives ones. -/
theorem exec_stoppedDomainAccess_read (h : (if space = 0 then blockRuns s (off / 0x10000) else s.runs 1) = false) :
    exec (.stoppedDomainAccess space false off) s = done s { s with mbx := { s.mbx with lastRead := some 0xFFFFFFFF } } := by
  refine congrArg (done s) (if_neg ?_)
  simp [h]

/-- An aligned register write to a block that does not answer is discarded. -/
theorem exec_registerWrite_of_not_blockRuns (v : Word) (hw : Option Nat) (ha : off % 4 = 0) (h : blockRuns s (off / 0x10000) = false) :
    exec (.registerWrite path off v hw) s = done s s := by
  refine congrArg (done s) ?_
  simp [regWrite, ha, hostWrite_of_not_blockRuns _ h]

/-- Settles O8: the two writes as their single stores, the clamp of NTH split at its bounds. -/
theorem arbiterRegisterWrites : Obligations.ArbiterRegisterWrites := by
  constructor
  · intro path v s h
    have hlt : clamp 4 64 (v.toNat % 128) < 2 ^ Reg.ARB_CTL_NTH.w := Nat.lt_of_le_of_lt (clamp_le (by decide)) (by decide)
    obtain ⟨t, ht, honly, hrd⟩ := completes_wr (exec_arbCtlWrite v h) hlt
    exact ⟨t, ht, honly, fun hlow => hrd.trans (clamp_of_lt hlow), fun hhigh => hrd.trans (clamp_of_gt (by omega) hhigh),
      fun hlow hhigh => hrd.trans (clamp_of_mem hlow hhigh)⟩
  · intro path n v s h hn
    have hlt : min 1024 (v.toNat % 2048) < 2 ^ (Reg.ARB_WGT_W n).w := by
      simp only [Reg.ARB_WGT_W]; omega
    obtain ⟨t, ht, honly, hrd⟩ := completes_wr (exec_arbWgtWrite v h hn) hlt
    refine ⟨t, ht, honly, ?_⟩
    rw [hrd]
    split <;> omega

/-- Settles O14: a block of a stopped domain does not answer, so its reads give ones and its writes are discarded; BAR2 and BAR4 answer
with APP. -/
theorem stoppedDomainAnswers : Obligations.StoppedDomainAnswers := by
  constructor
  · intro off s hs hb
    have hstop : blockRuns s (off / 0x10000) = false := blockRuns_of_stopped hs hb
    exact ⟨completes_readOnes (exec_stoppedDomainAccess_read hstop), completes_unchanged exec_stoppedDomainAccess_write,
      fun path v hw ha => completes_unchanged (exec_registerWrite_of_not_blockRuns v hw ha hstop)⟩
  · intro space off s hs hspace
    have hbar : space ≠ 0 := by omega
    exact ⟨completes_readOnes (exec_stoppedDomainAccess_read ((if_neg hbar).trans hs)),
      completes_unchanged exec_stoppedDomainAccess_write⟩

end Sys2Proof.Machine
end
